-- ==== Sys2Proof/Word.lean ====
section
/-! DEFINITION. Word.lean: bytes, values, tables keyed by a number, and the operand records of the commands. -/

namespace Sys2Proof

/-- One byte of an SOP field, an object value or a memory (R90). -/
abbrev Byte := BitVec 8

/-- A finite map from numbers to entries, kept with strictly rising keys. An absent key holds the
default that each use of the table names. -/
abbrev Tab (α : Type) := List (Nat × α)

/-- The value of one object (R90): a number of any integer, BOOL, Qm.n (raw) or TIME80 type (TIME80 as
nanoseconds), or the raw bytes of a STRING, OCTETS or DOMAIN object. -/
inductive Val where
  | num (v : Int)
  | oct (bytes : List Byte)
deriving DecidableEq, Repr, Inhabited

/-- An object reference of R107. -/
structure ObjRef where
  idx : Nat
  sub : Nat
deriving DecidableEq, Repr, Inhabited

/-- A write entry of R107. `len` is LEN, the number of value bytes carried. -/
structure WriteEnt where
  obj : ObjRef
  len : Nat
  val : Val
deriving DecidableEq, Repr, Inhabited

/-- Where a datagram of SOP over UDP came in and who sent it to whom (R121): the NET port, the IPv4 addresses and the UDP
ports, and whether it is a fragment. -/
structure Datagram where
  net : Nat := 0
  srcIp : Nat := 0
  srcPort : Nat := 4864
  dstIp : Nat := 0
  dstPort : Nat := 4864
  frag : Bool := false
deriving DecidableEq, Repr, Inhabited

/-- A datagram of a Belvedere's input stream around its payload (R301, R302, R320): where it came in, and the payload type and
sequence number of its RTP header. -/
structure InPacket where
  source : Datagram
  payload : Nat
  seq : Nat
deriving DecidableEq, Repr, Inhabited

/-- What the Gatehouse sees of a request around its body: the path it came by (0 UDP, 1 CAN FD, 2 PCIe
mailbox, 3 relayed over Carriageway), the header fields of R100, its LENGTH, whether its tag verifies (`tagOk`) and whether
its body agrees with LENGTH and COUNT (`bodyOk`), the datagram that carried it (R121) and the priority of its CAN FD frames
(R123). [DESIGN CHOICE: log entry 10] -/
structure ReqHdr where
  path : Nat
  version : Nat
  node : Nat
  txid : Nat
  session : Nat
  counter : Nat
  length : Nat
  auth : Bool
  tagOk : Bool
  bodyOk : Bool
  udp : Datagram := {}
  prio : Nat := 0
deriving DecidableEq, Repr, Inhabited

/-- KIND, REFCH and TARGET of COMMIT and SNAPSHOT (R52, R53, R111). `value` is a time in nanoseconds for
TIME and a count for EPOCH. -/
structure Target where
  kind : Nat
  refch : Nat
  value : Nat
deriving DecidableEq, Repr, Inhabited

/-- One CAN FD frame as received (R122, R123). `fd`, `ext` and `rtr` tell the frame's kind. -/
structure CanFrame where
  fd : Bool
  ext : Bool
  rtr : Bool
  prio : Nat
  dir : Nat
  busaddr : Nat
  node : Nat
  service : Nat
  seq : Nat
  data : List Byte
deriving DecidableEq, Repr, Inhabited

/-- The identifier fields that the frames of one CAN FD message share (R123). -/
structure CanKey where
  prio : Nat
  busaddr : Nat
  node : Nat
  service : Nat
deriving DecidableEq, Repr, Inhabited

/-- A tagged bundle's record (R626). -/
structure TagRecord where
  ts : Nat
  cycle : Nat
  pav : Nat
  chan : Nat
  slots : Nat
  kind : Nat
  pc : Nat
  issue : Nat
  ready : Nat
  exec_ : Nat
  retire : Nat
  stall : Nat
  accel : Nat
deriving DecidableEq, Repr, Inhabited

/-- The verdict of one unit of a built-in test (R641). -/
structure TestVerdict where
  unit : Nat
  verdict : Nat
  errors : Nat
  detail : Nat
deriving DecidableEq, Repr, Inhabited

/-- One lane's segment of a pixel-link line as received (R408, R409, R419, R420): the symbols by which it lags
the earliest lane, the code violations and disparity errors seen in it, whether it ended in ABT, and the bytes
between SOL and EOL (header copy, share and SCRC). -/
structure Segment where
  lane : Nat
  lag : Nat
  violations : Nat
  disparity : Nat
  aborted : Bool
  bytes : List Byte
deriving DecidableEq, Repr, Inhabited

/-- One ring descriptor in host memory (R372). -/
structure Descr where
  addr : Nat
  buflen : Nat
  len : Nat
  mts : Nat
  nts : Nat
  flags : Nat
  epochLo : Nat
deriving DecidableEq, Repr, Inhabited

/-- One concealed block of a decoded picture (R311): its luma rectangle and the list-0 vector of its top-left corner's
co-located block, in 1/16 luma samples; zero where that block was intra-coded or concealed. -/
structure Concealed where
  x : Nat
  y : Nat
  w : Nat
  h : Nat
  vx : Int
  vy : Int
deriving DecidableEq, Repr, Inhabited

/-- What a Belvedere finds in one access unit (R303–R314): its timestamp, the PTP time at which its last byte came,
its kind (`rap` 1 a random-access point, 2 a GDR or recovery point, 0 neither; `rasl` a RASL picture), the recovery
count it carries, signalled profile and level, its size and format, the decoded samples, the CTUs concealed, the
references synthesised, and whether a picture hash failed. -/
structure AccessUnit where
  ts : Nat
  arrival : Nat
  rap : Nat
  rasl : Bool
  recovery : Option Nat
  profile : Nat
  level : Nat
  w : Nat
  h : Nat
  fmt : List Nat
  planes : List (List (List Nat))
  concealed : List Concealed
  refs : Nat
  hashBad : Bool
deriving DecidableEq, Repr, Inhabited

/-- An ARP packet (R346, R348): operation 1 request or 2 reply, sender and target addresses. -/
structure ArpPacket where
  op : Nat
  senderMac : Nat
  senderIp : Nat
  targetIp : Nat
deriving DecidableEq, Repr, Inhabited

/-- An ICMP echo request (R346): its addresses, its sender's MAC address, identifier, sequence number and data. -/
structure EchoPacket where
  senderMac : Nat
  senderIp : Nat
  targetIp : Nat
  ident : Nat
  seq : Nat
  data : List Byte
deriving DecidableEq, Repr, Inhabited

/-- A Sync (`follow` false) or Follow_Up (R329, R331): sender, domain, sequence number, twoStepFlag, origin timestamp in
PTP ns with the correction added, and the ingress timestamp at the port in this device's PTP ns. -/
structure SyncMsg where
  follow : Bool
  source : Nat
  domain : Nat
  seq : Nat
  twoStep : Bool
  origin : Nat
  ingress : Nat
deriving DecidableEq, Repr, Inhabited
/-- An Announce (R329): the sender and the data that the best master clock algorithm compares. -/
structure AnnounceMsg where
  source : Nat
  domain : Nat
  priority1 : Nat
  clockClass : Nat
  accuracy : Nat
  variance : Nat
  priority2 : Nat
  identity : Nat
  steps : Nat
  utc : Nat
  interval : Int
  smpte : List Byte
deriving DecidableEq, Repr, Inhabited
/-- A Delay_Resp (R329): sender, domain, sequence number and the receive timestamp with the correction taken off. -/
structure DelayRespMsg where
  source : Nat
  domain : Nat
  seq : Nat
  receive : Nat
deriving DecidableEq, Repr, Inhabited
/-- A Delay_Req (R329): sender, whether it came unicast, domain, sequence number and the ingress timestamp at the port in
this device's PTP ns. -/
structure DelayReqMsg where
  source : Nat
  unicast : Bool
  domain : Nat
  seq : Nat
  ingress : Nat
deriving DecidableEq, Repr, Inhabited
/-- A PTP message that the device sends (R329, R332): always with twoStepFlag 0. -/
structure PtpMsg where
  /-- R329. 0 Sync, 1 Delay_Req, 2 Delay_Resp, 3 Announce -/
  kind : Nat
  /-- R330. the port it leaves on -/
  port : Nat
  /-- R344. domain -/
  domain : Nat
  /-- R332. sequence number -/
  seq : Nat
  /-- R344. log2 of the interval of its kind, s -/
  interval : Int
  /-- R344. DSCP -/
  dscp : Nat
  /-- R329. sent to one clock; otherwise to 224.0.1.129 -/
  unicast : Bool
  /-- R329. for a Delay_Resp the clock that asked, for a unicast message the clock it goes to -/
  target : Nat
  /-- R332. originTimestamp of a Sync and a Delay_Req, receiveTimestamp of a Delay_Resp, PTP ns; 0 before it is written -/
  stamp : Nat
  /-- R329, R335. the data of an Announce -/
  ann : Option AnnounceMsg
  /-- R332. UDP checksum -/
  checksum : Nat
deriving DecidableEq, Repr, Inhabited

/-- One Carriageway frame (R427): its header fields, its payload, the CRC field as received, the lane of the port
(0–3) on which a code violation fell inside it, and whether it ended in ABT (R409). -/
structure CwFrame where
  seq : Nat
  vc : Nat
  dst : Nat
  src : Nat
  dom : Bool
  hops : Nat
  tag : Nat
  kind : Nat
  payload : List Byte
  crc : Nat
  violated : Option Nat
  aborted : Bool
deriving DecidableEq, Repr, Inhabited

/-- A JOIN as the manager weighs it (R446, R448, R449): the node, its place in the tree (parent, depth and the port toward the
parent), the nodes it has direct links to, whether its versions and packs equal the manager's, its attestation verifies, its
life-cycle state and owner slots agree, its Timebase is locked, its configuration digest, and whether it runs exactly the
channels hosted on it. -/
structure JoinMsg where
  node : Nat
  parent : Nat
  depth : Nat
  upPort : Nat
  links : Nat
  versions : Bool
  attested : Bool
  lifecycle : Bool
  locked : Bool
  digest : List Byte
  runsSame : Bool
deriving DecidableEq, Repr, Inhabited
/-- A PAIRID (R475, R487): the peer's role, and whether its image versions, pack digests and configuration digest
equal this unit's. -/
structure PairIdMsg where
  home : Bool
  versions : Bool
  packs : Bool
  digest : List Byte
deriving DecidableEq, Repr, Inhabited
/-- A digest record of the peer (R476). `same` says that SIZE and DIGEST equal this unit's own. -/
structure DigestRec where
  epoch : Nat
  chan : Nat
  type : Nat
  row : Nat
  unit : Nat
  flags : Nat
  size : Nat
  same : Bool
deriving DecidableEq, Repr, Inhabited
/-- A PAIRBEAT (R475): the peer's pair state, its mode, and the channels whose confidence alarm it shows. -/
structure PairBeatMsg where
  state : Nat
  mode : Nat
  alarms : List Nat
deriving DecidableEq, Repr, Inhabited

/-- A request that reaches a DRAM bank queue (R500, R504, R505): its class 0–3, whether it writes, and its device
address. -/
structure MemReq where
  cls : Nat
  write : Bool
  addr : Nat
deriving DecidableEq, Repr, Inhabited

/-- The straps as sampled (R443, R470, R648): CLUSTER_ROLE, NODE_ID and PAIR_HOME. [DESIGN CHOICE: log entry 97] -/
structure Straps where
  role : Nat
  node : Nat
  pairHome : Bool
deriving DecidableEq, Repr, Inhabited

/-- What STARTING found (R34, R97, R282, R516, R602): the banks (type × 2 + bank, type 1–3) and pack slots whose
signatures or digest fail, the stored-image slots (0 A, 1 B) whose digest or tag fails, the DRAM channels whose full
training failed with the step that failed, whether the seeded verification passed on every other, the lanes that
failed training, and the Pavilions that failed their self-test. -/
structure StartReport where
  badBanks : List Nat
  badPacks : List Nat
  badSlots : List Nat
  dram : List (Nat × Nat)
  seedOk : Bool
  lanes : List Nat
  pavs : List Nat
deriving DecidableEq, Repr, Inhabited

/-! What an access unit carries and what a band coach works on -/

/-- An ancillary packet of a line (R418): its source line, identifiers and user data words. -/
structure AncPacket where
  line : Nat
  did : Nat
  sdid : Nat
  udw : List Nat
deriving DecidableEq, Repr, Inhabited

/-- The kinds of data that an access unit carries outside its bands (R220, R221, R242, R245). -/
inductive ElementKind where
  | delimiter | parameters | buffering | timing | mastering | lightLevel | timecode | captions | ancillary | recovery
  | header | filters | hash
deriving DecidableEq, Repr, Inhabited

/-- A datum of one of those kinds, with the values it writes (R220, R221). -/
structure Element where
  kind : ElementKind
  data : List Nat
deriving DecidableEq, Repr, Inhabited

/-- The picture order values of R214: POC, frame_num, idr_pic_id and order_hint. -/
structure PicOrder where
  poc : Nat
  frameNum : Nat
  idr : Nat
  hint : Nat
deriving DecidableEq, Repr, Inhabited

/-- The receiver's buffer as the stream states it (R242): bit_rate, cbr_flag, CPB or smoothing-buffer size in bits, initial
removal delay in ns as a fraction, decoding units per picture, their removal-delay increment in ns as a fraction, and the
decoder and encoder buffer delays of AV1. -/
structure BufferModel where
  rate : Nat
  cbr : Bool
  size : Nat
  removal : Nat × Nat
  units : Nat
  increment : Nat × Nat
  decoderDelay : Nat
  encoderDelay : Nat
deriving DecidableEq, Repr, Inhabited

/-- Samples of a picture or a part of it: three planes of lines. -/
abbrev Planes := List (List (List Nat))

/-- A level-1 vector of a 16×16 luma block (R188): the block by column and row, the reference (0 the latest) and the vector in
1/4-area samples. -/
structure Seed where
  bx : Nat
  byy : Nat
  ref : Nat
  x : Int
  y : Int
deriving DecidableEq, Repr, Inhabited

/-- An entry of a motion field (R188, R190): block, reference, vector in luma samples and its level-0 SAD. -/
structure Motion where
  bx : Nat
  byy : Nat
  ref : Nat
  x : Int
  y : Int
  sad : Nat
deriving DecidableEq, Repr, Inhabited

/-- A reference window (R191): the epoch count of the reference, its luma columns from `x0` to `x1` − 1 and its lines from
`y0` to `y1` − 1. -/
structure Window where
  epoch : Nat
  x0 : Int
  x1 : Int
  y0 : Int
  y1 : Int
deriving DecidableEq, Repr, Inhabited

/-- What the floor form of a CTU writes (R247). -/
inductive FloorTool where
  | /-- R247. the largest CU that the CTU allows -/ largestCu
  | /-- R247. skip with the first merge candidate equal to the floor vector, else AMVP -/ skipOrAmvp
  | /-- R247. predictor index 0, with the difference to the floor vector -/ predictorZero
  | /-- R247. no residual -/ noResidual
  | /-- R247. ALF and CCALF CTB flags 0 -/ alfOff
  | /-- R247. SAO merged left where a left CTU exists, else off -/ saoLeft
  | /-- R247. DC prediction -/ dcMode
  | /-- R247. reference line 0 -/ lineZero
  | /-- R247. LFNST 0 -/ lfnstZero
  | /-- R247. chroma DM -/ chromaDm
  | /-- R247. UV_DC_PRED -/ chromaDc
  | /-- R247. the luma DC coefficient only, its level limited to ±15 -/ lumaDc
  | /-- R247. chroma coded block flags or pattern 0 -/ chromaZero
  | /-- R247. PARTITION_NONE -/ partitionNone
  | /-- R247. NEARESTMV or NEARMV from LAST when equal to the floor vector, else NEWMV -/ nearOrNew
  | /-- R247. skip 1 -/ skip
  | /-- R247. CDEF and loop-restoration parameters as in the last coded block -/ filtersAsLast
  | /-- R247. P_Skip when its predicted vector equals the floor vector, else P_L0_16x16 with the difference -/ pSkipOrL0
  | /-- R247. I_16x16 -/ intra16
  | /-- R247. every precinct at the greatest truncation -/ noBitPlanes
deriving DecidableEq, Repr, Inhabited

/-- The floor form of one CTU (R247, R248): intra or inter, its floor vector, QP, what it writes, and the most bits it can take. -/
structure FloorForm where
  intra : Bool
  vector : Option (Int × Int)
  qp : Option Nat
  tools : List FloorTool
  reserve : Nat
deriving DecidableEq, Repr, Inhabited

/-- What a band coach has resident when it runs (R184, R224): the program it runs by its pack digest, the channel's settings
and statistics, the picture's kind, order values, refresh column and references, the band's place, its input rows padded to
the coded size, its neighbour context, its motion field, its reference windows with their samples, its budget, and the
entropy coder's state at the start of an AV1 picture. -/
structure BandIn where
  program : List Byte
  settings : Tab Val
  stats : List Byte
  finer : List Byte
  key : Bool
  phase : Nat
  order : PicOrder
  refs : List Nat
  row : Nat
  col : Nat
  input : Planes
  context : List Byte
  field : List Motion
  windows : List (Window × Planes)
  budget : Nat
  floors : List FloorForm
  cdf : List Byte
deriving DecidableEq, Repr, Inhabited

/-- What a band coach leaves (R184, R185): its reconstruction, the band above in its tile with the seam between them finished,
the neighbour context for the band below, and the band statistics. -/
structure BandOut where
  recon : Planes
  above : Planes
  context : List Byte
  stats : List Byte
deriving DecidableEq, Repr, Inhabited

/-- An elementary stream's descriptors in a PMT (R358). -/
inductive Descriptor where
  | hevcVideo | vvcVideo | jxsVideo | av1Video
  | registration (name : List Nat)
deriving DecidableEq, Repr, Inhabited

/-- One elementary stream of a PMT (R358): its PID, its stream_type and its descriptors. -/
structure Stream where
  pid : Nat
  type : Nat
  descs : List Descriptor
deriving DecidableEq, Repr, Inhabited

/-- The PSI of a TS flow (R358–R360): transport_stream_id, program_number, the PMT's PID, the PCR's PID and the streams. -/
structure Psi where
  tsid : Nat
  program : Nat
  pmtPid : Nat
  pcrPid : Nat
  streams : List Stream
deriving DecidableEq, Repr, Inhabited

/-- The payload format of a flow, as its session description's rtpmap and fmtp lines say it (R356, R363, R366, R369). -/
inductive SdpFormat where
  | /-- R356. RFC 7798 -/ hevc
  | /-- R356. RFC 9328 -/ vvc
  | /-- R356. RFC 6184, packetization mode 1 -/ avc
  | /-- R208, R356, R369. RFC 9134 in slice packetization mode -/
    jpegXs (profile level sampling depth colorimetry transfer range : Nat)
  | /-- R363. MPEG-2 TS -/ ts
  | /-- R366. PCM: bits a sample, samples a second, channels, samples a packet -/ pcm (bits rate channels samples : Nat)
deriving DecidableEq, Repr, Inhabited

/-- One media description (R369): destination address and port, TTL, payload type and format. The payload type is absent where
no RTP header is sent. -/
structure SdpMedia where
  address : Nat
  port : Nat
  ttl : Nat
  payload : Option Nat
  format : SdpFormat
deriving DecidableEq, Repr, Inhabited

/-- The session description of a flow (R369): its media descriptions, grouped by a=group:DUP of RFC 7104 when there are two, and
the grandmaster identity and domain of a=ts-refclk. a=mediaclk is direct=0 in each. -/
structure Sdp where
  flow : Nat
  source : Nat
  ssrc : Nat
  media : List SdpMedia
  dup : Bool
  grandmaster : List Byte
  domain : Nat
deriving DecidableEq, Repr, Inhabited

/-- A unit handed to a delivery ring (R372–R374): its bytes, the number of its access unit, EPOCHLO, MTS, FLAGS, its departure
instant and the instant by which its write should be complete. -/
structure RingUnit where
  bytes : Nat
  au : Nat
  epochLo : Nat
  mts : Nat
  flags : Nat
  due : Nat
  until_ : Nat
deriving DecidableEq, Repr, Inhabited

end Sys2Proof
end

