-- ==== Sys2Proof/Syntax.lean ====
section
/-! DEFINITION. Syntax.lean: the commands the block accepts, one constructor per row of the opcode table. -/

namespace Sys2Proof

/-- The commands of spec/opcode_table.json, in its order. -/
inductive Instr where
  /-- HELLO (R580): A HELLO request carries one fragment of a session handshake message and is answered with the next handshake fragment or FINISH. -/
  | hello (h : ReqHdr) (step frag nfrag : Nat) (data : List Byte)
  /-- HANDSHAKE_TIMEOUT (R581): A handshake that has not reached FINISH within 5 s is abandoned. -/
  | handshakeTimeout (session : Nat)
  /-- CLOSE (R106): CLOSE ends the session and frees its resources. -/
  | close (h : ReqHdr)
  /-- SESSION_IDLE_TIMEOUT (R129): A session idle for the session idle timeout ends, and its unarmed open sets are discarded. -/
  | sessionIdleTimeout (session : Nat)
  /-- READ (R108): READ returns each named object with its own capture instant and status. -/
  | read (h : ReqHdr) (refs : List ObjRef)
  /-- WRITE (R109): WRITE executes its entries in order, each as a single-object commit, and stops at the first refusal. -/
  | write (h : ReqHdr) (entries : List WriteEnt)
  /-- DESCRIBE (R99): DESCRIBE returns the 28-byte descriptor of an object. -/
  | describe (h : ReqHdr) (obj : ObjRef)
  /-- OPEN_SET (R47): OPEN_SET frees the session's finished sets and gives the session the lowest-numbered free stage set. -/
  | openSet (h : ReqHdr)
  /-- STAGE (R110): STAGE checks each write entry and keeps the accepted entries in the named stage set. -/
  | stage (h : ReqHdr) (set : Nat) (entries : List WriteEnt)
  /-- READ_STAGED (R50): READ_STAGED returns the staged values of a set held open by the session. -/
  | readStaged (h : ReqHdr) (set : Nat) (refs : List ObjRef)
  /-- COMMIT (R57): COMMIT validates a stage set in the order of R668 and then arms it against its target, or refuses it. -/
  | commit (h : ReqHdr) (set : Nat) (target : Target)
  /-- ABORT (R60): ABORT disarms an armed set if it arrives before the set's ready point, and is refused with LATE otherwise. -/
  | abort (h : ReqHdr) (set : Nat)
  /-- DISCARD (R110): DISCARD drops an open, unarmed stage set of the session. -/
  | discard (h : ReqHdr) (set : Nat)
  /-- SNAPSHOT (R67): SNAPSHOT captures up to 64 objects at one instant, either immediately or at a target epoch. -/
  | snapshot (h : ReqHdr) (target : Target) (refs : List ObjRef)
  /-- BLOCK_INIT (R113): BLOCK_INIT opens a block transfer of a DOMAIN or OCTETS object, copying the value for a block read. -/
  | blockInit (h : ReqHdr) (obj : ObjRef) (set : Nat) (dir : Nat) (size : Nat)
  /-- BLOCK_SEG (R113): BLOCK_SEG moves one segment at the next consecutive offset of an open transfer. -/
  | blockSeg (h : ReqHdr) (xfer offset : Nat) (data : List Byte)
  /-- BLOCK_END (R114): BLOCK_END checks the SHAKE256 digest and then commits or stages the written object. -/
  | blockEnd (h : ReqHdr) (xfer : Nat) (digest : List Byte)
  /-- BLOCK_TRANSFER_TIMEOUT (R113): A block transfer with no segment for 2 s is abandoned and nothing of it is applied. -/
  | blockTransferTimeout (session : Nat)
  /-- SUBSCRIBE (R115): SUBSCRIBE adds a change, periodic or event-class subscription to the session. -/
  | subscribe (h : ReqHdr) (kind period mask : Nat) (obj : ObjRef)
  /-- UNSUBSCRIBE (R106): UNSUBSCRIBE removes a subscription of the session. -/
  | unsubscribe (h : ReqHdr) (subid : Nat)
  /-- PERIODIC_NOTICE (R115): At the end of each PERIOD of a periodic subscription, a notice carrying the object is sent. -/
  | periodicNotice (session subid : Nat)
  /-- STORE (R96): STORE writes the stored objects in force as one tagged image to the older flash slot. -/
  | store (h : ReqHdr)
  /-- STORE_COMPLETE (R96): Completion of the flash write of STORE reports the new generation, or STOREFAIL. -/
  | storeComplete (success : Bool)
  /-- CLEAR_STORE (R98): CLEAR_STORE invalidates both stored-image slots. -/
  | clearStore (h : ReqHdr)
  /-- WAKE (R125): A CAN FD WAKE frame carrying the wake code starts the wake transition in DORMANT. -/
  | wake (busaddr node : Nat) (code : List Byte)
  /-- CAN_FRAME_RECEIVED (R124): A CAN FD frame adds one SEQ-numbered piece to a message being reassembled. -/
  | canFrameReceived (f : CanFrame)
  /-- CAN_MESSAGE_TIMEOUT (R124): A CAN FD message whose next frame has not arrived within 10 ms is discarded. -/
  | canMessageTimeout (f : CanKey)
  /-- RELAY_TIMEOUT (R118): A request relayed to a worker that has not answered within 10 ms is refused with TIMEOUT. -/
  | relayTimeout (session txid : Nat)
  /-- MBX_GO (R128): A write of GO to MBX_CTRL hands the request buffer to the device, or sets OVERRUN while the mailbox is busy. -/
  | mbxGo (ctrl : Nat)
  /-- MBX_RSP_CLEAR (R128): The host clears RSP_VALID, freeing the response buffer for the next response. -/
  | mbxRspClear
  /-- MBX_NTC_CLEAR (R128): The host clears NTC_VALID, and the next queued notice enters the notice buffer. -/
  | mbxNtcClear
  /-- FENCE_VALUE_WRITE (R164): A BAR0 or RW write of a layer or slate fence value comes into force at the next tick. -/
  | fenceValueWrite (chan layer value : Nat)
  /-- RING_TAIL_WRITE (R375): A host write of RING_TAIL hands descriptors over to a delivery or input ring. -/
  | ringTailWrite (ring value : Nat)
  /-- RING_CTRL_WRITE (R371): A write of RING_CTRL enables or disables a ring and its interrupt. -/
  | ringCtrlWrite (ring value : Nat)
  /-- REGISTER_WRITE (R370): A write of a BAR0 register with no row of its own, which records CFGERR where it is not permitted. -/
  | registerWrite (offset value : Nat)
  /-- SAFE_CAUSE_ACK (R38): A write of OD 0x1002.04 acknowledges the SAFE causes whose rows allow it. -/
  | safeCauseAck (h : ReqHdr) (mask : Nat)
  /-- LIFECYCLE_REQUEST (R574): A write of OD 0x1F00.06 is tested, blows the fuses of a life-cycle transition, performs its actions and then a warm reset. -/
  | lifecycleRequest (h : ReqHdr) (value : Nat)
  /-- ROLLBACK_ADVANCE (R592): A write of OD 0x1F00.07 blows rollback fuses up to the value given. -/
  | rollbackAdvance (h : ReqHdr) (value : Nat)
  /-- SETTINGS_GENERATION_WRITE (R595): A write of OD 0x1F04.01 programs the lowest unprogrammed settings generation and reads it back. -/
  | settingsGenerationWrite (h : ReqHdr) (bytes : List Byte) (bad : List Nat)
  /-- PROGRAM_OWNER_SLOT (R586): A write of OD 0x1F13.01 programs an owner key slot with a hash. -/
  | programOwnerSlot (h : ReqHdr) (slot : Nat) (hash : List Byte)
  /-- REVOKE_OWNER_SLOT (R586): A write of OD 0x1F13.02 revokes an owner key slot. -/
  | revokeOwnerSlot (h : ReqHdr) (slot : Nat)
  /-- ATTESTATION_NONCE (R597): A write of the attestation nonce enables one signed attestation report. -/
  | attestationNonce (h : ReqHdr) (nonce : List Byte)
  /-- ARM_TRIAL (R601): A write of an image type to OD 0x1F32.01 arms a trial boot of the verified inactive bank. -/
  | armTrial (h : ReqHdr) (type : Nat)
  /-- CONFIRM_TRIAL (R601): A write of OD 0x1F32.02 within the confirm window makes the trial bank active. -/
  | confirmTrial (h : ReqHdr) (type : Nat)
  /-- CONFIRM_WINDOW_EXPIRY (R601): An unconfirmed trial past its confirm window makes a black-box entry, and the next start boots the old bank. -/
  | confirmWindowExpiry (type : Nat)
  /-- WARM_RESET (R565): A write of OD 0x1703.01 resets the VIN domain, keeping the root PLL and the Timebase, and enters STARTING. -/
  | warmReset (h : ReqHdr) (value : Nat)
  /-- MEDIA_DOMAIN_RESET (R567): A write of OD 0x1703.02 resets the media blocks to their defaults in the same mode within 2 ms. -/
  | mediaDomainReset (h : ReqHdr) (value : Nat)
  /-- TIME_SET (R326): A write of OD 0x1500.05 with host source steps the time where R326 permits. -/
  | timeSet (h : ReqHdr) (time : Nat)
  /-- APPLY_PENDING_STEP (R327): A write of OD 0x1500.0D applies a pending Timebase step, or is refused with BUSY. -/
  | applyPendingStep (h : ReqHdr) (value : Nat)
  /-- PPS_SECONDS_WRITE (R325): A write of OD 0x1500.0E names the seconds of the next PPS_IN edge. -/
  | ppsSecondsWrite (h : ReqHdr) (seconds : Nat)
  /-- ADJ_WRITE (R321): A write of ADJ with host source changes the rate and resets the origin pair in the same cycle. -/
  | adjWrite (h : ReqHdr) (adj : Int)
  /-- YIELD_NOW (R486): A write of OD 0x1400.06 makes a primary release DRAWBAR at the next tick. -/
  | yieldNow (h : ReqHdr) (value : Nat)
  /-- SNAPSHOT_NOW (R621): A write of OD 0x1D00.01 copies all performance counters at the next tick. -/
  | snapshotNow (h : ReqHdr) (value : Nat)
  /-- PERIODIC_COUNTER_SNAPSHOT (R621): At each whole multiple of the snapshot period, all performance counters are copied and staged selections take effect. -/
  | periodicCounterSnapshot
  /-- TAGGED_BUNDLE_RECORD (R626): A retiring tagged bundle writes its record into the tag ring, or the record is dropped and counted. -/
  | taggedBundleRecord (r : TagRecord) (steps : Nat) (portBusy : Bool)
  /-- TURNSTILE_BINDING (R607): A write of a Turnstile unit's binding applies at the next tick while the unit is idle. -/
  | turnstileBinding (h : ReqHdr) (unit : Nat) (bytes : List Byte)
  /-- TURNSTILE_CANCEL (R607): A write of a unit's cancel object discards its partial value and leaves the unit idle. -/
  | turnstileCancel (h : ReqHdr) (unit : Nat) (value : Nat)
  /-- TURNSTILE_WINDOW_END (R611): At the end of a window the unit compares its value with the expected value and reports the result. -/
  | turnstileWindowEnd (unit : Nat) (data : List Byte) (complete : Bool)
  /-- TURNSTILE_SOURCE_ENDED (R609): When its source stops, the unit ends its window with SOURCE ENDED. -/
  | turnstileSourceEnded (unit : Nat)
  /-- TEST_START (R640): A write of OD 0x1E10.04 in SERVICE starts a built-in test and moves the device to TEST. -/
  | testStart (h : ReqHdr) (value : Nat)
  /-- TEST_CANCEL (R640): A write of OD 0x1E10.05 cancels the running test. -/
  | testCancel (h : ReqHdr) (value : Nat)
  /-- TEST_COMPLETE (R639): A test that passes, fails or reaches its time limit records its results and returns the device to SERVICE. -/
  | testComplete (outcome duration : Nat) (verdicts : List TestVerdict)
  /-- HOST_NOTE (R635): A write of OD 0x1E00.06 queues a black-box entry of code 0x44. -/
  | hostNote (h : ReqHdr) (bytes : List Byte)
  /-- TIMETABLE_TICK (R285): At each 100 ns tick the Mews runs every due timetable entry, list by list. -/
  | timetableTick
  /-- COMMIT_FIRE (R58): At its target epoch an armed stage set applies in full, including any mode transition it carries. -/
  | commitFire (set : Nat)
  /-- COMMIT_READY_POINT (R61): At the ready point the surface fences are checked, and the set is deferred or abandoned if they are not signalled. -/
  | commitReadyPoint (set : Nat)
  /-- COMMIT_DECISION_POINT (R71): At the decision point the coordinator sends COMMIT, DEFER or ABORT to the members. -/
  | commitDecisionPoint (set : Nat)
  /-- COMMIT_CUTOFF (R72): A member with no decision at the cutoff disarms the set and is isolated. -/
  | commitCutoff (set : Nat)
  /-- ARM_DEADLINE (R70): A cluster commit not armed by every member at the arm deadline is aborted everywhere. -/
  | armDeadline (set : Nat)
  /-- CHANNEL_START (R667): A channel-start action begins a channel at its first boundary. -/
  | channelStart (chan : Nat)
  /-- CHANNEL_STOP (R667): A channel-stop action ends a channel at its boundary. -/
  | channelStop (chan : Nat)
  /-- SNAPSHOT_CAPTURE (R68): A snapshot capture action records the named objects at its epoch. -/
  | snapshotCapture (ref : Nat)
  /-- AUDIO_GROUP_START (R389): At G an audio group's ports take sample index 0. -/
  | audioGroupStart (group : Nat)
  /-- DRAM_RETRAINING_WINDOW (R517): A retraining window loads new WCK-to-DQ delays, or is abandoned during a debt payment and booked again. -/
  | dramRetrainingWindow (dch : Nat)
  /-- ALARM (R284): A free alarm action runs at its tick or late, reporting its lateness. -/
  | alarm (due ref session : Nat)
  /-- GPIO_PULSE (R338): A GPIO pulse action drives its ball at the DUE tick. -/
  | gpioPulse (due pin ref session : Nat)
  /-- TRIGGER_OUTPUT_PULSE (R337): A trigger generator produces a rising edge at its PTP instant, followed by the falling edge after its width. -/
  | triggerOutputPulse (tg : Nat) (edge : Nat)
  /-- FINISHED_SET_RELEASE (R80): A set that finished after its session ended becomes free once 60 s have passed. -/
  | finishedSetRelease (set : Nat)
  /-- LINE_RECEIVED (R423): The segments of a pixel-link line are deskewed, checked, rebuilt if needed, placed by LINE and stamped. -/
  | lineReceived (chan : Nat) (segs : List Segment) (stamp : Nat)
  /-- BOUNDARY_SUPPLIED (R169): When no line 0 has arrived by the expected boundary plus W lines, the receiver supplies the boundary and the picture is missing. -/
  | boundarySupplied (chan : Nat)
  /-- FIRST_BOUNDARY_SUPPLIED (R672): With no line 0 by T + P + W lines, the first boundary is supplied and becomes the cadence origin. -/
  | firstBoundarySupplied (chan : Nat)
  /-- DECODED_PICTURE_PRESENTED (R307): At an expected boundary of a Belvedere-fed channel, a decoded picture fills its slot, or the slot is missing. -/
  | decodedPicturePresented (chan : Nat)
  /-- LINE_MISSING (R170): A line not complete and intact by its deadline is filled under the line-fill policy. -/
  | lineMissing (chan line : Nat)
  /-- LANE_FAILED (R425): A lane whose segments fail for 64 consecutive lines is marked failed. -/
  | laneFailed (lane : Nat)
  /-- LANE_RESTORED (R425): A failed lane returns to up after 64 consecutive passing segments. -/
  | laneRestored (lane : Nat)
  /-- LANE_TRAINING_COMPLETE (R412): Full training of a lane or port ends with locked CDR and frozen equalisation. -/
  | laneTrainingComplete (lane : Nat) (success : Bool)
  /-- ELECTRICAL_IDLE_ENTRY (R413): A received EIS set puts the receiver into idle without counting it as failure. -/
  | electricalIdleEntry (lane : Nat)
  /-- FAST_EXIT (R413): An FTS burst wakes an idle lane direction, and the receiver relocks. -/
  | fastExit (lane : Nat) (relocked : Bool)
  /-- CARRIAGEWAY_IDLE_TIMEOUT (R414): A Carriageway direction with nothing to send for the idle time enters electrical idle. -/
  | carriagewayIdleTimeout (port : Nat)
  /-- PERGOLA_ROW_READY (R11): Once every sample of a CTU row is written in all planes and resolutions, the Pergola signals the row ready. -/
  | pergolaRowReady (chan row : Nat)
  /-- FETCH_COMPLETE (R262): A fetch coach completes when all reference windows of its band are resident. -/
  | fetchComplete (stall : Nat)
  /-- MOTION_FIELD_DELIVERED (R188): A search coach delivers the level-0 motion field of its band to the band's stall. -/
  | motionFieldDelivered (stall band : Nat)
  /-- ROW_BUDGET_SET (R250): A departure row's budget and its band budgets are set A + P lines after the row's first line. -/
  | rowBudgetSet (chan row : Nat)
  /-- OPERAND_TOKEN (R265): An operand token reaches its stall, and a coach whose operands are complete moves to its ready list. -/
  | operandToken (stall slot : Nat)
  /-- COACH_DISPATCH (R266): A unit that falls free takes the first permitted coach from the highest-priority ready list. -/
  | coachDispatch (pav : Nat)
  /-- BAND_RETIRE (R272): A band coach retires in band order after its entropy unit reports the band's last bit, and the Tollhouse records its size. -/
  | bandRetire (stall : Nat) (bits ctus floorCtus rateBits : Nat)
  /-- SEAM_COACH_COMPLETE (R199): A seam coach finishes the filtering at the tile seams of its CTU row. -/
  | seamCoachComplete (stall : Nat)
  /-- ENGINE_FAULT (R275): A detected engine fault discards the run and requeues the coach on list 0 with the faulting unit excluded. -/
  | engineFault (stall row : Nat) (word : Nat)
  /-- SELF_TEST_COMPLETE (R276): A probation self-test coach completes, and a failing result retires its Pavilion. -/
  | selfTestComplete (pav : Nat) (pass : Bool)
  /-- PROBATION_END (R276): A probation that lasts the retirement window without a fault returns the unit to plain working. -/
  | probationEnd (pav : Nat)
  /-- SPARE_READY (R280): A powered-up spare that has loaded its checkpoints takes the retired Pavilion's berths. -/
  | spareReady (pav : Nat) (digestOk : Bool)
  /-- DEPARTURE_ROW (R231): At a departure instant the gate sends the row's units, their substitutes, or withholds them as the pair state requires. -/
  | departureRow (chan row : Nat)
  /-- DEPARTURE_UNIT_RELEASE (R273): A departure coach releases its unit after its predecessor in the flow, and frees its stall when the last bit leaves. -/
  | departureUnitRelease (stall : Nat)
  /-- RING_DELIVERY (R373): A departure unit is written into delivery-ring descriptors and marked DONE, or discarded on overflow. -/
  | ringDelivery (ring bytes epoch mts flags : Nat) (descs : List Descr)
  /-- INPUT_RING_CONSUME (R375): The device consumes an access unit from input-ring descriptors and marks them DONE. -/
  | inputRingConsume (ring : Nat) (descs : List Descr)
  /-- INPUT_PACKET_RECEIVED (R302): An input packet on path A or B is merged by sequence number into the Belvedere's stream. -/
  | inputPacketReceived (chan path : Nat) (p : InPacket) (data : List Byte)
  /-- INPUT_PACKET_LOST (R302): A packet missing on both paths past the differential limit is counted as lost. -/
  | inputPacketLost (chan seq : Nat)
  /-- ACCESS_UNIT_DECODED (R303): A Belvedere finishes decoding an access unit, concealing any damage. -/
  | accessUnitDecoded (chan : Nat) (au : AccessUnit)
  /-- CONFIDENCE_ROW_RESULT (R297): The row check values of a checked departure row are compared, and a mismatch is reported. -/
  | confidenceRowResult (chan epoch row decoded : Nat) (hashOk : Bool)
  /-- NET_LINK_CHANGE (R349): A NET port's link goes down or comes up, and its flows discard or resume. -/
  | netLinkChange (port : Nat) (up : Bool)
  /-- ARP_RESOLVE (R348): Every 60 s and at flow enable, the port resolves its flows' next hops by ARP. -/
  | arpResolve (port : Nat)
  /-- ARP_RECEIVED (R348): A received ARP request or reply is answered or resolves a next hop. -/
  | arpReceived (port : Nat) (p : ArpPacket)
  /-- IGMP_QUERY (R346): A received IGMP query is answered with membership reports. -/
  | igmpQuery (port : Nat) (group : Nat)
  /-- ICMP_ECHO (R346): A received ICMP echo request is answered with an echo reply. -/
  | icmpEcho (port : Nat) (p : EchoPacket)
  /-- PTP_SYNC (R673): A received Sync, with its Follow_Up where present, updates the offset and runs the servo. -/
  | ptpSync (port : Nat) (m : SyncMsg)
  /-- PTP_ANNOUNCE (R334): A received Announce feeds the best master clock algorithm. -/
  | ptpAnnounce (port : Nat) (m : AnnounceMsg)
  /-- PTP_DELAY_RESP (R331): A Delay_Resp completes a delay exchange and updates the mean path delay. -/
  | ptpDelayResp (port : Nat) (m : DelayRespMsg)
  /-- PTP_MESSAGE_SEND (R332): At each message interval a port sends Sync, Announce or Delay_Req with a one-step egress timestamp. -/
  | ptpMessageSend (port kind : Nat) (egress : Nat)
  /-- PTP_PARENT_LOST (R334): An Announce or Sync timeout loses the parent and runs the best master clock algorithm. -/
  | ptpParentLost
  /-- SLEW_COMPLETE (R326): A slew whose remaining offset falls under 100 ns hands ADJ back to the servo. -/
  | slewComplete
  /-- HOLDOVER_LIMIT_EXPIRY (R335): HOLDOVER beyond the holdover limit changes the announced clockClass to 52. -/
  | holdoverLimitExpiry
  /-- PPS_IN_EDGE (R325): A PPS_IN edge marks a whole second for the Timebase when it is the time source. -/
  | ppsInEdge (edge : Nat)
  /-- CAPTURE_EDGE (R340): An edge on a capture input is timestamped into its FIFO, or dropped and counted. -/
  | captureEdge (input : Nat) (falling : Bool) (time : Nat)
  /-- AUDIO_FRAME_RECEIVED (R385): A frame edge on a slave port becomes sample n, or is a bad frame. -/
  | audioFrameReceived (port : Nat) (samples : List Int) (good : Bool) (time : Nat)
  /-- AUDIO_MASTER_FRAME (R384): A master port generates the frame edge of sample n at its nominal instant. -/
  | audioMasterFrame (port : Nat) (samples : List Int)
  /-- AUDIO_SAMPLE_READ (R393): At its read instant a sample index finds a good frame, repeats the last sample, or starts an underrun fade. -/
  | audioSampleRead (port : Nat)
  /-- AUDIO_SILENCE_END (R394): After 64 good frames, or a FIFO re-centre, a port leaves silence and begins its ramp. -/
  | audioSilenceEnd (port : Nat)
  /-- AUDIO_RAMP_COMPLETE (R394): After F ramp samples the port is running again. -/
  | audioRampComplete (port : Nat)
  /-- FOLLOW_LOOP_UPDATE (R386): Every 1 ms the loop of a FOLLOW port steers its divider toward a FIFO level of 16 frames. -/
  | followLoopUpdate (port : Nat)
  /-- AUDIO_OUTPUT_FRAME (R396): An output port sends stream sample n − d at its frame edge n. -/
  | audioOutputFrame (port edge : Nat)
  /-- AUDIO_ACCESS_UNIT_CODED (R399): An audio output completes an access unit at its nominal end. -/
  | audioAccessUnitCoded (output : Nat) (data : List Byte)
  /-- CW_FRAME_RECEIVED (R430): A Carriageway frame is accepted in order, or discarded as a duplicate, a bad frame or a credit violation. -/
  | cwFrameReceived (port : Nat) (f : CwFrame)
  /-- ACK (R429): A received ACK releases acknowledged frames from the replay buffer. -/
  | cwAck (port seq : Nat)
  /-- NAK (R433): A received NAK is a failure event that starts a replay. -/
  | cwNak (port seq : Nat)
  /-- CREDIT (R431): A received CREDIT word advertises released receive-buffer units for a virtual channel. -/
  | cwCredit (port vc total : Nat)
  /-- CW_ACK_TIMEOUT (R433): 400 ns without an ACK advance while frames are outstanding is a failure event that starts a replay. -/
  | cwAckTimeout (port : Nat)
  /-- CW_RETRY_EXHAUSTED (R433): Exhausted retries report the port's failure upward with the unacknowledged frames and start full training. -/
  | cwRetryExhausted (port : Nat)
  /-- CW_PORT_UP (R437): A port is up once training, deskew and the first CREDIT word of every virtual channel are complete. -/
  | cwPortUp (port : Nat)
  /-- LINKID (R444): At port-up each side sends LINKID, and the manager derives the topology from it. -/
  | linkid (port : Nat) (node role : Nat) (far : Nat)
  /-- JOIN (R448): A worker's JOIN is checked for admission and answered with ADMIT or REJECT. -/
  | join (j : JoinMsg)
  /-- JOIN_RETRY (R448): A worker not yet admitted sends JOIN again every 1 s. -/
  | joinRetry
  /-- ADMIT (R449): An admitted worker is kept as it runs, or receives the cluster state by a single-member commit. -/
  | admitMember (node : Nat) (digest : List Byte)
  /-- REJECT (R448): A worker receives REJECT with a reason code. -/
  | rejectMember (reason : Nat)
  /-- TOPO (R446): A TOPO message publishes the topology to every member. -/
  | topo (bytes : List Byte)
  /-- JOIN_WINDOW_EXPIRY (R447): With all expected members admitted or the join window passed, the manager applies the stored configuration as one cluster commit. -/
  | joinWindowExpiry
  /-- HEARTBEAT (R453): A received HEARTBEAT marks the manager or member as present. -/
  | heartbeat (node mode : Nat) (offset : Int)
  /-- HEARTBEAT_MISSED (R453): Three missed heartbeats, or a broken tree path, make a member or the manager lost. -/
  | heartbeatMissed (node : Nat)
  /-- TSYNC (R452): A TSYNC from the parent steers a worker's Timebase. -/
  | tsync (sof : Nat) (rx : Nat)
  /-- TDELAY_REQ (R452): A child's TDELAY_REQ is answered by the parent with TDELAY_RSP. -/
  | tdelayReq (node : Nat) (sof rx : Nat)
  /-- TDELAY_RSP (R452): A TDELAY_RSP gives the child its measured link delay. -/
  | tdelayRsp (rx : Nat)
  /-- PREPARE (R70): A member validates and arms a prepared set and answers ARMED or REFUSED. -/
  | prepare (coordinator set : Nat) (entries : List WriteEnt) (target : Target)
  /-- ARMED (R70): The coordinator records that a member has armed the set. -/
  | armed (node set : Nat)
  /-- REFUSED (R70): A member's refusal aborts the cluster commit everywhere. -/
  | refused (node set : Nat) (code : Nat) (obj : ObjRef)
  /-- READY (R71): The coordinator records a member's READY report. -/
  | ready (node set : Nat)
  /-- NOT_READY (R71): The coordinator records a member's NOT READY report. -/
  | notReady (node set : Nat)
  /-- COMMIT_DECISION (R72): A member records the COMMIT, DEFER or ABORT decision it receives for an armed set. -/
  | commitDecision (set decision : Nat) (newTarget : Nat)
  /-- SNAPDATA (R69): A member's SNAPDATA returns its part of a cluster snapshot to the manager. -/
  | snapdata (node session txid : Nat) (success : Bool) (entries : List (Nat × List Byte)) (epochs : List (Nat × Nat))
  /-- RELAY (R118): A worker executes a relayed SOP request and answers with RELAY_RSP. -/
  | relay (cls : Nat) (req : Instr)
  /-- RELAY_RSP (R118): The manager returns a worker's relayed response to the session. -/
  | relayRsp (node session txid : Nat) (status : Nat) (body : List Byte)
  /-- SPANREQ (R446): At span channel start a member's standing request is answered with GRANT. -/
  | spanreq (group node : Nat)
  /-- ROWSTAT (R461): A received ROWSTAT updates a member's copy of the span channel's Tollhouse. -/
  | rowstat (chan node epoch row col : Nat) (final : Bool) (value : Nat)
  /-- SEAM (R460): A received SEAM carries unfiltered or finished seam samples across a stripe edge. -/
  | seam (chan node epoch row : Nat) (samples : List Byte) (finished : Bool)
  /-- BORDER (R459): A received BORDER carries reference reconstruction tiles near a stripe edge. -/
  | border (chan node epoch row : Nat) (tiles : List Byte)
  /-- PYRAMID (R459): A received PYRAMID carries the source pyramids of a neighbour's border columns. -/
  | pyramid (chan node epoch : Nat) (samples : List Byte)
  /-- UNIT (R462): A member's departure unit reaches the span lead for sending. -/
  | unitArrived (chan node epoch row col : Nat) (data : List Byte)
  /-- PAIRID (R487): An exchanged PAIRID is checked, and configurations are reconciled or formation fails. -/
  | pairid (p : PairIdMsg)
  /-- DIGEST (R477): The peer's digest records are stored for comparison at departure instants. -/
  | digest (records : List DigestRec)
  /-- CKPT_REQ (R483): The primary answers a checkpoint request with the channel's latest checkpoint. -/
  | ckptReq (chan : Nat)
  /-- CKPT (R483): A received checkpoint is installed on the secondary at the next boundary. -/
  | ckpt (chan : Nat) (data : List Byte)
  /-- CLAIMED (R474): An away unit that receives CLAIMED for its own claim slot releases DRAWBAR and becomes secondary. -/
  | claimed (slot : Nat)
  /-- HANDOVER (R493): A HANDOVER names the tick at which the away unit releases DRAWBAR. -/
  | handover (tick : Nat)
  /-- HANDOVER_TICK (R493): At the handover tick the away unit releases DRAWBAR and becomes secondary. -/
  | handoverTick
  /-- PAIRBEAT (R475): A received PAIRBEAT updates the peer's pair state. -/
  | pairbeat (p : PairBeatMsg)
  /-- PAIR_LINK_TIMEOUT (R472): No PAIRBEAT for 300 µs loses the pair link. -/
  | pairLinkTimeout
  /-- PEER_HEARTBEAT_FAILED (R472): No PAIR_LIVE_IN rising edge for 1.5 µs judges the peer's heartbeat failed. -/
  | peerHeartbeatFailed
  /-- PEER_HEARTBEAT_LIVE (R472): 64 good PAIR_LIVE_IN edges judge the peer's heartbeat live again. -/
  | peerHeartbeatLive
  /-- DRAWBAR_RELEASED (R472): DRAWBAR reading high for 1 µs is judged released, and a secondary moves to CLAIMING. -/
  | drawbarReleased
  /-- CLAIM_SLOT (R473): At its claim-slot sample a unit that wants primacy asserts DRAWBAR if the line is released. -/
  | claimSlot (slot : Nat)
  /-- SENDING_STROBE_STOP (R471): The sending strobe being absent for 1 µs makes the Lodge release DRAWBAR. -/
  | sendingStrobeStop
  /-- REVERT_HOLDOFF_COMPLETE (R493): A home secondary matched for the hold-off sends HANDOVER. -/
  | revertHoldoffComplete
  /-- PRIMARY_SUSPECT_YIELD (R486): A suspect primary with automatic yield set releases DRAWBAR. -/
  | primarySuspectYield
  /-- REFRESH_DUE (R510): A refresh falling due is issued, postponed or covered by credit. -/
  | refreshDue (dch rank bank : Nat)
  /-- DRAM_COMMAND_CYCLE (R505): In each scheduling cycle a channel issues the one command its priority rules select. -/
  | dramCommandCycle (dch : Nat) (arrivals : List MemReq) (timed : Nat) (rfm : Bool)
  /-- DRAM_ECC_ERROR (R503): A read with a single-bit error is corrected and written back, while an uncorrectable error leads to SAFE. -/
  | dramEccError (addr : Nat) (double : Bool)
  /-- MR4_READ (R511): A periodic MR4 read may change the refresh rate state, restating and paying the debt. -/
  | mr4Read (dch value rate : Nat)
  /-- BOARD_TEMPERATURE_CHANGE (R511): The board input crossing its threshold or hysteresis raises or lowers the refresh rate state. -/
  | boardTemperatureChange (temp : Int)
  /-- DEBT_PAYMENT_COMPLETE (R511): Completion of a restated debt payment allows the next rate step. -/
  | debtPaymentComplete (dch : Nat)
  /-- POWER_DOWN_ENTRY (R508): A rank idle for the power-down timer enters active power-down. -/
  | powerDownEntry (dch rank : Nat)
  /-- SELF_REFRESH_WAKE (R515): A class-3 request to a quarter in self-refresh brings its channels out of self-refresh. -/
  | selfRefreshWake (quarter : Nat)
  /-- SELF_REFRESH_REENTRY (R515): Channels with no request for 1 ms return to self-refresh. -/
  | selfRefreshReentry (quarter : Nat)
  /-- OSCILLATOR_RUN (R517): A periodic WCK-to-DQ oscillator run may book a retraining window. -/
  | oscillatorRun (dch : Nat) (drift : Int)
  /-- DEMAND_MEASUREMENT (R522): Every 1 ms each quarter's demand is measured against the admission limit. -/
  | demandMeasurement (demand : List Nat)
  /-- REFERENCE_GLITCH (R535): A glitch of up to three periods is filtered and counted. -/
  | referenceGlitch
  /-- REFERENCE_STOP (R535): A fourth bad period, or a rate change, sends the root into HOLDOVER. -/
  | referenceStop (kind : Nat)
  /-- REFERENCE_QUALIFIED (R537): A returned reference that runs clean for the qualification time starts re-acquisition, or is reported out of range. -/
  | referenceQualified (offset : Int) (phase : Int)
  /-- ROOT_LOCKED (R538): A phase error below 100 ps for 1 ms makes the root LOCKED. -/
  | rootLocked
  /-- LOSS_OF_LOCK (R541): Loss of lock freezes the root, stops the media outputs, switches to bypass and enters SAFE. -/
  | lossOfLock (cause : Nat) (phase : Int)
  /-- BYPASS_ACQUISITION_ATTEMPT (R543): Every 10 ms on the bypass clock the root attempts acquisition. -/
  | bypassAcquisitionAttempt
  /-- REFERENCE_STARTUP_TIMEOUT (R543): REF_IN not qualified 1.5 s after STARTING began sends the device to SAFE. -/
  | referenceStartupTimeout (r : StartReport)
  /-- HOLDOVER_ALARM (R536): HOLDOVER lasting the alarm time raises the holdover alarm. -/
  | holdoverAlarm
  /-- LODGE_RULE_FIRE (R551): A Lodge rule whose filtered condition has held for HOLD performs its action. -/
  | lodgeRuleFire (rule : Nat) (value : Int)
  /-- BROWNOUT_SEQUENCE (R560): A brownout stops sending, shuts down the regulators, enters DORMANT and commits a black-box entry. -/
  | brownoutSequence (rule : Nat) (vin : Nat)
  /-- THERMAL_TRIP (R562): Any sensor at 165 °C for 4 samples sends the device to DORMANT and holds wakes. -/
  | thermalTrip (sensor : Nat) (temp : Int)
  /-- WAKE_N_LOW (R657): A filtered low on WAKE_N wakes the device from DORMANT. -/
  | wakeNLow
  /-- VLODGE_POWER_ON (R565): VLODGE rising through 2.60 V resets everything into DORMANT with the ROM rule table. -/
  | vlodgePowerOn (straps : Straps)
  /-- VIN_POWER_ON (R565): A wake in DORMANT powers the VIN domain and enters STARTING. -/
  | vinPowerOn (straps : Straps)
  /-- PIN_RESET (R565): A filtered RESET_N low resets the VIN domain, and STARTING follows the rising edge. -/
  | pinReset
  /-- LODGE_RESET (R565): A Lodge reset rule resets the VIN domain and enters STARTING. -/
  | lodgeReset (straps : Straps)
  /-- WATCHDOG_EXPIRY (R566): An unserviced Gatehouse watchdog resets the device through STARTING. -/
  | watchdogExpiry (pc : Nat)
  /-- STARTING_COMPLETE (R34): When images, training and life-cycle checks complete, STARTING ends in its target mode. -/
  | startingComplete (r : StartReport)
  /-- TIME_ANCHOR (R549): Every second the Gatehouse writes the pair of Lodge time and PTP time into the black box. -/
  | timeAnchor
  /-- BLACK_BOX_WRITE (R633): The Lodge writes the next queued entry in SEQ order, with pinning where it applies. -/
  | blackBoxWrite
  /-- COALESCE_EXPIRY (R633): At the end of a coalescing second one entry carrying the count in REPEAT is written. -/
  | coalesceExpiry (code unit chan : Nat)
  /-- RULE_CONDITION_CLEARED (R551): A Lodge rule condition that becomes false ends its level actions, releases ALERT_N or a hold, and after its HOLD time clears the LODGE SAFE cause. -/
  | ruleConditionCleared (rule : Nat)
  /-- THERMAL_HOLD_RELEASE (R562): Once all 16 sensors read below 125 °C after a thermal trip, the Lodge stops holding wakes. -/
  | thermalHoldRelease
  /-- VLODGE_LOSS (R554): VLODGE falling below 2.20 V holds the Lodge in reset and loses everything the Lodge keeps. -/
  | vlodgeLoss
  /-- RESET_N_RISING_EDGE (R565): The rising edge of RESET_N samples the straps and begins STARTING after a pin reset. -/
  | resetNRisingEdge (straps : Straps)
  /-- PTP_DELAY_REQ (R329): A master port receives a Delay_Req and answers it with a Delay_Resp. -/
  | ptpDelayReq (port : Nat) (m : DelayReqMsg)
  /-- HEARTBEAT_SEND (R453): Every 100 µs the manager and each member send HEARTBEAT to each other. -/
  | heartbeatSend
  /-- TSYNC_SEND (R452): Every 1 ms a parent sends TSYNC carrying the PTP time of its SOF. -/
  | tsyncSend
  /-- TDELAY_REQ_SEND (R452): Every 1 ms a child sends TDELAY_REQ to its parent. -/
  | tdelayReqSend
  /-- PAIRBEAT_SEND (R475): Every 100 µs each pair unit sends PAIRBEAT carrying its pair state. -/
  | pairbeatSend
  /-- ST_2110_30_PACKET (R367): An SMPTE ST 2110-30 packet leaves within 2 µs after G + (n + 2·Np) ÷ fs with its timestamp. -/
  | st211030Packet (flow : Nat)
  /-- RETURN_VIDEO_LINE (R316): In DECODE, output line l leaves on the return-video lanes in the line period that ends at the boundary plus (l + 6) lines. -/
  | returnVideoLine (chan line : Nat)
  /-- DECODE_ASSIST_COMPLETE (R318): A decode-assist coach that decodes JPEG XS input completes and frees its stall from the device pool. -/
  | decodeAssistComplete (stall : Nat)
  /-- SUBSTITUTE_RECONSTRUCTION_COMPLETE (R256): A substitute reconstruction coach of list 2 completes, making the reference match the substituted band and freeing its stall. -/
  | substituteReconstructionComplete (stall : Nat)
  /-- PERFORMANCE_COUNTER_WRAP (R623): A performance counter that wraps after the latest snapshot sets its sticky LATE bit. -/
  | performanceCounterWrap (counter : Nat)
deriving DecidableEq, Repr

end Sys2Proof
end

