-- ==== Sys2Proof/Decode.lean ====
section
/-! DEFINITION. Decode.lean: commands spelt by the opcode table's bits. No row of the table gives bits, so no word spells a
command. -/

namespace Sys2Proof

/-- The command that a word of `nbits` bits spells by the opcode table: none, since no row has bits.
[DESIGN CHOICE: log entry 4] -/
def decodeTableWord (_nbits _w : Nat) : Option Instr := none

end Sys2Proof
end

