-- ==== Sys2Proof/Machine/Crc.lean ====
section
/-! DEFINITION. Crc.lean: the check values of R606 (CRC-32, CRC-32C, CRC-16/CCITT, CRC-64/XZ). -/

namespace Sys2Proof.Machine

/-- One bit of a reflected CRC register: shift right, fold the reflected polynomial in on a carry. -/
def crcStepR (poly r : Nat) : Nat := if r % 2 = 1 then Nat.xor (r / 2) poly else r / 2

/-- One byte into a reflected CRC register. -/
def crcByteR (poly r b : Nat) : Nat :=
  let x := Nat.xor r b
  crcStepR poly (crcStepR poly (crcStepR poly (crcStepR poly
    (crcStepR poly (crcStepR poly (crcStepR poly (crcStepR poly x)))))))

/-- One bit of the 16-bit unreflected register of CRC-16/CCITT. -/
def crcStepL (r : Nat) : Nat :=
  if r / 32768 % 2 = 1 then Nat.xor (r * 2 % 65536) 0x1021 else r * 2 % 65536

/-- One byte into the register of CRC-16/CCITT. -/
def crcByteL (r b : Nat) : Nat :=
  let x := Nat.xor r (b * 256)
  crcStepL (crcStepL (crcStepL (crcStepL (crcStepL (crcStepL (crcStepL (crcStepL x)))))))

/-- The bytes of a message as numbers. -/
def byteNats (bs : List Byte) : List Nat := bs.map BitVec.toNat

/-- CRC-32 of IEEE 802.3 (R606 code 0x00). -/
def crc32 (bs : List Byte) : Nat :=
  Nat.xor ((byteNats bs).foldl (crcByteR 0xEDB88320) 0xFFFFFFFF) 0xFFFFFFFF

/-- CRC-32C (R606 code 0x01, R296). -/
def crc32c (bs : List Byte) : Nat :=
  Nat.xor ((byteNats bs).foldl (crcByteR 0x82F63B78) 0xFFFFFFFF) 0xFFFFFFFF

/-- CRC-16/CCITT (R606 code 0x02, R429). -/
def crc16 (bs : List Byte) : Nat := (byteNats bs).foldl crcByteL 0xFFFF

/-- CRC-64/XZ (R606 code 0x03). -/
def crc64 (bs : List Byte) : Nat :=
  Nat.xor ((byteNats bs).foldl (crcByteR 0xC96C5795D7870F42) 0xFFFFFFFFFFFFFFFF) 0xFFFFFFFFFFFFFFFF

/-- The check value of R606 by its code. -/
def checkValue (algo : Nat) (bs : List Byte) : Nat :=
  match algo with
  | 0 => crc32 bs
  | 1 => crc32c bs
  | 2 => crc16 bs
  | _ => crc64 bs

/-- The width in bits of a check value (R606). -/
def checkWidth (algo : Nat) : Nat :=
  match algo with
  | 0 => 32
  | 1 => 32
  | 2 => 16
  | _ => 64

end Sys2Proof.Machine
end

