-- ==== Sys2Proof/Config.lean ====
section
/-! DEFINITION. Config.lean: what the part or the published standards fix and the spec does not state, as
opaque constants. Nothing in Lean can evaluate them, so no claim can rest on a value of theirs. -/

namespace Sys2Proof.Config

/-- A byte whose value the spec leaves undefined; the argument is a fresh number the step draws from
`State.free`. [DESIGN CHOICE: log entry 11] -/
opaque freeByte : Nat → Byte
/-- A number whose value the spec leaves open; the argument is a fresh number the step draws from
`State.free`. [DESIGN CHOICE: log entry 11] -/
opaque freeNat : Nat → Nat
/-- How many nanoseconds before a read a sampled value was measured; the argument is the number of free values drawn so far.
[DESIGN CHOICE: log entry 49] -/
opaque sampleAge : Nat → Nat
/-- Byte `k` of the output stream of SHAKE256 for a byte string (FIPS 202). [DESIGN CHOICE: log entry 10] -/
opaque shakeByte : List Byte → (k : Nat) → Byte
/-- SHAKE256 of a byte string, its first `n` output bytes (FIPS 202). -/
def shake256 (n : Nat) (b : List Byte) : List Byte := (List.range n).map (shakeByte b)
/-- Whether a signature over a message verifies under a public key and context (ML-DSA-65, FIPS 204).
[DESIGN CHOICE: log entry 10] -/
opaque sigOk : (pk msg sig ctx : List Byte) → Bool
/-- The device's own ML-DSA-65 signature over a message under a context. [DESIGN CHOICE: log entry 10] -/
opaque deviceSign : (msg ctx : List Byte) → List Byte
/-- The ML-KEM-768 ciphertext for an encapsulation key, drawn with a fresh number (FIPS 203).
[DESIGN CHOICE: log entry 10] -/
opaque kemCiphertext : (ek : List Byte) → Nat → List Byte
/-- KMAC256 tag or key bytes (R582). [DESIGN CHOICE: log entry 10] -/
opaque kmac : (n : Nat) → (key data custom : List Byte) → List Byte
/-- The shared secret that goes with that ciphertext (FIPS 203). [DESIGN CHOICE: log entry 10] -/
opaque kemSecret : (ek : List Byte) → Nat → List Byte
/-- The hash of the Druthal root key held in ROM (R590). [DESIGN CHOICE: log entry 10] -/
opaque rootHash : List Byte
/-- The identity public key of the part (R587). [DESIGN CHOICE: log entry 10] -/
opaque identityKey : List Byte
/-- The measurement of the boot ROM (R597). [DESIGN CHOICE: log entry 10] -/
opaque romMeasurement : List Byte
/-- A coefficient of the built-in windowed-sinc scaler kernel for `taps` taps, at a phase other than 0 (R145).
[DESIGN CHOICE: log entry 12] -/
opaque sinc : (taps phase tap : Nat) → Int
/-- The boot ROM's tables of a conversion preset (R153, R159): table 0 shaper LUT, 1 matrix, 2 3D LUT, 3 output
LUT; `layer` 1 for the layer presets, and of any size. [DESIGN CHOICE: log entry 12] -/
opaque presetTable : (layer preset table : Nat) → List Byte
/-- Byte `k` of a table whose DOMAIN has been emptied (R133), as what uses the table finds it. [DESIGN CHOICE: log entry 12] -/
opaque emptyDomain : (index sub k : Nat) → Byte
/-- The SECDED (72,64) check byte of a 64-bit word (R502, R593). [DESIGN CHOICE: log entry 12] -/
opaque secded : Nat → Nat
/-- The SEED field of OTP: the sealed seed and its BCH check field (R593). [DESIGN CHOICE: log entry 12] -/
opaque otpSeed : Nat
/-- The OTP bits reserved to Druthal (R593). [DESIGN CHOICE: log entry 12] -/
opaque otpTrim : Nat

/-- The size in bytes of one element that an access unit carries outside its bands, start code included, from the values it
writes (R245); the codec standards fix it. [DESIGN CHOICE: log entry 12] -/
opaque elementBytes : (codec kind : Nat) → (data : List Nat) → Nat
/-- The most bytes that elements of a kind can take in one access unit under some settings (R241); the codec standards fix it.
[DESIGN CHOICE: log entry 12] -/
opaque elementMost : (codec kind : Nat) → (settings : List Nat) → Nat
/-- The lowest level whose limits a stream meets, with the tier signalled there; none where no level fits (R206). The codec
standards fix it. [DESIGN CHOICE: log entry 12] -/
opaque levelOf : (settings : List Nat) → Option (Nat × Nat)
/-- The tier signalled at a level that the host sets; none where the stream exceeds it in both (R206). The codec standards fix
it. [DESIGN CHOICE: log entry 12] -/
opaque tierAt : (settings : List Nat) → (level : Nat) → Option Nat
/-- The level signalled for AVC and JPEG XS where no level fits, of which R206 says nothing. [DESIGN CHOICE: log entry 12] -/
opaque levelElse : (codec : Nat) → Nat
/-- What a Pavilion program makes of a band (R184, R195, R199, R209–R213). [DESIGN CHOICE: log entry 12] -/
opaque codeBand : BandIn → BandOut
/-- What the substitute of a band reconstructs to (R255, R256). [DESIGN CHOICE: log entry 12] -/
opaque substBand : BandIn → BandOut
/-- The bands of a CTU row, and of the row above, once a seam coach has finished their seams (R199), from the channel's
settings, the columns of neighbouring members (R460) and the bands as the band coaches left them.
[DESIGN CHOICE: log entry 12] -/
opaque seam : (settings : Tab Val) → (far : List (List Byte)) → (above own : List Planes) → List Planes × List Planes
/-- A channel's finer statistics with those of a final picture's bands, in raster order, taken in (R226, R279).
[DESIGN CHOICE: log entry 12] -/
opaque foldStats : (stats : List Byte) → (bands : List (List Byte)) → List Byte
/-- A channel's refresh-period statistics from those before, the finer ones and the Tollhouse state (R226, R279).
[DESIGN CHOICE: log entry 12] -/
opaque nextStats : (stats finer toll : List Byte) → List Byte
/-- The CDF state that an AV1 picture leaves, from the contexts of its bands in raster order (R211, R226).
[DESIGN CHOICE: log entry 12] -/
opaque frameCdf : (contexts : List (List Byte)) → List Byte
/-- A sample of another member of a span group from the tiles or pyramids it sent, by plane, column and line (R459).
[DESIGN CHOICE: log entry 12] -/
opaque farSample : (sent : List Byte) → (plane : Nat) → (x y : Int) → Nat
/-- Bytes of the first of the two slices of a JPEG XS band of a size (R195), by epoch and row. [DESIGN CHOICE: log entry 12] -/
opaque sliceBytes : (bytes epoch row : Nat) → Nat
/-- Hours, minutes, seconds and frame number of SMPTE ST 12-1 at a PTP time in ns, by the method of SMPTE ST 2059-1, from the
UTC offset, the frame rate of ST 12-1 and drop-frame counting (R223). [DESIGN CHOICE: log entry 12] -/
opaque timecodeOf : (ns : Nat) → (utc : Int) → (num den : Nat) → (drop : Bool) → List Nat
/-- general_profile_idc, seq_profile or profile_idc of a profile (R227); the codec standards fix it.
[DESIGN CHOICE: log entry 12] -/
opaque profileIdc : (codec profile : Nat) → Nat
/-- The size in bits of the slate access unit coded from a channel's slate (R29). [DESIGN CHOICE: log entry 12] -/
opaque slateBits : (settings : List Nat) → Nat
/-- A byte of device DRAM at power-on, by address. [DESIGN CHOICE: log entries 11, 13] -/
opaque dramByte : Nat → Byte
/-- The base ceiling that a preset pack's payload declares for a preset and a codec (R202). [DESIGN CHOICE: log entry 12] -/
opaque packBase : (payload : List Byte) → (preset codec : Nat) → Option Nat
/-- Whether a preset pack's payload defines a preset (R202). [DESIGN CHOICE: log entry 12] -/
opaque packDefines : (payload : List Byte) → (preset : Nat) → Bool
/-- clockAccuracy × 65,536 + offsetScaledLogVariance that the device announces with a clockClass (R329).
[DESIGN CHOICE: log entry 12] -/
opaque clockQuality : Nat → Nat
/-- Bytes of a descriptor of a PMT with its tag and length (R358). [DESIGN CHOICE: log entry 12] -/
opaque descriptorBytes : Descriptor → Nat
/-- The UDP checksum of a PTP message whose timestamp is 0 (R332). [DESIGN CHOICE: log entry 12] -/
opaque ptpChecksum : PtpMsg → Nat
/-- The text in the SDP of RFC 8866 of a flow's session description (R369). [DESIGN CHOICE: log entry 12] -/
opaque sdp : (description : Sdp) → List Byte
/-- The failure-analysis object of an index and subindex from 0xC000 on, if there is one (R87).
[DESIGN CHOICE: log entry 12] -/
opaque labObject : (index sub : Nat) → Option (List Byte)

end Sys2Proof.Config
end

