-- ==== Sys2Proof/Machine/ObjectTable.lean ====
section
/-! DEFINITION. ObjectTable.lean: the object dictionary (R87–R92) as the chapters' object tables give it:
type, access, persistence, default, range, zero kind and access classes of every object. -/

namespace Sys2Proof.Machine

/-- One row of an object table: index, first and last subindex, type code (R90), size in bytes (0 when it
varies), access code (R92), persistence code (R95), default, least and greatest accepted value, zero kind
(R99, R132), and the classes needed to read and to write (R99). -/
structure OdRow where
  idx : Nat
  lo : Nat
  hi : Nat
  ty : Nat
  size : Nat
  acc : Nat
  pers : Nat
  dflt : Val
  mn : Int
  mx : Int
  zk : Nat
  rc : Nat
  wc : Nat
deriving DecidableEq, Repr

/-- `n` zero bytes. -/
def zeros (n : Nat) : List Byte := List.replicate n 0
/-- `v` in `n` bytes, little-endian (R90). -/
def leBytes : Nat → Nat → List Byte
  | 0, _ => []
  | n + 1, v => BitVec.ofNat 8 v :: leBytes n (v / 256)
/-- The number that little-endian bytes spell (R90). -/
def leNat : List Byte → Nat
  | [] => 0
  | b :: r => b.toNat + 256 * leNat r
/-- Two's complement of `v` in `n` bytes (R90). -/
def leInt (n : Nat) (v : Int) : List Byte := leBytes n (v % ((256 ^ n : Nat) : Int)).toNat

/-- Equalisation table 0 as loaded at manufacture (R415, R416), BOARD 0: TXPRE 0, TXMAIN 48, TXPOST −8, CTLE 6, VGA 12,
DFE 1 and POL 0 on every lane. -/
def eqTable0 : List Byte :=
  let lanes : List Byte := (List.replicate 48 ([0, 48, 248, 6, 12, 1, 0, 0] : List Byte)).flatten
  ([1, 0, 0, 0] : List Byte) ++ zeros 8 ++ leBytes 4 (crc32c lanes) ++ lanes
/-- Eight copies of it. -/
def eqTables : List Byte := (List.replicate 8 eqTable0).flatten

/-- A coefficient of the built-in kernel for `taps` taps (R145): phase 0 as the rule gives it; another phase's are free
values, but for the one at `taps` ÷ 2 − 1, which brings the phase to its sum of 1,024. [DESIGN CHOICE: log entry 12] -/
def sincCoef (taps phase t : Nat) : Int :=
  let side := fun (k : Nat) => Config.sinc taps phase k % 4096 - 2048
  if taps ≤ t then 0
  else if t + 1 ≠ taps / 2 then (if phase = 0 then 0 else side t)
  else if phase = 0 then 1024
  else 1024 - (((List.range taps).filter (fun k => k + 1 != taps / 2)).map side).sum
/-- The built-in kernel for `taps` taps: 64 phases of 8 I16 coefficients (R145). -/
def builtInKernel (taps : Nat) : List Byte :=
  (List.range 64).flatMap fun p => (List.range 8).flatMap fun t => leInt 2 (sincCoef taps p t)
/-- The boot ROM's table of a conversion preset (R153, R154, R159): 0 shaper LUT, 1 matrix, 2 3D LUT, 3 output LUT, of the size
that R150 to R152 give it; `layer` 1 for the layer presets. [DESIGN CHOICE: log entry 12] -/
def presetTable (layer preset table : Nat) : List Byte :=
  let n := [24582, 24, 215622, 24582].getD table 0
  (Config.presetTable layer preset table ++ zeros n).take n

/-- The identity matrix of R151: 8,192 (Q3.13) on the diagonal, offsets 0. -/
def identityMatrix : List Byte :=
  (leBytes 2 8192 ++ zeros 6) ++ (leBytes 2 8192 ++ zeros 6) ++ leBytes 2 8192 ++ zeros 6
/-- One component of an identity shaper or output LUT (R150): entry i is 16·i, the last held at 65,535. -/
def identityCurve : List Byte := (List.range 4097).flatMap (fun i => leBytes 2 (min (16 * i) 65535))
/-- An identity shaper or output LUT (R150). -/
def identityShaper : List Byte := identityCurve ++ identityCurve ++ identityCurve
/-- The identity 3D LUT (R152): grid entry g is 2,048·g, the last held at 65,535. -/
def identityCube : List Byte :=
  (List.range 33).flatMap fun r => (List.range 33).flatMap fun g => (List.range 33).flatMap fun b =>
    leBytes 2 (min (2048 * r) 65535) ++ leBytes 2 (min (2048 * g) 65535) ++ leBytes 2 (min (2048 * b) 65535)

/-- Objects 10, part 0. -/
def odRows10_0 : List OdRow := [
  ⟨0x1001, 0, 0, 2, 1, 3, 255, .num 7, 0, 255, 0, 0, 255⟩, -- Highest subindex (R24)
  ⟨0x1001, 1, 1, 2, 1, 0, 0, .num 1, 0, 255, 0, 0, 255⟩, -- Current mode (R24)
  ⟨0x1001, 2, 2, 2, 1, 4, 0, .num 2, 0, 11, 0, 0, 1⟩, -- Requested mode (R24)
  ⟨0x1001, 3, 3, 2, 1, 1, 1, .num 2, 2, 7, 0, 0, 1⟩, -- Start mode (R24)
  ⟨0x1001, 4, 4, 2, 1, 0, 0, .num 0, 0, 255, 0, 0, 255⟩, -- Role (R24)
  ⟨0x1001, 5, 5, 2, 1, 0, 0, .num 0, 0, 255, 0, 0, 255⟩, -- Pair membership (R24)
  ⟨0x1001, 6, 6, 2, 1, 0, 0, .num 0, 0, 255, 0, 0, 255⟩, -- Transition state (R24)
  ⟨0x1001, 7, 7, 2, 1, 0, 0, .num 0, 0, 255, 0, 0, 255⟩, -- Last trigger (R24)
  ⟨0x1002, 0, 0, 2, 1, 3, 255, .num 4, 0, 255, 0, 0, 255⟩, -- Highest subindex (R24)
  ⟨0x1002, 1, 1, 2, 1, 1, 1, .num 1, 0, 1, 0, 0, 1⟩, -- HOLD output policy (R24)
  ⟨0x1002, 2, 2, 2, 1, 1, 1, .num 2, 0, 2, 0, 0, 1⟩, -- SAFE output policy (R24)
  ⟨0x1002, 3, 3, 3, 2, 0, 0, .num 0, 0, 65535, 0, 0, 255⟩, -- SAFE causes (R38) (R24)
  ⟨0x1002, 4, 4, 3, 2, 2, 0, .num 0, 0, 65535, 0, 0, 2⟩] -- Acknowledge SAFE causes (R38); Service class (R24)

/-- The rows of group 10. -/
def odRows10 : List OdRow := odRows10_0

/-- Objects 11, part 0. -/
def odRows11_0 : List OdRow := [
  ⟨0x1100, 0, 0, 2, 1, 3, 255, .num 8, 0, 255, 0, 0, 255⟩, -- Highest subindex (R129)
  ⟨0x1100, 1, 1, 2, 1, 0, 0, .num 0, 0, 255, 0, 0, 255⟩, -- Open sessions (R129)
  ⟨0x1100, 2, 2, 2, 1, 1, 1, .num 16, 1, 16, 2, 0, 1⟩, -- Session limit (R129)
  ⟨0x1100, 3, 3, 3, 2, 1, 1, .num 60, 0, 3600, 1, 0, 1⟩, -- Session idle timeout, s (R129)
  ⟨0x1100, 4, 4, 4, 4, 0, 0, .num 0, 0, 4294967295, 0, 0, 255⟩, -- Discarded malformed or oversize messages (R129)
  ⟨0x1100, 5, 5, 4, 4, 0, 0, .num 0, 0, 4294967295, 0, 0, 255⟩, -- Tag failures and unknown sessions (R129)
  ⟨0x1100, 6, 6, 4, 4, 0, 0, .num 0, 0, 4294967295, 0, 0, 255⟩, -- Stale counters (R129)
  ⟨0x1100, 7, 7, 4, 4, 0, 0, .num 0, 0, 4294967295, 0, 0, 255⟩, -- Kept responses served (R129)
  ⟨0x1100, 8, 8, 4, 4, 0, 0, .num 0, 0, 4294967295, 0, 0, 255⟩, -- Wrap flags (R129)
  ⟨0x1101, 0, 0, 2, 1, 3, 255, .num 5, 0, 255, 0, 0, 255⟩, -- Highest subindex (R129)
  ⟨0x1101, 1, 1, 1, 1, 1, 1, .num 1, 0, 1, 0, 0, 1⟩, -- CAN FD enable (R129)
  ⟨0x1101, 2, 2, 2, 1, 1, 1, .num 16, 0, 254, 0, 0, 1⟩, -- CAN bus address (R129)
  ⟨0x1101, 3, 3, 2, 1, 1, 1, .num 0, 0, 1, 0, 0, 1⟩, -- Nominal rate: 0x00 500 kb/s, 0x01 1 Mb/s (R129)
  ⟨0x1101, 4, 4, 2, 1, 1, 1, .num 0, 0, 2, 0, 0, 1⟩, -- Data rate: 0x00 2, 0x01 4, 0x02 5 Mb/s (R129)
  ⟨0x1101, 5, 5, 13, 8, 2, 1, .oct (zeros 8), 0, 0, 1, 0, 1⟩, -- Wake code (R129)
  ⟨0x1102, 0, 0, 2, 1, 3, 255, .num 7, 0, 255, 0, 0, 255⟩, -- Highest subindex (R129)
  ⟨0x1102, 1, 1, 4, 4, 1, 1, .num 0, 0, 4294967295, 1, 0, 1⟩, -- IPv4 address (R129)
  ⟨0x1102, 2, 2, 2, 1, 1, 1, .num 1, 0, 15, 1, 0, 1⟩, -- Port mask, bit k for NETk (R129)
  ⟨0x1102, 3, 3, 2, 1, 1, 1, .num 24, 1, 32, 2, 0, 1⟩, -- Prefix length (R129)
  ⟨0x1102, 4, 4, 4, 4, 1, 1, .num 0, 0, 4294967295, 0, 0, 1⟩, -- Gateway (R129)
  ⟨0x1102, 5, 5, 2, 1, 1, 1, .num 34, 0, 63, 0, 0, 1⟩, -- DSCP of SOP datagrams (R129)
  ⟨0x1102, 6, 6, 3, 2, 1, 1, .num 0, 0, 4094, 0, 0, 1⟩, -- VLAN identifier (R129)
  ⟨0x1102, 7, 7, 3, 2, 3, 255, .num 4864, 0, 65535, 0, 0, 255⟩, -- UDP port (R129)
  ⟨0x1103, 0, 0, 2, 1, 3, 255, .num 2, 0, 255, 0, 0, 255⟩, -- Highest subindex (R129)
  ⟨0x1103, 1, 1, 1, 1, 1, 1, .num 1, 0, 1, 0, 0, 1⟩, -- Mailbox enable (R129)
  ⟨0x1103, 2, 2, 2, 1, 1, 1, .num 0, 0, 30, 0, 0, 1⟩, -- First mailbox MSI-X vector (R129)
  ⟨0x1104, 0, 0, 2, 1, 3, 255, .num 3, 0, 255, 0, 0, 255⟩, -- Highest subindex (R129)
  ⟨0x1104, 1, 1, 4, 4, 0, 0, .num 0, 0, 4294967295, 0, 0, 255⟩, -- Generation of newest stored image (R129)
  ⟨0x1104, 2, 2, 3, 2, 0, 0, .num 0, 0, 65535, 0, 0, 255⟩, -- Result of last STORE (R129)
  ⟨0x1104, 3, 3, 2, 1, 0, 0, .num 0, 0, 255, 0, 0, 255⟩] -- Slot loaded at start: 0x00 none, 0x01 A, 0x02 B (R129)

/-- The rows of group 11. -/
def odRows11 : List OdRow := odRows11_0

/-- Objects 12, part 0. -/
def odRows12_0 : List OdRow := [
  ⟨0x1200, 0, 0, 2, 1, 3, 255, .num 8, 0, 255, 0, 0, 255⟩, -- Highest subindex (R78)
  ⟨0x1200, 1, 1, 4, 4, 1, 1, .num 1000, 200, 1000000, 0, 0, 1⟩, -- Arm lead, µs (R78)
  ⟨0x1200, 2, 2, 2, 1, 1, 1, .num 2, 0, 8, 1, 0, 1⟩, -- Deferral limit, frames (R78)
  ⟨0x1200, 3, 3, 5, 8, 0, 0, .num 0, 0, 18446744073709551615, 0, 0, 255⟩, -- Device commit sequence (R78)
  ⟨0x1200, 4, 4, 11, 10, 0, 0, .num 0, 0, 281474976710655999999999, 0, 0, 255⟩, -- Time of last applied commit (R78)
  ⟨0x1200, 5, 5, 4, 4, 0, 0, .num 0, 0, 4294967295, 0, 0, 255⟩, -- Late free actions (R78)
  ⟨0x1200, 6, 6, 4, 4, 0, 0, .num 0, 0, 4294967295, 0, 0, 255⟩, -- Largest lateness, ns (R78)
  ⟨0x1200, 7, 7, 4, 4, 1, 1, .num 200, 50, 10000, 0, 0, 1⟩, -- Cluster snapshot lead, µs (R78)
  ⟨0x1200, 8, 8, 4, 4, 0, 0, .num 0, 0, 4294967295, 0, 0, 255⟩, -- Commit status flags (R84) (R78)
  ⟨0x1201, 0, 0, 2, 1, 3, 255, .num 8, 0, 255, 0, 0, 255⟩, -- Highest subindex (R78)
  ⟨0x1201, 1, 8, 4, 4, 0, 0, .num 0, 0, 4294967295, 0, 0, 255⟩, -- State of stage set (sub) (R78)
  ⟨0x1202, 0, 0, 2, 1, 3, 255, .num 8, 0, 255, 0, 0, 255⟩, -- Highest subindex (R78)
  ⟨0x1202, 1, 8, 3, 2, 0, 0, .num 0, 0, 65535, 0, 0, 255⟩, -- Result code of stage set (sub) (R78)
  ⟨0x1203, 0, 0, 2, 1, 3, 255, .num 8, 0, 255, 0, 0, 255⟩, -- Highest subindex (R78)
  ⟨0x1203, 1, 8, 4, 4, 0, 0, .num 0, 0, 4294967295, 0, 0, 255⟩, -- First offending object of stage set (sub) (R78)
  ⟨0x1210, 0, 0, 2, 1, 3, 255, .num 128, 0, 255, 0, 0, 255⟩, -- Highest subindex (R78)
  ⟨0x1210, 1, 128, 5, 8, 0, 0, .num 0, 0, 18446744073709551615, 0, 0, 255⟩] -- Epoch count of channel (sub − 1) (R78)

/-- The rows of group 12. -/
def odRows12 : List OdRow := odRows12_0

/-- Objects 13, part 0. -/
def odRows13_0 : List OdRow := [
  ⟨0x1300, 0, 0, 2, 1, 3, 255, .num 8, 0, 255, 0, 0, 255⟩, -- Highest subindex (R466)
  ⟨0x1300, 1, 1, 2, 1, 0, 0, .num 0, 0, 255, 0, 0, 255⟩, -- Own node (R466)
  ⟨0x1300, 2, 2, 3, 2, 0, 0, .num 1, 0, 65535, 0, 0, 255⟩, -- Members mask, bit k for node k (R466)
  ⟨0x1300, 3, 3, 3, 2, 1, 1, .num 1, 0, 65535, 0, 0, 1⟩, -- Expected-members mask (R466)
  ⟨0x1300, 4, 4, 4, 4, 1, 1, .num 5000, 100, 600000, 2, 0, 1⟩, -- Join window, ms; 100–600,000 (R466)
  ⟨0x1300, 5, 5, 13, 32, 0, 0, .oct (zeros 32), 0, 0, 0, 0, 255⟩, -- Configuration digest (R449) (R466)
  ⟨0x1300, 6, 6, 8, 4, 0, 0, .num 0, (-2147483648), 2147483647, 0, 0, 255⟩, -- Largest worker time offset, ns (R466)
  ⟨0x1300, 7, 7, 4, 4, 0, 0, .num 0, 0, 4294967295, 0, 0, 255⟩, -- Members lost (R466)
  ⟨0x1300, 8, 8, 4, 4, 0, 0, .num 0, 0, 4294967295, 0, 0, 255⟩, -- Wrap flags (R466)
  ⟨0x1301, 0, 0, 2, 1, 3, 255, .num 16, 0, 255, 0, 0, 255⟩, -- Highest subindex (R466)
  ⟨0x1301, 1, 16, 4, 4, 0, 0, .num 0, 0, 4294967295, 0, 0, 255⟩, -- State of node (sub − 1) (R466)
  ⟨0x1302, 0, 0, 14, 128, 0, 0, .oct (List.replicate 128 255), 0, 0, 0, 0, 255⟩, -- Published topology (R446), 128 bytes (R466)
  ⟨0x1310, 0, 0, 2, 1, 3, 255, .num 4, 0, 255, 0, 0, 255⟩, -- Highest subindex (R466)
  ⟨0x1310, 1, 4, 3, 2, 4, 1, .num 0, 0, 65535, 0, 0, 1⟩, -- Members of span group (sub − 1), bit k for node k (R466)
  ⟨0x1311, 0, 0, 2, 1, 3, 255, .num 4, 0, 255, 0, 0, 255⟩, -- Highest subindex (R466)
  ⟨0x1311, 1, 4, 4, 4, 0, 0, .num 0, 0, 4294967295, 0, 0, 255⟩, -- Largest boundary difference in span group (sub − 1), ns (R466)
  ⟨0x1318, 0, 0, 2, 1, 3, 255, .num 128, 0, 255, 0, 0, 255⟩, -- Highest subindex (R466)
  ⟨0x1318, 1, 128, 2, 1, 4, 1, .num 0, 0, 255, 0, 0, 1⟩] -- Host of channel (sub − 1): 0x00–0x0F node, 0x40–0x43 span group, 0xFF none (R466)

/-- The rows of group 13. -/
def odRows13 : List OdRow := odRows13_0

/-- Objects 14, part 0. -/
def odRows14_0 : List OdRow := [
  ⟨0x1400, 0, 0, 2, 1, 3, 255, .num 6, 0, 255, 0, 0, 255⟩, -- Highest subindex (R495)
  ⟨0x1400, 1, 1, 1, 1, 4, 1, .num 0, 0, 1, 0, 0, 1⟩, -- Pair enable (R495)
  ⟨0x1400, 2, 2, 2, 1, 4, 1, .num 0, 0, 3, 0, 0, 1⟩, -- Pair port, CW0–CW3 (R495)
  ⟨0x1400, 3, 3, 2, 1, 4, 1, .num 8, 0, 255, 1, 0, 1⟩, -- Revert hold-off, refresh periods, 0–255 (R495)
  ⟨0x1400, 4, 4, 1, 1, 1, 1, .num 1, 0, 1, 0, 0, 1⟩, -- PAIR_LIVE_OUT in DORMANT (R495)
  ⟨0x1400, 5, 5, 1, 1, 4, 1, .num 1, 0, 1, 0, 0, 1⟩, -- Automatic yield (R495)
  ⟨0x1400, 6, 6, 1, 1, 2, 0, .num 0, 0, 1, 0, 0, 2⟩, -- Yield now; Service class (R495)
  ⟨0x1401, 0, 0, 2, 1, 3, 255, .num 13, 0, 255, 0, 0, 255⟩, -- Highest subindex (R495)
  ⟨0x1401, 1, 1, 2, 1, 0, 0, .num 0, 0, 255, 0, 0, 255⟩, -- Pair state (R480) (R495)
  ⟨0x1401, 2, 2, 2, 1, 0, 0, .num 0, 0, 255, 0, 0, 255⟩, -- Pins and link: bit 0 PAIR_LIVE_IN live, bit 1 DRAWBAR low, bit 2 own assertion, bit 3 pair (R495)
  ⟨0x1401, 3, 3, 13, 32, 0, 0, .oct (zeros 32), 0, 0, 0, 0, 255⟩, -- Pair-shared configuration digest (R495)
  ⟨0x1401, 4, 4, 2, 1, 0, 0, .num 0, 0, 255, 0, 0, 255⟩, -- Hold-off progress, refresh periods (R495)
  ⟨0x1401, 5, 5, 4, 4, 0, 0, .num 0, 0, 4294967295, 0, 0, 255⟩, -- Records compared (R495)
  ⟨0x1401, 6, 6, 4, 4, 0, 0, .num 0, 0, 4294967295, 0, 0, 255⟩, -- units matched (R495)
  ⟨0x1401, 7, 7, 4, 4, 0, 0, .num 0, 0, 4294967295, 0, 0, 255⟩, -- units mismatched (R495)
  ⟨0x1401, 8, 8, 4, 4, 0, 0, .num 0, 0, 4294967295, 0, 0, 255⟩, -- units withheld (R495)
  ⟨0x1401, 9, 9, 4, 4, 0, 0, .num 0, 0, 4294967295, 0, 0, 255⟩, -- units sent uncompared (R495)
  ⟨0x1401, 10, 10, 4, 4, 0, 0, .num 0, 0, 4294967295, 0, 0, 255⟩, -- records late (R495)
  ⟨0x1401, 11, 11, 4, 4, 0, 0, .num 0, 0, 4294967295, 0, 0, 255⟩, -- primacy changes (R495)
  ⟨0x1401, 12, 12, 4, 4, 0, 0, .num 0, 0, 4294967295, 0, 0, 255⟩, -- claims lost (R495)
  ⟨0x1401, 13, 13, 4, 4, 0, 0, .num 0, 0, 4294967295, 0, 0, 255⟩, -- Wrap flags (R495)
  ⟨0x1402, 0, 0, 2, 1, 3, 255, .num 128, 0, 255, 0, 0, 255⟩, -- Highest subindex (R495)
  ⟨0x1402, 1, 128, 2, 1, 0, 0, .num 0, 0, 255, 0, 0, 255⟩] -- Pair state of channel (sub − 1): 0x00 not running, 0x01 MATCHED, 0x02 REJOINING, 0x03 UNCO (R495)

/-- The rows of group 14. -/
def odRows14 : List OdRow := odRows14_0

/-- Objects 15, part 0. -/
def odRows15_0 : List OdRow := [
  ⟨0x1500, 0, 0, 2, 1, 3, 255, .num 14, 0, 255, 0, 0, 255⟩, -- Highest subindex (R344)
  ⟨0x1500, 1, 1, 13, 16, 0, 0, .oct (zeros 16), 0, 0, 0, 0, 255⟩, -- Time read: TIME80, then n32 (U32), then 2 reserved bytes (R344)
  ⟨0x1500, 2, 2, 5, 8, 0, 0, .num 0, 0, 18446744073709551615, 0, 0, 255⟩, -- Counter C (R344)
  ⟨0x1500, 3, 3, 5, 8, 3, 255, .num 351843720888320, 0, 18446744073709551615, 0, 0, 255⟩, -- Nominal increment (R344)
  ⟨0x1500, 4, 4, 9, 8, 1, 0, .num 0, (-9223372036854775808), 9223372036854775807, 0, 0, 1⟩, -- ADJ; RW with source 0x02, otherwise writes refused with BUSY (R344)
  ⟨0x1500, 5, 5, 11, 10, 2, 0, .num 0, 0, 281474976710655999999999, 0, 0, 1⟩, -- Time set, stepped under R326; source 0x02 only (R344)
  ⟨0x1500, 6, 6, 2, 1, 4, 1, .num 0, 0, 2, 0, 0, 1⟩, -- Time source, as R325 (R344)
  ⟨0x1500, 7, 7, 4, 4, 1, 1, .num 10000, 1, 200000, 2, 0, 1⟩, -- Slew limit, ppb; 1–200,000 (R344)
  ⟨0x1500, 8, 8, 4, 4, 1, 1, .num 1000000, 100, 1000000000, 2, 0, 1⟩, -- Step threshold, ns; 100–1,000,000,000 (R344)
  ⟨0x1500, 9, 9, 2, 1, 0, 0, .num 0, 0, 255, 0, 0, 255⟩, -- State, as R333 (R344)
  ⟨0x1500, 10, 10, 9, 8, 0, 0, .num 0, (-9223372036854775808), 9223372036854775807, 0, 0, 255⟩, -- Offset from master, ns (R344)
  ⟨0x1500, 11, 11, 9, 8, 0, 0, .num 0, (-9223372036854775808), 9223372036854775807, 0, 0, 255⟩, -- Mean path delay, ns (R344)
  ⟨0x1500, 12, 12, 4, 4, 1, 1, .num 300, 1, 86400, 2, 0, 1⟩, -- Holdover limit, s; 1–86,400 (R344)
  ⟨0x1500, 13, 13, 1, 1, 2, 0, .num 0, 0, 1, 0, 0, 2⟩, -- Apply pending step now; Service class (R344)
  ⟨0x1500, 14, 14, 5, 8, 2, 0, .num 0, 0, 18446744073709551615, 0, 0, 1⟩, -- Seconds of the next PPS_IN edge (R344)
  ⟨0x1501, 0, 0, 2, 1, 3, 255, .num 11, 0, 255, 0, 0, 255⟩, -- Highest subindex (R344)
  ⟨0x1501, 1, 1, 2, 1, 4, 1, .num 0, 0, 2, 0, 0, 1⟩, -- Clock type: 0 OC slave-only, 1 OC, 2 BC (R344)
  ⟨0x1501, 2, 2, 2, 1, 4, 1, .num 127, 0, 127, 0, 0, 1⟩, -- Domain, 0–127 (R344)
  ⟨0x1501, 3, 3, 2, 1, 4, 1, .num 128, 0, 255, 0, 0, 1⟩, -- Priority1 (R344)
  ⟨0x1501, 4, 4, 2, 1, 4, 1, .num 128, 0, 255, 0, 0, 1⟩, -- priority2 (R344)
  ⟨0x1501, 5, 5, 2, 1, 4, 1, .num 1, 0, 15, 0, 0, 1⟩, -- Port mask, bit k for NETk (R344)
  ⟨0x1501, 6, 6, 2, 1, 4, 1, .num 0, 0, 1, 0, 0, 1⟩, -- Delay_Req: 0 multicast, 1 unicast (R344)
  ⟨0x1501, 7, 7, 6, 1, 4, 1, .num (-3), (-7), 1, 0, 0, 1⟩, -- logSyncInterval (R344)
  ⟨0x1501, 8, 8, 6, 1, 4, 1, .num (-2), (-3), 1, 0, 0, 1⟩, -- logAnnounceInterval (R344)
  ⟨0x1501, 9, 9, 6, 1, 4, 1, .num (-3), (-7), 1, 0, 0, 1⟩, -- logMinDelayReqInterval (R344)
  ⟨0x1501, 10, 10, 2, 1, 4, 1, .num 3, 2, 10, 2, 0, 1⟩, -- announceReceiptTimeout (R344)
  ⟨0x1501, 11, 11, 2, 1, 4, 1, .num 46, 0, 63, 0, 0, 1⟩, -- DSCP of PTP messages, 0–63 (R344)
  ⟨0x1502, 0, 0, 2, 1, 3, 255, .num 7, 0, 255, 0, 0, 255⟩, -- Highest subindex (R344)
  ⟨0x1502, 1, 1, 13, 8, 0, 0, .oct (zeros 8), 0, 0, 0, 0, 255⟩, -- Grandmaster identity (R344)
  ⟨0x1502, 2, 2, 3, 2, 0, 0, .num 0, 0, 65535, 0, 0, 255⟩, -- stepsRemoved (R344)
  ⟨0x1502, 3, 3, 3, 2, 0, 0, .num 0, 0, 65535, 0, 0, 255⟩, -- currentUtcOffset, valid flag in bit 15 (R344)
  ⟨0x1502, 4, 4, 3, 2, 0, 0, .num 248, 0, 65535, 0, 0, 255⟩, -- Grandmaster clockClass; own announced clockClass (R344)
  ⟨0x1502, 5, 5, 3, 2, 0, 0, .num 0, 0, 65535, 0, 0, 255⟩, -- Port states, 4 bits per port, IEEE 1588-2019 portState values (R344)
  ⟨0x1502, 6, 6, 14, 16777216, 0, 0, .oct [], 0, 0, 0, 0, 255⟩, -- Synchronization metadata TLV, last received (R344)
  ⟨0x1502, 7, 7, 9, 8, 0, 0, .num 0, (-9223372036854775808), 9223372036854775807, 0, 0, 255⟩, -- Last step applied, ns (R344)
  ⟨0x1503, 0, 0, 2, 1, 3, 255, .num 12, 0, 255, 0, 0, 255⟩, -- Highest subindex (R344)
  ⟨0x1503, 1, 12, 8, 4, 1, 1, .num 0, (-2147483648), 2147483647, 0, 0, 1⟩, -- Ingress latency, egress latency and asymmetry of NET0–NET3, ns (R344)
  ⟨0x1508, 0, 0, 2, 1, 3, 255, .num 6, 0, 255, 0, 0, 255⟩, -- Highest subindex (R344)
  ⟨0x1508, 1, 1, 4, 4, 0, 0, .num 0, 0, 4294967295, 0, 0, 255⟩, -- Steps applied (R344)
  ⟨0x1508, 2, 2, 4, 4, 0, 0, .num 0, 0, 4294967295, 0, 0, 255⟩] -- state changes (R344)

/-- Objects 15, part 1. -/
def odRows15_1 : List OdRow := [
  ⟨0x1508, 3, 3, 4, 4, 0, 0, .num 0, 0, 4294967295, 0, 0, 255⟩, -- grandmaster changes (R344)
  ⟨0x1508, 4, 4, 4, 4, 0, 0, .num 0, 0, 4294967295, 0, 0, 255⟩, -- rate clamps (R344)
  ⟨0x1508, 5, 5, 4, 4, 0, 0, .num 0, 0, 4294967295, 0, 0, 255⟩, -- captures dropped (R344)
  ⟨0x1508, 6, 6, 4, 4, 0, 0, .num 0, 0, 4294967295, 0, 0, 255⟩, -- Wrap flags (R344)
  ⟨0x1510, 0, 0, 2, 1, 3, 255, .num 8, 0, 255, 0, 0, 255⟩, -- Highest subindex (R344)
  ⟨0x1510, 1, 8, 3, 2, 1, 1, .num 0, 0, 65535, 0, 0, 1⟩, -- Configuration of CI0–CI7 (R341) (R344)
  ⟨0x1511, 0, 0, 2, 1, 3, 255, .num 8, 0, 255, 0, 0, 255⟩, -- Highest subindex (R344)
  ⟨0x1511, 1, 8, 14, 16777216, 0, 0, .oct [], 0, 0, 0, 0, 255⟩, -- Capture records of CI0–CI7 (R342) (R344)
  ⟨0x1520, 0, 0, 2, 1, 3, 255, .num 9, 0, 255, 0, 0, 255⟩, -- Highest subindex of TG0; 0x1521–0x152F repeat for TG1–TG15 (R344)
  ⟨0x1520, 1, 1, 2, 1, 4, 1, .num 0, 0, 5, 0, 0, 1⟩, -- Mode, as R337 (R344)
  ⟨0x1520, 2, 2, 2, 1, 4, 1, .num 0, 0, 15, 0, 0, 1⟩, -- GPIO ball, 0–15; CONST for TG15 (R344)
  ⟨0x1520, 3, 3, 2, 1, 4, 1, .num 0, 0, 255, 0, 0, 1⟩, -- Target channel, commit reference or audio group (R344)
  ⟨0x1520, 4, 4, 5, 8, 4, 1, .num 1000000000, 0, 18446744073709551615, 1, 0, 1⟩, -- Period, ns; periodic mode (R344)
  ⟨0x1520, 5, 5, 11, 10, 4, 1, .num 0, 0, 281474976710655999999999, 0, 0, 1⟩, -- Phase (R344)
  ⟨0x1520, 6, 6, 4, 4, 4, 1, .num 10000000, 10, 1000000000, 2, 0, 1⟩, -- Width, ns; 10–1,000,000,000 (R344)
  ⟨0x1520, 7, 7, 8, 4, 4, 1, .num 0, (-2147483648), 2147483647, 0, 0, 1⟩, -- Edge offset, ns; frame mode (R344)
  ⟨0x1520, 8, 8, 3, 2, 4, 1, .num 1, 1, 65535, 2, 0, 1⟩, -- Frame divider m, 1–65,535 (R344)
  ⟨0x1520, 9, 9, 4, 4, 0, 0, .num 0, 0, 4294967295, 0, 0, 255⟩] -- Edges produced (R344)

/-- The rows of group 15. -/
def odRows15 : List OdRow := odRows15_0 ++ odRows15_1

/-- Objects 16, part 0. -/
def odRows16_0 : List OdRow := [
  ⟨0x1600, 0, 0, 2, 1, 3, 255, .num 4, 0, 255, 0, 0, 255⟩, -- Highest subindex (R545)
  ⟨0x1600, 1, 1, 2, 1, 4, 1, .num 0, 0, 2, 0, 0, 1⟩, -- REF_IN frequency: 0x00 25, 0x01 50, 0x02 100 MHz (R545)
  ⟨0x1600, 2, 2, 2, 1, 4, 1, .num 1, 0, 2, 0, 0, 1⟩, -- Reference mode: 0x00 ×1, 0x01 ×2, 0x02 ÷2 (R545)
  ⟨0x1600, 3, 3, 3, 2, 1, 1, .num 100, 10, 10000, 2, 0, 1⟩, -- Qualification time, ms, 10–10,000 (R545)
  ⟨0x1600, 4, 4, 4, 4, 1, 1, .num 60, 1, 86400, 2, 0, 1⟩, -- Holdover alarm time, s, 1–86,400 (R545)
  ⟨0x1601, 0, 0, 2, 1, 3, 255, .num 11, 0, 255, 0, 0, 255⟩, -- Highest subindex (R545)
  ⟨0x1601, 1, 1, 4, 4, 0, 0, .num 8388608, 0, 4294967295, 0, 0, 255⟩, -- Clock state (R546) (R545)
  ⟨0x1601, 2, 2, 4, 4, 0, 0, .num 0, 0, 4294967295, 0, 0, 255⟩, -- Phase-detector frequency, kHz (R545)
  ⟨0x1601, 3, 3, 8, 4, 0, 0, .num 0, (-2147483648), 2147483647, 0, 0, 255⟩, -- REF_IN offset from nominal, ppb (R545)
  ⟨0x1601, 4, 4, 4, 4, 0, 0, .num 0, 0, 4294967295, 0, 0, 255⟩, -- Duration of current HOLDOVER, ms (R545)
  ⟨0x1601, 5, 5, 8, 4, 0, 0, .num 0, (-2147483648), 2147483647, 0, 0, 255⟩, -- Phase error at last re-acquisition, ps (R545)
  ⟨0x1601, 6, 6, 4, 4, 0, 0, .num 0, 0, 4294967295, 0, 0, 255⟩, -- Glitches filtered (R545)
  ⟨0x1601, 7, 7, 4, 4, 0, 0, .num 0, 0, 4294967295, 0, 0, 255⟩, -- HOLDOVER entries (R545)
  ⟨0x1601, 8, 8, 4, 4, 0, 0, .num 0, 0, 4294967295, 0, 0, 255⟩, -- re-acquisitions (R545)
  ⟨0x1601, 9, 9, 4, 4, 0, 0, .num 0, 0, 4294967295, 0, 0, 255⟩, -- losses of lock (R545)
  ⟨0x1601, 10, 10, 4, 4, 0, 0, .num 0, 0, 4294967295, 0, 0, 255⟩, -- references out of range (R545)
  ⟨0x1601, 11, 11, 4, 4, 0, 0, .num 0, 0, 4294967295, 0, 0, 255⟩, -- Wrap flags (R545)
  ⟨0x1610, 0, 0, 2, 1, 3, 255, .num 5, 0, 255, 0, 0, 255⟩, -- Highest subindex (R545)
  ⟨0x1610, 1, 1, 2, 1, 3, 255, .num 3, 0, 255, 0, 0, 255⟩, -- Nominal divisor (R545)
  ⟨0x1610, 2, 2, 2, 1, 3, 255, .num 4, 0, 255, 0, 0, 255⟩, -- Re-lock divisor (R545)
  ⟨0x1610, 3, 3, 2, 1, 0, 0, .num 0, 0, 255, 0, 0, 255⟩, -- Divisor in force (R545)
  ⟨0x1610, 4, 4, 2, 1, 4, 1, .num 0, 0, 63, 0, 0, 1⟩, -- Delay, VCO steps, 0–63 (R545)
  ⟨0x1610, 5, 5, 1, 1, 4, 1, .num 1, 0, 1, 0, 0, 1⟩] -- Enable (R545)

/-- The rows of group 16. -/
def odRows16 : List OdRow := odRows16_0

/-- Objects 17, part 0. -/
def odRows17_0 : List OdRow := [
  ⟨0x1700, 0, 0, 2, 1, 3, 255, .num 6, 0, 255, 0, 0, 255⟩, -- Highest subindex (R571)
  ⟨0x1700, 1, 2, 3, 2, 0, 0, .num 0, 0, 65535, 0, 0, 255⟩, -- VIN, VLODGE, mV (R571)
  ⟨0x1700, 3, 3, 4, 4, 0, 0, .num 0, 0, 4294967295, 0, 0, 255⟩, -- VIN current, mA (R571)
  ⟨0x1700, 4, 4, 4, 4, 0, 0, .num 0, 0, 4294967295, 0, 0, 255⟩, -- Input power, mW (R571)
  ⟨0x1700, 5, 5, 2, 1, 0, 0, .num 0, 0, 255, 0, 0, 255⟩, -- Status: bit 0 VIN good, bit 1 VLODGE good, bit 2 ALERT_N low, bit 3 thermal hold (R571)
  ⟨0x1700, 6, 6, 4, 4, 0, 3, .num 0, 0, 4294967295, 0, 0, 255⟩, -- Brownouts (R571)
  ⟨0x1701, 0, 0, 2, 1, 3, 255, .num 20, 0, 255, 0, 0, 255⟩, -- Highest subindex (R571)
  ⟨0x1701, 1, 16, 7, 2, 0, 0, .num 0, (-32768), 32767, 0, 0, 255⟩, -- Die sensor 0–15, 1/16 °C (R571)
  ⟨0x1701, 17, 17, 7, 2, 0, 0, .num 0, (-32768), 32767, 0, 0, 255⟩, -- Board temperature, 1/16 °C (R571)
  ⟨0x1701, 18, 18, 7, 2, 0, 0, .num 0, (-32768), 32767, 0, 0, 255⟩, -- Highest die sensor, 1/16 °C (R571)
  ⟨0x1701, 19, 19, 7, 2, 0, 0, .num 0, (-32768), 32767, 0, 0, 255⟩, -- Highest die reading since last read, 1/16 °C (R571)
  ⟨0x1701, 20, 20, 4, 4, 0, 3, .num 0, 0, 4294967295, 0, 0, 255⟩, -- Thermal trips (R571)
  ⟨0x1702, 0, 0, 2, 1, 3, 255, .num 6, 0, 255, 0, 0, 255⟩, -- Highest subindex (R571)
  ⟨0x1702, 1, 1, 2, 1, 0, 0, .num 0, 0, 255, 0, 0, 255⟩, -- Rule table in force: 0x00 ROM, 0x01 signed (R571)
  ⟨0x1702, 2, 2, 13, 32, 0, 0, .oct (zeros 32), 0, 0, 0, 0, 255⟩, -- SHAKE256 digest of the rule table in force (R571)
  ⟨0x1702, 3, 3, 4, 4, 0, 0, .num 0, 0, 4294967295, 0, 0, 255⟩, -- Rules fired (R571)
  ⟨0x1702, 4, 4, 5, 8, 0, 3, .num 0, 0, 18446744073709551615, 0, 0, 255⟩, -- Lodge time count, µs (R571)
  ⟨0x1702, 5, 5, 5, 8, 0, 0, .num 0, 0, 18446744073709551615, 0, 0, 255⟩, -- Rule conditions true, bit k for rule k (R571)
  ⟨0x1702, 6, 6, 4, 4, 0, 0, .num 0, 0, 4294967295, 0, 0, 255⟩, -- Wrap flags (R571)
  ⟨0x1703, 0, 0, 2, 1, 3, 255, .num 12, 0, 255, 0, 0, 255⟩, -- Highest subindex (R571)
  ⟨0x1703, 1, 1, 1, 1, 2, 0, .num 0, 0, 1, 0, 0, 2⟩, -- Warm reset; Service class (R571)
  ⟨0x1703, 2, 2, 1, 1, 2, 0, .num 0, 0, 1, 0, 0, 2⟩, -- Media-domain reset; Service class (R571)
  ⟨0x1703, 3, 3, 3, 2, 1, 1, .num 1000, 10, 10000, 2, 0, 1⟩, -- Watchdog timeout, ms, 10–10,000 (R571)
  ⟨0x1703, 4, 4, 2, 1, 0, 0, .num 16, 0, 255, 0, 0, 255⟩, -- Kind of latest reset (R568) (R571)
  ⟨0x1703, 5, 5, 5, 8, 0, 0, .num 0, 0, 18446744073709551615, 0, 0, 255⟩, -- Lodge time count at the latest reset (R571)
  ⟨0x1703, 6, 6, 4, 4, 0, 3, .num 0, 0, 4294967295, 0, 0, 255⟩, -- Counts of pin resets (R571)
  ⟨0x1703, 7, 7, 4, 4, 0, 3, .num 0, 0, 4294967295, 0, 0, 255⟩, -- Lodge resets (R571)
  ⟨0x1703, 8, 8, 4, 4, 0, 3, .num 0, 0, 4294967295, 0, 0, 255⟩, -- watchdog resets (R571)
  ⟨0x1703, 9, 9, 4, 4, 0, 3, .num 0, 0, 4294967295, 0, 0, 255⟩, -- warm resets (R571)
  ⟨0x1703, 10, 10, 4, 4, 0, 3, .num 0, 0, 4294967295, 0, 0, 255⟩, -- media-domain resets (R571)
  ⟨0x1703, 11, 11, 4, 4, 0, 3, .num 0, 0, 4294967295, 0, 0, 255⟩, -- VIN power-ons (R571)
  ⟨0x1703, 12, 12, 4, 4, 0, 3, .num 0, 0, 4294967295, 0, 0, 255⟩] -- wakes refused by hold (R571)

/-- The rows of group 17. -/
def odRows17 : List OdRow := odRows17_0

/-- Objects 18, part 0. -/
def odRows18_0 : List OdRow := [
  ⟨0x1800, 0, 0, 2, 1, 3, 255, .num 13, 0, 255, 0, 0, 255⟩, -- Highest subindex (R523)
  ⟨0x1800, 1, 1, 2, 1, 1, 1, .num 2, 0, 2, 0, 0, 1⟩, -- Density per channel and rank: 0x00 8 Gb, 0x01 12 Gb, 0x02 16 Gb (R523)
  ⟨0x1800, 2, 2, 2, 1, 1, 1, .num 1, 1, 2, 2, 0, 1⟩, -- Ranks, 1–2 (R523)
  ⟨0x1800, 3, 3, 1, 1, 1, 1, .num 1, 0, 1, 0, 0, 1⟩, -- Inline ECC (R523)
  ⟨0x1800, 4, 4, 3, 2, 1, 1, .num 1024, 256, 4096, 2, 0, 1⟩, -- Host surface region, MiB, 256–4,096, multiple of 256 (R523)
  ⟨0x1800, 5, 5, 2, 1, 4, 1, .num 0, 0, 1, 0, 0, 1⟩, -- Refresh mode: 0x00 per-bank, 0x01 all-bank (R523)
  ⟨0x1800, 6, 6, 3, 2, 1, 1, .num 256, 0, 4096, 1, 0, 1⟩, -- Power-down timer, cycles: 0, or 16–4,096; 0 disables power-down (R508), and 1–15 are refus (R523)
  ⟨0x1800, 7, 7, 2, 1, 1, 1, .num 0, 0, 2, 0, 0, 1⟩, -- Page policy: 0x00 predictor, 0x01 close, 0x02 open (R523)
  ⟨0x1800, 8, 8, 2, 1, 1, 1, .num 8, 1, 16, 2, 0, 1⟩, -- Postponement threshold, requests, 1–16 (R523)
  ⟨0x1800, 9, 9, 7, 2, 1, 1, .num 85, 60, 120, 0, 0, 1⟩, -- Board threshold, °C, 60–120 (R523)
  ⟨0x1800, 10, 10, 2, 1, 1, 1, .num 3, 1, 20, 2, 0, 1⟩, -- Hysteresis, °C, 1–20 (R523)
  ⟨0x1800, 11, 11, 2, 1, 1, 1, .num 5, 1, 50, 2, 0, 1⟩, -- Retraining drift threshold, ps, 1–50 (R523)
  ⟨0x1800, 12, 12, 3, 2, 1, 1, .num 16, 4, 256, 2, 0, 1⟩, -- Oscillator period, ms, 4–256 (R523)
  ⟨0x1800, 13, 13, 3, 2, 4, 1, .num 10649, 4096, 16384, 2, 0, 1⟩, -- Stored ratio ρ, Q2.14, 0.25–1.0 (R523)
  ⟨0x1801, 0, 0, 2, 1, 3, 255, .num 11, 0, 255, 0, 0, 255⟩, -- Highest subindex (R523)
  ⟨0x1801, 1, 1, 4, 4, 0, 0, .num 0, 0, 4294967295, 0, 0, 255⟩, -- Usable capacity, MiB (R523)
  ⟨0x1801, 2, 2, 2, 1, 0, 0, .num 0, 0, 255, 0, 0, 255⟩, -- Training in force: 0x00 none, 0x01 full, 0x02 seeded (R523)
  ⟨0x1801, 3, 3, 2, 1, 0, 0, .num 0, 0, 255, 0, 0, 255⟩, -- Alarms: bit 0 demand over limit, bit 1 drift, bit 2 m = 4 (R523)
  ⟨0x1801, 4, 4, 1, 1, 0, 0, .num 0, 0, 1, 0, 0, 255⟩, -- Postponement forbidden on any channel (R523)
  ⟨0x1801, 5, 5, 4, 4, 0, 0, .num 0, 0, 4294967295, 0, 0, 255⟩, -- Corrected errors (R523)
  ⟨0x1801, 6, 6, 4, 4, 0, 0, .num 0, 0, 4294967295, 0, 0, 255⟩, -- debt payments (R523)
  ⟨0x1801, 7, 7, 4, 4, 0, 0, .num 0, 0, 4294967295, 0, 0, 255⟩, -- windows run (R523)
  ⟨0x1801, 8, 8, 4, 4, 0, 0, .num 0, 0, 4294967295, 0, 0, 255⟩, -- RFM commands (R523)
  ⟨0x1801, 9, 9, 4, 4, 0, 0, .num 0, 0, 4294967295, 0, 0, 255⟩, -- windows rebooked (R523)
  ⟨0x1801, 10, 10, 4, 4, 0, 0, .num 0, 0, 4294967295, 0, 0, 255⟩, -- row checks skipped (R523)
  ⟨0x1801, 11, 11, 4, 4, 0, 0, .num 0, 0, 4294967295, 0, 0, 255⟩, -- Wrap flags (R523)
  ⟨0x1802, 0, 0, 2, 1, 3, 255, .num 12, 0, 255, 0, 0, 255⟩, -- Highest subindex (R523)
  ⟨0x1802, 1, 4, 4, 4, 0, 0, .num 0, 0, 4294967295, 0, 0, 255⟩, -- Charged load of FQ0–FQ3, ECC included, MB/s (R523)
  ⟨0x1802, 5, 8, 4, 4, 0, 0, .num 0, 0, 4294967295, 0, 0, 255⟩, -- Measured peak demand of FQ0–FQ3 over 1 ms, MB/s (R523)
  ⟨0x1802, 9, 12, 4, 4, 0, 0, .num 0, 0, 4294967295, 0, 0, 255⟩, -- Free capacity of FQ0–FQ3, MiB (R523)
  ⟨0x1810, 0, 0, 2, 1, 3, 255, .num 3, 0, 255, 0, 0, 255⟩, -- Highest subindex (R523)
  ⟨0x1810, 1, 1, 4, 4, 0, 0, .num 0, 0, 4294967295, 0, 0, 255⟩, -- Channel state (R524) (R523)
  ⟨0x1810, 2, 2, 2, 1, 0, 0, .num 0, 0, 255, 0, 0, 255⟩, -- Last MR4 value (R523)
  ⟨0x1810, 3, 3, 7, 2, 0, 0, .num 0, (-32768), 32767, 0, 0, 255⟩] -- Last oscillator drift, ps (R523)

/-- The rows of group 18. -/
def odRows18 : List OdRow := odRows18_0

/-- Objects 19, part 0. -/
def odRows19_0 : List OdRow := [
  ⟨0x1900, 0, 0, 2, 1, 3, 255, .num 12, 0, 255, 0, 0, 255⟩, -- Highest subindex (R439)
  ⟨0x1900, 1, 12, 2, 1, 4, 1, .num 0, 0, 3, 0, 0, 1⟩, -- Role of Q0–Q11 (R406) (R439)
  ⟨0x1901, 0, 0, 2, 1, 3, 255, .num 12, 0, 255, 0, 0, 255⟩, -- Highest subindex (R439)
  ⟨0x1901, 1, 12, 2, 1, 4, 1, .num 16, 1, 16, 2, 0, 1⟩, -- Rate code of Q0–Q11, 1–16 (R439)
  ⟨0x1902, 0, 0, 2, 1, 3, 255, .num 4, 0, 255, 0, 0, 255⟩, -- Highest subindex (R439)
  ⟨0x1902, 1, 4, 2, 1, 4, 1, .num 255, 0, 255, 0, 0, 1⟩, -- Quad of CW0–CW3; 0xFF none (R439)
  ⟨0x1903, 0, 0, 2, 1, 3, 255, .num 3, 0, 255, 0, 0, 255⟩, -- Highest subindex (R439)
  ⟨0x1903, 1, 1, 4, 4, 1, 1, .num 2000, 0, 1000000, 1, 0, 1⟩, -- Carriageway idle time, ns; 0–1,000,000 (R439)
  ⟨0x1903, 2, 2, 4, 4, 1, 1, .num 10, 4, 100000, 2, 0, 1⟩, -- Task-level timeout, µs; 4–100,000 (R439)
  ⟨0x1903, 3, 3, 2, 1, 1, 1, .num 32, 16, 255, 2, 0, 1⟩, -- FTS sets per fast exit, 16–255 (R439)
  ⟨0x1904, 0, 0, 2, 1, 3, 255, .num 12, 0, 255, 0, 0, 255⟩, -- Highest subindex (R439)
  ⟨0x1904, 1, 12, 8, 4, 1, 1, .num 0, (-2147483648), 2147483647, 0, 0, 1⟩, -- Receive latency of Q0–Q11, ns (R439)
  ⟨0x1905, 0, 0, 2, 1, 3, 255, .num 4, 0, 255, 0, 0, 255⟩, -- Highest subindex (R439)
  ⟨0x1905, 1, 1, 3, 2, 4, 1, .num 64, 9, 65535, 0, 0, 1⟩, -- Credit units of VC0–VC3 (R439)
  ⟨0x1905, 2, 2, 3, 2, 4, 1, .num 64, 9, 65535, 0, 0, 1⟩, -- Credit units of VC0–VC3 (R439)
  ⟨0x1905, 3, 3, 3, 2, 4, 1, .num 128, 9, 65535, 0, 0, 1⟩, -- Credit units of VC0–VC3 (R439)
  ⟨0x1905, 4, 4, 3, 2, 4, 1, .num 256, 9, 65535, 0, 0, 1⟩, -- Credit units of VC0–VC3 (R439)
  ⟨0x1908, 0, 0, 2, 1, 3, 255, .num 48, 0, 255, 0, 0, 255⟩, -- Highest subindex (R439)
  ⟨0x1908, 1, 48, 4, 4, 0, 0, .num 0, 0, 4294967295, 0, 0, 255⟩, -- State of lane (sub − 1) (R439)
  ⟨0x1920, 0, 0, 2, 1, 3, 255, .num 9, 0, 255, 0, 0, 255⟩, -- Highest subindex (R439)
  ⟨0x1920, 1, 1, 4, 4, 0, 0, .num 0, 0, 4294967295, 0, 0, 255⟩, -- Code violations (R439)
  ⟨0x1920, 2, 2, 4, 4, 0, 0, .num 0, 0, 4294967295, 0, 0, 255⟩, -- disparity errors (R439)
  ⟨0x1920, 3, 3, 4, 4, 0, 0, .num 0, 0, 4294967295, 0, 0, 255⟩, -- bad segments or frames (R439)
  ⟨0x1920, 4, 4, 4, 4, 0, 0, .num 0, 0, 4294967295, 0, 0, 255⟩, -- segments rebuilt (R439)
  ⟨0x1920, 5, 5, 4, 4, 0, 0, .num 0, 0, 4294967295, 0, 0, 255⟩, -- idle entries (R439)
  ⟨0x1920, 6, 6, 4, 4, 0, 0, .num 0, 0, 4294967295, 0, 0, 255⟩, -- fast exits (R439)
  ⟨0x1920, 7, 7, 4, 4, 0, 0, .num 0, 0, 4294967295, 0, 0, 255⟩, -- full trainings (R439)
  ⟨0x1920, 8, 8, 4, 4, 0, 0, .num 0, 0, 4294967295, 0, 0, 255⟩, -- lane failures (R439)
  ⟨0x1920, 9, 9, 4, 4, 0, 0, .num 0, 0, 4294967295, 0, 0, 255⟩, -- Wrap flags (R439)
  ⟨0x1950, 0, 0, 2, 1, 3, 255, .num 9, 0, 255, 0, 0, 255⟩, -- Highest subindex (R439)
  ⟨0x1950, 1, 1, 2, 1, 0, 0, .num 0, 0, 255, 0, 0, 255⟩, -- Port state: 0x00 down, 0x01 training, 0x02 up (R439)
  ⟨0x1950, 2, 2, 4, 4, 0, 0, .num 0, 0, 4294967295, 0, 0, 255⟩, -- Frames sent (R439)
  ⟨0x1950, 3, 3, 4, 4, 0, 0, .num 0, 0, 4294967295, 0, 0, 255⟩, -- CRC failures (R428) (R439)
  ⟨0x1950, 4, 4, 4, 4, 0, 0, .num 0, 0, 4294967295, 0, 0, 255⟩, -- NAKs sent (R439)
  ⟨0x1950, 5, 5, 4, 4, 0, 0, .num 0, 0, 4294967295, 0, 0, 255⟩, -- retries (R439)
  ⟨0x1950, 6, 6, 4, 4, 0, 0, .num 0, 0, 4294967295, 0, 0, 255⟩, -- duplicates (R439)
  ⟨0x1950, 7, 7, 4, 4, 0, 0, .num 0, 0, 4294967295, 0, 0, 255⟩, -- port failures (R439)
  ⟨0x1950, 8, 8, 4, 4, 0, 0, .num 0, 0, 4294967295, 0, 0, 255⟩, -- protocol and credit errors (R439)
  ⟨0x1950, 9, 9, 4, 4, 0, 0, .num 0, 0, 4294967295, 0, 0, 255⟩, -- Wrap flags (R439)
  ⟨0x1960, 0, 0, 2, 1, 3, 255, .num 3, 0, 255, 0, 0, 255⟩, -- Highest subindex (R439)
  ⟨0x1960, 1, 1, 2, 1, 1, 1, .num 0, 0, 7, 0, 0, 1⟩, -- Equalisation table selected, 0–7 (R439)
  ⟨0x1960, 2, 2, 14, 3200, 1, 1, .oct eqTables, 0, 0, 0, 0, 1⟩] -- Equalisation tables, 8 × 400 bytes (R415) (R439)

/-- Objects 19, part 1. -/
def odRows19_1 : List OdRow := [
  ⟨0x1960, 3, 3, 13, 48, 0, 0, .oct (zeros 48), 0, 0, 0, 0, 255⟩] -- CRC of the table in force on each quad, 12 × U32 (R439)

/-- The rows of group 19. -/
def odRows19 : List OdRow := odRows19_0 ++ odRows19_1

/-- Objects 1A, part 0. -/
def odRows1A_0 : List OdRow := [
  ⟨0x1A00, 0, 0, 2, 1, 3, 255, .num 15, 0, 255, 0, 0, 255⟩, -- Highest subindex (R378)
  ⟨0x1A00, 1, 1, 1, 1, 4, 1, .num 1, 0, 1, 0, 0, 1⟩, -- Port enable (R378)
  ⟨0x1A00, 2, 2, 2, 1, 4, 1, .num 1, 0, 1, 0, 0, 1⟩, -- Speed: 0x00 10 Gb/s, 0x01 25 Gb/s (R378)
  ⟨0x1A00, 3, 3, 2, 1, 4, 1, .num 0, 0, 2, 0, 0, 1⟩, -- FEC: 0x00 none, 0x01 BASE-R, 0x02 RS (25 Gb/s only) (R378)
  ⟨0x1A00, 4, 4, 4, 4, 4, 1, .num 0, 0, 4294967295, 0, 0, 1⟩, -- IPv4 address (R347) (R378)
  ⟨0x1A00, 5, 5, 2, 1, 4, 1, .num 24, 1, 32, 2, 0, 1⟩, -- Prefix length, 1–32 (R378)
  ⟨0x1A00, 6, 6, 4, 4, 4, 1, .num 0, 0, 4294967295, 0, 0, 1⟩, -- Gateway (R378)
  ⟨0x1A00, 7, 7, 3, 2, 4, 1, .num 0, 0, 4094, 0, 0, 1⟩, -- VLAN identifier, 0–4,094 (R378)
  ⟨0x1A00, 8, 8, 2, 1, 4, 1, .num 4, 0, 7, 0, 0, 1⟩, -- VLAN priority, 0–7 (R378)
  ⟨0x1A00, 9, 9, 13, 6, 0, 2, .oct [], 0, 0, 0, 0, 255⟩, -- MAC address (R378)
  ⟨0x1A00, 10, 10, 2, 1, 0, 0, .num 0, 0, 255, 0, 0, 255⟩, -- Link state: 0x00 down, 0x01 up (R378)
  ⟨0x1A00, 11, 11, 4, 4, 0, 0, .num 0, 0, 4294967295, 0, 0, 255⟩, -- Wire peak load, Mb/s (R351) (R378)
  ⟨0x1A00, 12, 12, 5, 8, 0, 0, .num 0, 0, 18446744073709551615, 0, 0, 255⟩, -- Frames sent (R378)
  ⟨0x1A00, 13, 13, 5, 8, 0, 0, .num 0, 0, 18446744073709551615, 0, 0, 255⟩, -- frames received (R378)
  ⟨0x1A00, 14, 14, 5, 8, 0, 0, .num 0, 0, 18446744073709551615, 0, 0, 255⟩, -- FCS errors (R378)
  ⟨0x1A00, 15, 15, 4, 4, 0, 0, .num 0, 0, 4294967295, 0, 0, 255⟩] -- Wrap flags (R378)

/-- The rows of group 1A. -/
def odRows1A : List OdRow := odRows1A_0

/-- Objects 1B, part 0. -/
def odRows1B_0 : List OdRow := [
  ⟨0x1B00, 0, 0, 2, 1, 3, 255, .num 7, 0, 255, 0, 0, 255⟩, -- Highest subindex (R404)
  ⟨0x1B00, 1, 1, 4, 4, 4, 1, .num 1095761920, 0, 4294967295, 0, 0, 1⟩, -- Format word (R381) (R404)
  ⟨0x1B00, 2, 2, 2, 1, 4, 1, .num 0, 0, 1, 0, 0, 1⟩, -- Direction: 0x00 input, 0x01 output (R404)
  ⟨0x1B00, 3, 3, 2, 1, 4, 1, .num 0, 0, 2, 0, 0, 1⟩, -- Clock mode (R384) (R404)
  ⟨0x1B00, 4, 4, 2, 1, 4, 1, .num 0, 0, 7, 0, 0, 1⟩, -- Group, 0–7 (R404)
  ⟨0x1B00, 5, 5, 8, 4, 4, 1, .num 0, (-10000000), 10000000, 0, 0, 1⟩, -- Phase φ, ns, ±10,000,000 (R404)
  ⟨0x1B00, 6, 6, 13, 32, 4, 1, .oct (zeros 32), 0, 0, 0, 0, 1⟩, -- Loop-through map: 16 × (source port, source slot) (R404)
  ⟨0x1B00, 7, 7, 3, 2, 4, 1, .num 1, 1, 4096, 2, 0, 1⟩, -- Output delay d, samples, 1–4,096 (R404)
  ⟨0x1B10, 0, 0, 2, 1, 3, 255, .num 11, 0, 255, 0, 0, 255⟩, -- Highest subindex (R404)
  ⟨0x1B10, 1, 1, 2, 1, 0, 0, .num 0, 0, 255, 0, 0, 255⟩, -- State: 0x00 stopped, 0x01 running, 0x02 ramping, 0x03 silent (R404)
  ⟨0x1B10, 2, 2, 4, 4, 0, 0, .num 0, 0, 4294967295, 0, 0, 255⟩, -- Measured frame rate, mHz (R404)
  ⟨0x1B10, 3, 3, 2, 1, 0, 0, .num 0, 0, 255, 0, 0, 255⟩, -- FIFO level, frames (R404)
  ⟨0x1B10, 4, 4, 8, 4, 0, 0, .num 0, (-2147483648), 2147483647, 0, 0, 255⟩, -- FOLLOW steering, ppb (R404)
  ⟨0x1B10, 5, 5, 4, 4, 0, 0, .num 0, 0, 4294967295, 0, 0, 255⟩, -- Bad frames (R404)
  ⟨0x1B10, 6, 6, 4, 4, 0, 0, .num 0, 0, 4294967295, 0, 0, 255⟩, -- held samples (R404)
  ⟨0x1B10, 7, 7, 4, 4, 0, 0, .num 0, 0, 4294967295, 0, 0, 255⟩, -- silent samples (R404)
  ⟨0x1B10, 8, 8, 4, 4, 0, 0, .num 0, 0, 4294967295, 0, 0, 255⟩, -- fades (R404)
  ⟨0x1B10, 9, 9, 5, 8, 0, 0, .num 0, 0, 18446744073709551615, 0, 0, 255⟩, -- Sample index n (R404)
  ⟨0x1B10, 10, 10, 4, 4, 0, 0, .num 0, 0, 4294967295, 0, 0, 255⟩, -- Port delay Dp, ns (R404)
  ⟨0x1B10, 11, 11, 4, 4, 0, 0, .num 0, 0, 4294967295, 0, 0, 255⟩, -- Wrap flags (R404)
  ⟨0x1B20, 0, 0, 2, 1, 3, 255, .num 4, 0, 255, 0, 0, 255⟩, -- Highest subindex (R404)
  ⟨0x1B20, 1, 1, 1, 1, 4, 1, .num 0, 0, 1, 0, 0, 1⟩, -- Group enable (R404)
  ⟨0x1B20, 2, 2, 11, 10, 4, 0, .num 0, 0, 281474976710655999999999, 0, 0, 1⟩, -- Start time; 0 the fire instant (R404)
  ⟨0x1B20, 3, 3, 2, 1, 0, 0, .num 0, 0, 255, 0, 0, 255⟩, -- State: 0x00 stopped, 0x01 armed, 0x02 running (R404)
  ⟨0x1B20, 4, 4, 11, 10, 0, 0, .num 0, 0, 281474976710655999999999, 0, 0, 255⟩, -- G of the running start (R404)
  ⟨0x1B40, 0, 0, 2, 1, 3, 255, .num 13, 0, 255, 0, 0, 255⟩, -- Highest subindex (R404)
  ⟨0x1B40, 1, 1, 1, 1, 4, 1, .num 0, 0, 1, 0, 0, 1⟩, -- Output enable (R404)
  ⟨0x1B40, 2, 2, 2, 1, 4, 1, .num 0, 0, 255, 0, 0, 1⟩, -- Source port; first slot (R404)
  ⟨0x1B40, 3, 3, 2, 1, 4, 1, .num 0, 0, 255, 0, 0, 1⟩, -- Source port; first slot (R404)
  ⟨0x1B40, 4, 4, 2, 1, 4, 1, .num 2, 0, 255, 1, 0, 1⟩, -- Channels; 0 disables the output (R404)
  ⟨0x1B40, 5, 5, 2, 1, 4, 1, .num 0, 0, 3, 0, 0, 1⟩, -- Codec (R397) (R404)
  ⟨0x1B40, 6, 6, 4, 4, 4, 1, .num 128000, 1, 4294967295, 2, 0, 1⟩, -- Bit rate, b/s; coded outputs (R404)
  ⟨0x1B40, 7, 7, 2, 1, 4, 1, .num 24, 16, 24, 2, 0, 1⟩, -- ST 302M word length: 16, 20, 24 (R404)
  ⟨0x1B40, 8, 8, 2, 1, 4, 1, .num 0, 0, 127, 0, 0, 1⟩, -- Associated channel, 0–127 (R404)
  ⟨0x1B40, 9, 9, 4, 4, 0, 0, .num 0, 0, 4294967295, 0, 0, 255⟩, -- Da, ns (R404)
  ⟨0x1B40, 10, 10, 4, 4, 0, 0, .num 0, 0, 4294967295, 0, 0, 255⟩, -- Da − Dv, ns (R404)
  ⟨0x1B40, 11, 11, 2, 1, 0, 0, .num 255, 0, 255, 0, 0, 255⟩, -- Core: 0, 1; 0xFF unplaced (R404)
  ⟨0x1B40, 12, 12, 4, 4, 0, 0, .num 0, 0, 4294967295, 0, 0, 255⟩, -- Access units coded (R404)
  ⟨0x1B40, 13, 13, 4, 4, 0, 0, .num 0, 0, 4294967295, 0, 0, 255⟩, -- Wrap flags (R404)
  ⟨0x1BF0, 0, 0, 2, 1, 3, 255, .num 2, 0, 255, 0, 0, 255⟩] -- Highest subindex (R404)

/-- Objects 1B, part 1. -/
def odRows1B_1 : List OdRow := [
  ⟨0x1BF0, 1, 2, 2, 1, 0, 0, .num 0, 0, 255, 0, 0, 255⟩] -- Load of core 0, core 1, units (R404)

/-- The rows of group 1B. -/
def odRows1B : List OdRow := odRows1B_0 ++ odRows1B_1

/-- Objects 1C, part 0. -/
def odRows1C_0 : List OdRow := [
  ⟨0x1C00, 0, 0, 2, 1, 3, 255, .num 2, 0, 255, 0, 0, 255⟩, -- Highest subindex (R613)
  ⟨0x1C00, 1, 1, 2, 1, 1, 1, .num 255, 0, 255, 0, 0, 1⟩, -- Mismatch MSI-X vector, 0–63; 0xFF none (R613)
  ⟨0x1C00, 2, 2, 3, 2, 0, 0, .num 0, 0, 65535, 0, 0, 255⟩, -- Units not idle, bit u (R613)
  ⟨0x1C10, 0, 0, 2, 1, 3, 255, .num 10, 0, 255, 0, 0, 255⟩, -- Highest subindex (R613)
  ⟨0x1C10, 1, 1, 13, 24, 1, 0, .oct (zeros 24), 0, 0, 0, 0, 1⟩, -- Binding (R614) (R613)
  ⟨0x1C10, 2, 2, 5, 8, 1, 0, .num 0, 0, 18446744073709551615, 0, 0, 1⟩, -- Expected value (R613)
  ⟨0x1C10, 3, 3, 1, 1, 2, 0, .num 0, 0, 1, 0, 0, 1⟩, -- Cancel (R613)
  ⟨0x1C10, 4, 4, 4, 4, 0, 0, .num 0, 0, 4294967295, 0, 0, 255⟩, -- Status (R615) (R613)
  ⟨0x1C10, 5, 5, 5, 8, 0, 0, .num 0, 0, 18446744073709551615, 0, 0, 255⟩, -- Last computed value (R613)
  ⟨0x1C10, 6, 6, 5, 8, 0, 0, .num 0, 0, 18446744073709551615, 0, 0, 255⟩, -- Window start: epoch count, access-unit count, or 0 for scans (R613)
  ⟨0x1C10, 7, 7, 4, 4, 0, 0, .num 0, 0, 4294967295, 0, 0, 255⟩, -- Matches (R613)
  ⟨0x1C10, 8, 8, 4, 4, 0, 0, .num 0, 0, 4294967295, 0, 0, 255⟩, -- mismatches (R613)
  ⟨0x1C10, 9, 9, 4, 4, 0, 0, .num 0, 0, 4294967295, 0, 0, 255⟩, -- incomplete windows (R613)
  ⟨0x1C10, 10, 10, 4, 4, 0, 0, .num 0, 0, 4294967295, 0, 0, 255⟩] -- Wrap flags (R613)

/-- The rows of group 1C. -/
def odRows1C : List OdRow := odRows1C_0

/-- Objects 1D, part 0. -/
def odRows1D_0 : List OdRow := [
  ⟨0x1D00, 0, 0, 2, 1, 3, 255, .num 9, 0, 255, 0, 0, 255⟩, -- Highest subindex (R628)
  ⟨0x1D00, 1, 1, 1, 1, 2, 0, .num 0, 0, 1, 0, 0, 1⟩, -- Snapshot now (R628)
  ⟨0x1D00, 2, 2, 4, 4, 1, 1, .num 0, 0, 3600000, 1, 0, 1⟩, -- Snapshot period, ms, 0–3,600,000 (R628)
  ⟨0x1D00, 3, 3, 11, 10, 0, 0, .num 0, 0, 281474976710655999999999, 0, 0, 255⟩, -- Time of latest snapshot (R628)
  ⟨0x1D00, 4, 4, 5, 8, 0, 0, .num 0, 0, 18446744073709551615, 0, 0, 255⟩, -- Snapshot sequence (R628)
  ⟨0x1D00, 5, 5, 1, 1, 1, 1, .num 0, 0, 1, 0, 2, 2⟩, -- Operate reads permitted (R628)
  ⟨0x1D00, 6, 6, 1, 1, 1, 0, .num 0, 0, 1, 0, 2, 2⟩, -- Tagging enable (R628)
  ⟨0x1D00, 7, 7, 2, 1, 1, 1, .num 12, 4, 24, 2, 2, 2⟩, -- Tagging k, 4–24 (R628)
  ⟨0x1D00, 8, 8, 5, 8, 1, 1, .num 0, 0, 18446744073709551615, 0, 2, 2⟩, -- Tagging mask, bit p for PAVp (R628)
  ⟨0x1D00, 9, 9, 4, 4, 1, 1, .num 1, 0, 4294967295, 0, 2, 2⟩, -- Tagging seed (R628)
  ⟨0x1D01, 0, 0, 2, 1, 3, 255, .num 128, 0, 255, 0, 2, 255⟩, -- Highest subindex (R628)
  ⟨0x1D01, 1, 128, 5, 8, 1, 0, .num 0, 0, 18446744073709551615, 0, 2, 2⟩, -- Control word of device counter (sub − 1) (R618) (R628)
  ⟨0x1D02, 0, 0, 2, 1, 3, 255, .num 128, 0, 255, 0, 2, 255⟩, -- Highest subindex (R628)
  ⟨0x1D02, 1, 128, 5, 8, 2, 0, .num 0, 0, 18446744073709551615, 0, 2, 2⟩, -- Preset of device counter (sub − 1) (R628)
  ⟨0x1D03, 0, 0, 2, 1, 3, 255, .num 128, 0, 255, 0, 2, 255⟩, -- Highest subindex (R628)
  ⟨0x1D03, 1, 128, 5, 8, 0, 0, .num 0, 0, 18446744073709551615, 0, 2, 255⟩, -- Snapshot of device counter (sub − 1) (R628)
  ⟨0x1D04, 0, 0, 2, 1, 3, 255, .num 2, 0, 255, 0, 2, 255⟩, -- Highest subindex (R628)
  ⟨0x1D04, 1, 1, 13, 16, 0, 0, .oct (zeros 16), 0, 0, 0, 2, 255⟩, -- WRAPPED bits, bit k for counter k (R628)
  ⟨0x1D04, 2, 2, 13, 16, 0, 0, .oct (zeros 16), 0, 0, 0, 2, 255⟩, -- LATE bits, bit k for counter k (R628)
  ⟨0x1D08, 0, 0, 14, 16777216, 0, 0, .oct [], 0, 0, 0, 2, 255⟩, -- Whole snapshot: device values, then 64 × 16 Pavilion values as U64, then the WRAPPED and L (R628)
  ⟨0x1D40, 0, 0, 2, 1, 3, 255, .num 49, 0, 255, 0, 0, 255⟩, -- Highest subindex (R628)
  ⟨0x1D40, 1, 16, 4, 4, 1, 0, .num 0, 0, 4294967295, 0, 2, 2⟩, -- Control word of counter (sub − 1) (R620) (R628)
  ⟨0x1D40, 17, 32, 5, 8, 2, 0, .num 0, 0, 18446744073709551615, 0, 2, 2⟩, -- Preset of counter (sub − 0x11) (R628)
  ⟨0x1D40, 33, 48, 5, 8, 0, 0, .num 0, 0, 18446744073709551615, 0, 2, 255⟩, -- Snapshot of counter (sub − 0x21) (R628)
  ⟨0x1D40, 49, 49, 4, 4, 0, 0, .num 0, 0, 4294967295, 0, 2, 255⟩, -- [15:0] WRAPPED, [31:16] LATE; LATE cleared on read (R628)
  ⟨0x1D90, 0, 0, 2, 1, 3, 255, .num 3, 0, 255, 0, 2, 255⟩, -- Highest subindex (R628)
  ⟨0x1D90, 1, 1, 14, 16777216, 0, 0, .oct [], 0, 0, 0, 2, 255⟩, -- Tag ring, 1,024 records (R626), oldest first (R628)
  ⟨0x1D90, 2, 2, 5, 8, 0, 0, .num 0, 0, 18446744073709551615, 0, 2, 255⟩, -- Records written (R628)
  ⟨0x1D90, 3, 3, 5, 8, 0, 0, .num 0, 0, 18446744073709551615, 0, 2, 255⟩] -- records dropped (R628)

/-- The rows of group 1D. -/
def odRows1D : List OdRow := odRows1D_0

/-- Objects 1E, part 0. -/
def odRows1E_0 : List OdRow := [
  ⟨0x1E00, 0, 0, 2, 1, 3, 255, .num 7, 0, 255, 0, 0, 255⟩, -- Highest subindex (R638)
  ⟨0x1E00, 1, 1, 4, 4, 0, 4, .num 0, 0, 4294967295, 0, 0, 255⟩, -- Next SEQ (R638)
  ⟨0x1E00, 2, 2, 3, 2, 0, 4, .num 0, 0, 65535, 0, 0, 255⟩, -- Whole entries in the ring (R638)
  ⟨0x1E00, 3, 3, 5, 8, 0, 4, .num 0, 0, 18446744073709551615, 0, 0, 255⟩, -- Whole pinned slots, bit c for code c (R638)
  ⟨0x1E00, 4, 4, 4, 4, 0, 0, .num 0, 0, 4294967295, 0, 0, 255⟩, -- Entries discarded (R638)
  ⟨0x1E00, 5, 5, 4, 4, 0, 0, .num 0, 0, 4294967295, 0, 0, 255⟩, -- occurrences coalesced (R638)
  ⟨0x1E00, 6, 6, 13, 32, 2, 0, .oct [], 0, 0, 0, 0, 1⟩, -- Host note, Configure class, written as code 0x44 (R638)
  ⟨0x1E00, 7, 7, 4, 4, 0, 0, .num 0, 0, 4294967295, 0, 0, 255⟩, -- Wrap flags (R638)
  ⟨0x1E01, 0, 0, 2, 1, 3, 255, .num 3, 0, 255, 0, 0, 255⟩, -- Highest subindex (R638)
  ⟨0x1E01, 1, 1, 4, 4, 1, 0, .num 0, 0, 4294967295, 0, 0, 1⟩, -- Read start SEQ (R638)
  ⟨0x1E01, 2, 2, 3, 2, 1, 0, .num 8128, 1, 8128, 2, 0, 1⟩, -- Read count, 1–8,128 (R638)
  ⟨0x1E01, 3, 3, 14, 16777216, 0, 4, .oct [], 0, 0, 0, 2, 255⟩, -- Entries (R637) (R638)
  ⟨0x1E02, 0, 0, 14, 4096, 0, 4, .oct [], 0, 0, 0, 2, 255⟩, -- Pinned slots 0–63, 4,096 bytes (R638)
  ⟨0x1E10, 0, 0, 2, 1, 3, 255, .num 8, 0, 255, 0, 0, 255⟩, -- Highest subindex (R640)
  ⟨0x1E10, 1, 1, 2, 1, 1, 0, .num 0, 0, 255, 0, 0, 2⟩, -- Test code (R639) (R640)
  ⟨0x1E10, 2, 2, 5, 8, 1, 0, .num 0, 0, 18446744073709551615, 0, 0, 2⟩, -- Target mask (R640)
  ⟨0x1E10, 3, 3, 13, 32, 1, 0, .oct (zeros 32), 0, 0, 0, 0, 2⟩, -- Arguments (R640)
  ⟨0x1E10, 4, 4, 1, 1, 2, 0, .num 0, 0, 1, 0, 0, 2⟩, -- Start (R640)
  ⟨0x1E10, 5, 5, 1, 1, 2, 0, .num 0, 0, 1, 0, 0, 2⟩, -- Cancel (R640)
  ⟨0x1E10, 6, 6, 2, 1, 0, 0, .num 0, 0, 255, 0, 0, 255⟩, -- Test state: 0x00 none, 0x01 running, 0x02 passed, 0x03 failed, 0x04 cancelled, 0x05 time l (R640)
  ⟨0x1E10, 7, 7, 3, 2, 0, 0, .num 0, 0, 65535, 0, 0, 255⟩, -- Progress, per mille (R640)
  ⟨0x1E10, 8, 8, 14, 16777216, 0, 0, .oct [], 0, 0, 0, 0, 255⟩] -- Result record (R641) (R640)

/-- The rows of group 1E. -/
def odRows1E : List OdRow := odRows1E_0

/-- Objects 1F, part 0. -/
def odRows1F_0 : List OdRow := [
  ⟨0x1F00, 0, 0, 2, 1, 3, 255, .num 8, 0, 255, 0, 0, 255⟩, -- Highest subindex (R603)
  ⟨0x1F00, 1, 1, 2, 1, 0, 2, .num 0, 0, 255, 0, 0, 255⟩, -- Life-cycle state: 0x00 BLANK, 0x01 PROVISIONED, 0x02 FIELD, 0x03 RETURN, 0x04 SCRAPPED (R603)
  ⟨0x1F00, 2, 2, 2, 1, 0, 2, .num 0, 0, 255, 0, 0, 255⟩, -- Provisionings P, 0–4 (R603)
  ⟨0x1F00, 3, 3, 2, 1, 0, 2, .num 0, 0, 255, 0, 0, 255⟩, -- Rollback counter (R603)
  ⟨0x1F00, 4, 4, 2, 1, 0, 0, .num 0, 0, 255, 0, 0, 255⟩, -- Settings generation in force, 0 none, 1–5 (R603)
  ⟨0x1F00, 5, 5, 13, 32, 0, 0, .oct (zeros 32), 0, 0, 0, 0, 255⟩, -- Settings block in force (R596) (R603)
  ⟨0x1F00, 6, 6, 5, 8, 2, 0, .num 0, 0, 18446744073709551615, 0, 0, 2⟩, -- Life-cycle request (R574) (R603)
  ⟨0x1F00, 7, 7, 2, 1, 2, 0, .num 0, 0, 255, 0, 0, 2⟩, -- Advance rollback counter to (R592) (R603)
  ⟨0x1F00, 8, 8, 2, 1, 0, 0, .num 0, 0, 255, 0, 0, 255⟩, -- Skipped settings generations, bit k for generation k + 1 (R603)
  ⟨0x1F01, 0, 0, 2, 1, 3, 255, .num 3, 0, 255, 0, 0, 255⟩, -- Highest subindex (R603)
  ⟨0x1F01, 1, 1, 5, 8, 0, 2, .num 0, 0, 18446744073709551615, 0, 0, 255⟩, -- Serial (R603)
  ⟨0x1F01, 2, 2, 14, 16777216, 0, 255, .oct [], 0, 0, 0, 0, 255⟩, -- Device certificate (R588) (R603)
  ⟨0x1F01, 3, 3, 13, 32, 0, 0, .oct (zeros 32), 0, 0, 0, 0, 255⟩, -- SHAKE256 of the identity public key (R603)
  ⟨0x1F02, 0, 0, 2, 1, 3, 255, .num 2, 0, 255, 0, 0, 255⟩, -- Highest subindex (R603)
  ⟨0x1F02, 1, 1, 13, 32, 2, 0, .oct [], 0, 0, 0, 0, 1⟩, -- Attestation nonce (R603)
  ⟨0x1F02, 2, 2, 14, 16777216, 0, 0, .oct [], 0, 0, 0, 0, 255⟩, -- Attestation report (R597) (R603)
  ⟨0x1F04, 1, 1, 13, 32, 2, 2, .oct [], 0, 0, 0, 0, 2⟩, -- Write settings generation (R595) (R603)
  ⟨0x1F05, 0, 0, 13, 32, 0, 0, .oct (zeros 32), 0, 0, 0, 0, 255⟩, -- Owner-command nonce (R603)
  ⟨0x1F06, 0, 0, 14, 16777216, 2, 0, .oct [], 0, 0, 0, 0, 1⟩, -- Owner command (R585) (R603)
  ⟨0x1F08, 0, 0, 13, 32, 0, 0, .oct (zeros 32), 0, 0, 0, 0, 255⟩, -- Maker challenge (R584) (R603)
  ⟨0x1F10, 0, 0, 2, 1, 3, 255, .num 8, 0, 255, 0, 0, 255⟩, -- Highest subindex (R603)
  ⟨0x1F10, 1, 4, 13, 32, 0, 2, .oct (zeros 32), 0, 0, 0, 0, 255⟩, -- Hash of owner slot (sub − 1) (R603)
  ⟨0x1F10, 5, 8, 2, 1, 0, 2, .num 0, 0, 255, 0, 0, 255⟩, -- State of owner slot (sub − 5): 0x00 empty, 0x01 live, 0x02 revoked (R603)
  ⟨0x1F13, 0, 0, 2, 1, 3, 255, .num 2, 0, 255, 0, 0, 255⟩, -- Highest subindex (R603)
  ⟨0x1F13, 1, 1, 13, 33, 2, 2, .oct [], 0, 0, 0, 0, 2⟩, -- Program owner slot: slot, hash (R603)
  ⟨0x1F13, 2, 2, 2, 1, 2, 2, .num 0, 0, 3, 0, 0, 2⟩, -- Revoke owner slot, 0–3 (R603)
  ⟨0x1F20, 0, 0, 2, 1, 3, 255, .num 16, 0, 255, 0, 0, 255⟩, -- Highest subindex (R603)
  ⟨0x1F20, 1, 16, 13, 40, 1, 1, .oct (zeros 40), 0, 0, 0, 0, 2⟩, -- Host credential (sub − 1) (R578) (R603)
  ⟨0x1F30, 0, 0, 2, 1, 3, 255, .num 3, 0, 255, 0, 0, 255⟩, -- Highest subindex (R603)
  ⟨0x1F30, 1, 1, 14, 16777216, 2, 255, .oct [], 0, 0, 0, 0, 2⟩, -- Inactive bank of Gatehouse (R603)
  ⟨0x1F30, 2, 2, 14, 16777216, 2, 255, .oct [], 0, 0, 0, 0, 2⟩, -- Bandstand (R603)
  ⟨0x1F30, 3, 3, 14, 16777216, 2, 255, .oct [], 0, 0, 0, 0, 2⟩, -- rule table (R603)
  ⟨0x1F31, 0, 0, 2, 1, 3, 255, .num 8, 0, 255, 0, 0, 255⟩, -- Highest subindex (R603)
  ⟨0x1F31, 1, 8, 14, 16777216, 2, 255, .oct [], 0, 0, 0, 0, 2⟩, -- Preset pack slot (sub − 1) (R603)
  ⟨0x1F32, 0, 0, 2, 1, 3, 255, .num 4, 0, 255, 0, 0, 255⟩, -- Highest subindex (R603)
  ⟨0x1F32, 1, 1, 2, 1, 2, 255, .num 0, 1, 3, 0, 0, 2⟩, -- Arm trial, image type (R603)
  ⟨0x1F32, 2, 2, 2, 1, 2, 255, .num 0, 1, 3, 0, 0, 2⟩, -- Confirm trial, image type (R603)
  ⟨0x1F32, 3, 3, 4, 4, 1, 1, .num 600, 10, 86400, 2, 0, 1⟩, -- Confirm window, s, 10–86,400 (R603)
  ⟨0x1F32, 4, 4, 3, 2, 0, 0, .num 0, 0, 65535, 0, 0, 255⟩, -- Bank state (R604) (R603)
  ⟨0x1F38, 0, 0, 2, 1, 3, 255, .num 5, 0, 255, 0, 0, 255⟩] -- Highest subindex (R603)

/-- Objects 1F, part 1. -/
def odRows1F_1 : List OdRow := [
  ⟨0x1F38, 1, 1, 4, 4, 0, 0, .num 0, 0, 4294967295, 0, 0, 255⟩, -- Handshakes completed (R603)
  ⟨0x1F38, 2, 2, 4, 4, 0, 0, .num 0, 0, 4294967295, 0, 0, 255⟩, -- handshakes refused (R603)
  ⟨0x1F38, 3, 3, 4, 4, 0, 0, .num 0, 0, 4294967295, 0, 0, 255⟩, -- image verifications failed (R603)
  ⟨0x1F38, 4, 4, 4, 4, 0, 0, .num 0, 0, 4294967295, 0, 0, 255⟩, -- owner commands refused (R603)
  ⟨0x1F38, 5, 5, 4, 4, 0, 0, .num 0, 0, 4294967295, 0, 0, 255⟩] -- Wrap flags (R603)

/-- The rows of group 1F. -/
def odRows1F : List OdRow := odRows1F_0 ++ odRows1F_1

/-- Objects 20, part 0. -/
def odRows20_0 : List OdRow := [
  ⟨0x2000, 0, 0, 2, 1, 3, 255, .num 13, 0, 255, 0, 0, 255⟩, -- Highest subindex (R288)
  ⟨0x2000, 1, 1, 3, 2, 3, 255, .num 49152, 0, 65535, 0, 0, 255⟩, -- Stalls (R288)
  ⟨0x2000, 2, 2, 3, 2, 3, 255, .num 2048, 0, 65535, 0, 0, 255⟩, -- Device pool (R288)
  ⟨0x2000, 3, 3, 3, 2, 0, 0, .num 0, 0, 65535, 0, 0, 255⟩, -- Stalls reserved (R288)
  ⟨0x2000, 4, 4, 3, 2, 0, 0, .num 0, 0, 65535, 0, 0, 255⟩, -- Stalls in use: stalls in STATE 2 to 6 of R264, of every coach kind, device pool included (R288)
  ⟨0x2000, 5, 5, 3, 2, 0, 0, .num 0, 0, 65535, 0, 0, 255⟩, -- Peak stalls in use, counted as OD 0x2000.04 (R288)
  ⟨0x2000, 6, 6, 4, 4, 0, 0, .num 0, 0, 4294967295, 0, 0, 255⟩, -- Largest dispatch wait, ns (R288)
  ⟨0x2000, 7, 7, 4, 4, 0, 0, .num 0, 0, 4294967295, 0, 0, 255⟩, -- Engine faults (R288)
  ⟨0x2000, 8, 8, 4, 4, 0, 0, .num 0, 0, 4294967295, 0, 0, 255⟩, -- repair runs (R288)
  ⟨0x2000, 9, 9, 4, 4, 0, 0, .num 0, 0, 4294967295, 0, 0, 255⟩, -- retirements (R288)
  ⟨0x2000, 10, 10, 4, 4, 0, 0, .num 0, 0, 4294967295, 0, 0, 255⟩, -- spares started (R288)
  ⟨0x2000, 11, 11, 4, 4, 0, 0, .num 0, 0, 4294967295, 0, 0, 255⟩, -- list-1 dispatches (R288)
  ⟨0x2000, 12, 12, 4, 4, 0, 0, .num 0, 0, 4294967295, 0, 0, 255⟩, -- timetable BUSY refusals (R288)
  ⟨0x2000, 13, 13, 4, 4, 0, 0, .num 0, 0, 4294967295, 0, 0, 255⟩, -- Wrap flags (R288)
  ⟨0x2001, 0, 0, 2, 1, 3, 255, .num 8, 0, 255, 0, 0, 255⟩, -- Highest subindex (R288)
  ⟨0x2001, 1, 8, 3, 2, 0, 0, .num 0, 0, 65535, 0, 0, 255⟩, -- Occupancy of ready list (sub − 1), summed over quarters (R288)
  ⟨0x2002, 0, 0, 2, 1, 3, 255, .num 4, 0, 255, 0, 0, 255⟩, -- Highest subindex (R288)
  ⟨0x2002, 1, 4, 3, 2, 0, 0, .num 0, 0, 65535, 0, 0, 255⟩, -- Entries in timetable list (sub − 1) (R288)
  ⟨0x2003, 0, 0, 2, 1, 3, 255, .num 6, 0, 255, 0, 0, 255⟩, -- Highest subindex (R288)
  ⟨0x2003, 1, 4, 2, 1, 4, 1, .num 0, 0, 1, 0, 0, 1⟩, -- Cold spares in FQ0–FQ3, 0–1 (R288)
  ⟨0x2003, 5, 5, 3, 2, 4, 1, .num 1000, 0, 60000, 1, 0, 1⟩, -- Retirement window, ms; 0–60,000 (R288)
  ⟨0x2003, 6, 6, 5, 8, 4, 1, .num 0, 0, 18446744073709551615, 0, 2, 2⟩, -- Excluded Pavilions, bit k for PAVk (R288)
  ⟨0x2004, 0, 0, 2, 1, 3, 255, .num 128, 0, 255, 0, 0, 255⟩, -- Highest subindex (R288)
  ⟨0x2004, 1, 128, 3, 2, 0, 0, .num 0, 0, 65535, 0, 0, 255⟩, -- Stalls reserved for channel (sub − 1) (R288)
  ⟨0x2005, 0, 0, 2, 1, 3, 255, .num 128, 0, 255, 0, 0, 255⟩, -- Highest subindex (R288)
  ⟨0x2005, 1, 128, 3, 2, 0, 0, .num 0, 0, 65535, 0, 0, 255⟩, -- Least L passing R269 for channel (sub − 1), lines (R288)
  ⟨0x2006, 0, 0, 2, 1, 3, 255, .num 2, 0, 255, 0, 0, 255⟩, -- Highest subindex (R288)
  ⟨0x2006, 1, 1, 3, 2, 1, 0, .num 0, 0, 49151, 0, 2, 2⟩, -- Stall to inspect, 0–49,151 (R288)
  ⟨0x2006, 2, 2, 5, 8, 0, 0, .num 0, 0, 18446744073709551615, 0, 2, 255⟩, -- Stall word (R264) (R288)
  ⟨0x2010, 0, 0, 2, 1, 3, 255, .num 128, 0, 255, 0, 0, 255⟩, -- Highest subindex (R20)
  ⟨0x2010, 1, 128, 2, 1, 0, 0, .num 0, 0, 255, 0, 0, 255⟩, -- Quarter placement of channel (sub − 1) (R20)
  ⟨0x2020, 0, 0, 14, 16777216, 0, 0, .oct [], 0, 0, 0, 2, 255⟩, -- Timetable image: 4 × 1,024 entries of R283, unused entries zero (R288)
  ⟨0x2100, 0, 0, 2, 1, 3, 255, .num 64, 0, 255, 0, 0, 255⟩, -- Highest subindex (R288)
  ⟨0x2100, 1, 64, 4, 4, 0, 0, .num 0, 0, 4294967295, 0, 0, 255⟩] -- State of PAV(sub − 1) (R288)

/-- The rows of group 20. -/
def odRows20 : List OdRow := odRows20_0

/-- Objects 30, part 0. -/
def odRows30_0 : List OdRow := [
  ⟨0x3000, 0, 0, 2, 1, 3, 255, .num 16, 0, 255, 0, 0, 255⟩, -- Highest subindex (R379)
  ⟨0x3000, 1, 1, 1, 1, 4, 1, .num 0, 0, 1, 0, 0, 1⟩, -- Flow enable (R379)
  ⟨0x3000, 2, 2, 2, 1, 4, 1, .num 0, 0, 127, 0, 0, 1⟩, -- Source channel, 0–127 (R379)
  ⟨0x3000, 3, 3, 2, 1, 4, 1, .num 0, 0, 63, 0, 0, 1⟩, -- Content: 0x00 video, 0x01 TS programme, 0x20–0x3F audio output 0–31 (R379)
  ⟨0x3000, 4, 4, 2, 1, 4, 1, .num 0, 0, 5, 0, 0, 1⟩, -- Transport, as R350 (R379)
  ⟨0x3000, 5, 5, 2, 1, 4, 1, .num 0, 0, 3, 0, 0, 1⟩, -- Path A: NET port (R379)
  ⟨0x3000, 6, 6, 4, 4, 4, 1, .num 0, 0, 4294967295, 0, 0, 1⟩, -- destination IPv4 (R379)
  ⟨0x3000, 7, 7, 3, 2, 4, 1, .num 5004, 0, 65535, 0, 0, 1⟩, -- destination UDP port (R379)
  ⟨0x3000, 8, 8, 1, 1, 4, 1, .num 0, 0, 1, 0, 0, 1⟩, -- Path B enable (R379)
  ⟨0x3000, 9, 9, 2, 1, 4, 1, .num 1, 0, 3, 0, 0, 1⟩, -- Path B: NET port (R379)
  ⟨0x3000, 10, 10, 4, 4, 4, 1, .num 0, 0, 4294967295, 0, 0, 1⟩, -- destination IPv4 (R379)
  ⟨0x3000, 11, 11, 3, 2, 4, 1, .num 5004, 0, 65535, 0, 0, 1⟩, -- destination UDP port (R379)
  ⟨0x3000, 12, 12, 3, 2, 4, 1, .num 5004, 0, 65535, 0, 0, 1⟩, -- Source UDP port (R379)
  ⟨0x3000, 13, 13, 2, 1, 4, 1, .num 34, 0, 63, 0, 0, 1⟩, -- DSCP, 0–63 (R379)
  ⟨0x3000, 14, 14, 2, 1, 4, 1, .num 64, 1, 255, 2, 0, 1⟩, -- TTL, 1–255 (R379)
  ⟨0x3000, 15, 15, 2, 1, 4, 1, .num 0, 0, 15, 0, 0, 1⟩, -- PCIe ring, 0–15 (R379)
  ⟨0x3000, 16, 16, 3, 2, 4, 1, .num 1500, 576, 1500, 2, 0, 1⟩, -- Datagram limit, bytes, 576–1,500 (R379)
  ⟨0x3001, 0, 0, 2, 1, 3, 255, .num 7, 0, 255, 0, 0, 255⟩, -- Highest subindex (R379)
  ⟨0x3001, 1, 1, 2, 1, 4, 1, .num 96, 96, 127, 2, 0, 1⟩, -- Payload type, 96–127; 33 is used under ST 2022-2 (R379)
  ⟨0x3001, 2, 2, 4, 4, 4, 1, .num 0, 0, 4294967295, 0, 0, 1⟩, -- SSRC (R379)
  ⟨0x3001, 3, 3, 3, 2, 4, 1, .num 0, 0, 65535, 0, 0, 1⟩, -- Initial sequence number (R379)
  ⟨0x3001, 4, 4, 4, 4, 4, 1, .num 0, 0, 4294967295, 0, 0, 1⟩, -- Timestamp offset (R379)
  ⟨0x3001, 5, 5, 2, 1, 4, 1, .num 0, 0, 1, 0, 0, 1⟩, -- Audio packet time: 0x00 1 ms, 0x01 125 µs (R379)
  ⟨0x3001, 6, 6, 2, 1, 4, 1, .num 0, 0, 1, 0, 0, 1⟩, -- Audio sample format: 0x00 L24, 0x01 L16 (R379)
  ⟨0x3001, 7, 7, 14, 16777216, 0, 0, .oct [], 0, 0, 0, 0, 255⟩, -- Session description (R369) (R379)
  ⟨0x3002, 0, 0, 2, 1, 3, 255, .num 8, 0, 255, 0, 0, 255⟩, -- Highest subindex (R379)
  ⟨0x3002, 1, 1, 4, 4, 4, 1, .num 0, 0, 4294967295, 0, 0, 1⟩, -- TS rate Rts, b/s (R379)
  ⟨0x3002, 2, 2, 3, 2, 4, 1, .num 1, 0, 65535, 0, 0, 1⟩, -- transport_stream_id (R379)
  ⟨0x3002, 3, 3, 3, 2, 4, 1, .num 1, 0, 65535, 0, 0, 1⟩, -- program_number (R379)
  ⟨0x3002, 4, 4, 3, 2, 4, 1, .num 256, 0, 65535, 0, 0, 1⟩, -- PMT PID (R379)
  ⟨0x3002, 5, 5, 3, 2, 4, 1, .num 257, 0, 65535, 0, 0, 1⟩, -- video PID (R379)
  ⟨0x3002, 6, 6, 3, 2, 4, 1, .num 272, 0, 65535, 0, 0, 1⟩, -- first audio PID (R379)
  ⟨0x3002, 7, 7, 4, 4, 4, 1, .num 0, 0, 4294967295, 0, 0, 1⟩, -- Audio outputs carried, bit k for output k (R379)
  ⟨0x3002, 8, 8, 3, 2, 4, 1, .num 100, 20, 500, 2, 0, 1⟩, -- PSI interval, ms, 20–500 (R379)
  ⟨0x3003, 0, 0, 2, 1, 3, 255, .num 9, 0, 255, 0, 0, 255⟩, -- Highest subindex (R379)
  ⟨0x3003, 1, 1, 2, 1, 0, 0, .num 0, 0, 255, 0, 0, 255⟩, -- State: 0x00 off, 0x01 sending, 0x02 policy output, 0x03 next hop unresolved, 0x04 link dow (R379)
  ⟨0x3003, 2, 2, 5, 8, 4, 0, .num 0, 0, 18446744073709551615, 0, 0, 1⟩, -- Packets on path A (R379)
  ⟨0x3003, 3, 3, 5, 8, 4, 0, .num 0, 0, 18446744073709551615, 0, 0, 1⟩, -- bytes on path A (R379)
  ⟨0x3003, 4, 4, 5, 8, 4, 0, .num 0, 0, 18446744073709551615, 0, 0, 1⟩, -- packets on path B (R379)
  ⟨0x3003, 5, 5, 5, 8, 4, 0, .num 0, 0, 18446744073709551615, 0, 0, 1⟩] -- bytes on path B (R379)

/-- Objects 30, part 1. -/
def odRows30_1 : List OdRow := [
  ⟨0x3003, 6, 6, 3, 2, 0, 0, .num 0, 0, 65535, 0, 0, 255⟩, -- Last RTP sequence number sent (R379)
  ⟨0x3003, 7, 7, 4, 4, 4, 0, .num 0, 0, 4294967295, 0, 0, 1⟩, -- Datagrams or units discarded (R379)
  ⟨0x3003, 8, 8, 4, 4, 0, 0, .num 0, 0, 4294967295, 0, 0, 255⟩, -- Largest ring-write lateness, ns (R379)
  ⟨0x3003, 9, 9, 4, 4, 0, 0, .num 0, 0, 4294967295, 0, 0, 255⟩] -- Wrap flags (R379)

/-- The rows of group 30. -/
def odRows30 : List OdRow := odRows30_0 ++ odRows30_1

/-- Objects 40, part 0. -/
def odRows40_0 : List OdRow := [
  ⟨0x4000, 0, 0, 2, 1, 3, 255, .num 10, 0, 255, 0, 0, 255⟩, -- Highest subindex (R179)
  ⟨0x4000, 1, 1, 3, 2, 4, 1, .num 1920, 0, 65535, 0, 0, 1⟩, -- Active width (R179)
  ⟨0x4000, 2, 2, 3, 2, 4, 1, .num 1080, 0, 65535, 0, 0, 1⟩, -- active height (R179)
  ⟨0x4000, 3, 3, 4, 4, 4, 1, .num 60000, 0, 4294967295, 0, 0, 1⟩, -- Frame rate numerator (R179)
  ⟨0x4000, 4, 4, 4, 4, 4, 1, .num 1001, 0, 4294967295, 0, 0, 1⟩, -- denominator (R179)
  ⟨0x4000, 5, 5, 2, 1, 4, 1, .num 0, 0, 1, 0, 0, 1⟩, -- Colour model: 0 Y'CbCr, 1 R'G'B' (R179)
  ⟨0x4000, 6, 6, 2, 1, 4, 1, .num 1, 0, 2, 0, 0, 1⟩, -- Subsampling: 0 4:4:4, 1 4:2:2, 2 4:2:0 (R179)
  ⟨0x4000, 7, 7, 2, 1, 4, 1, .num 10, 0, 255, 2, 0, 1⟩, -- Bit depth (R179)
  ⟨0x4000, 8, 8, 2, 1, 4, 1, .num 0, 0, 1, 0, 0, 1⟩, -- Range: 0 narrow, 1 full (R179)
  ⟨0x4000, 9, 9, 2, 1, 4, 1, .num 1, 0, 1, 0, 0, 1⟩, -- Colorimetry: 0 BT.709, 1 BT.2020 (R179)
  ⟨0x4000, 10, 10, 2, 1, 4, 1, .num 2, 0, 2, 0, 0, 1⟩, -- Transfer: 0 SDR, 1 PQ, 2 HLG (R179)
  ⟨0x4001, 0, 0, 2, 1, 3, 255, .num 5, 0, 255, 0, 0, 255⟩, -- Highest subindex (R179)
  ⟨0x4001, 1, 1, 3, 2, 4, 1, .num 1, 1, 16, 2, 0, 1⟩, -- Lock window W, lines; range 1–16, zero illegal (R179)
  ⟨0x4001, 2, 2, 2, 1, 4, 1, .num 0, 0, 1, 0, 0, 1⟩, -- Line fill: 0 FREEZE, 1 BLACK (R179)
  ⟨0x4001, 3, 3, 2, 1, 4, 1, .num 2, 0, 2, 0, 0, 1⟩, -- Picture fill: 0 FREEZE, 1 BLACK, 2 SLATE (R179)
  ⟨0x4001, 4, 4, 3, 2, 4, 1, .num 8, 0, 65535, 1, 0, 1⟩, -- Switch count, pictures; 0–65,535 (R179)
  ⟨0x4001, 5, 5, 1, 1, 4, 1, .num 0, 0, 1, 0, 0, 1⟩, -- Channel enable (R667) (R179)
  ⟨0x4002, 0, 0, 2, 1, 3, 255, .num 9, 0, 255, 0, 0, 255⟩, -- Highest subindex (R179)
  ⟨0x4002, 1, 1, 3, 2, 4, 1, .num 1920, 0, 65535, 0, 0, 1⟩, -- Output width (R179)
  ⟨0x4002, 2, 2, 3, 2, 4, 1, .num 1080, 0, 65535, 0, 0, 1⟩, -- output height (R179)
  ⟨0x4002, 3, 3, 3, 2, 4, 1, .num 0, 0, 65535, 0, 0, 1⟩, -- Crop x (R179)
  ⟨0x4002, 4, 4, 3, 2, 4, 1, .num 0, 0, 65535, 0, 0, 1⟩, -- y (R179)
  ⟨0x4002, 5, 5, 3, 2, 4, 1, .num 0, 0, 65535, 1, 0, 1⟩, -- width (R179)
  ⟨0x4002, 6, 6, 3, 2, 4, 1, .num 0, 0, 65535, 1, 0, 1⟩, -- height (R179)
  ⟨0x4002, 7, 7, 2, 1, 4, 1, .num 8, 0, 255, 2, 0, 1⟩, -- Horizontal taps (R179)
  ⟨0x4002, 8, 8, 2, 1, 4, 1, .num 4, 0, 255, 2, 0, 1⟩, -- vertical taps (R179)
  ⟨0x4002, 9, 9, 2, 1, 4, 1, .num 0, 0, 1, 0, 0, 1⟩, -- Kernel select: 0 built-in, 1 custom (R179)
  ⟨0x4003, 0, 0, 2, 1, 3, 255, .num 2, 0, 255, 0, 0, 255⟩, -- Highest subindex (R179)
  ⟨0x4003, 1, 2, 14, 1024, 4, 1, .oct (builtInKernel 8), 0, 0, 0, 0, 1⟩, -- Horizontal kernel, vertical kernel, 1,024 bytes (R179)
  ⟨0x4004, 0, 0, 2, 1, 3, 255, .num 5, 0, 255, 0, 0, 255⟩, -- Highest subindex (R179)
  ⟨0x4004, 1, 1, 2, 1, 4, 1, .num 0, 0, 9, 0, 0, 1⟩, -- Video conversion preset (R179)
  ⟨0x4004, 2, 2, 14, 24582, 4, 1, .oct identityShaper, 0, 0, 0, 0, 1⟩, -- Shaper LUT, 24,582 bytes (R179)
  ⟨0x4004, 3, 3, 13, 24, 4, 1, .oct identityMatrix, 0, 0, 0, 0, 1⟩, -- Matrix (R179)
  ⟨0x4004, 4, 4, 14, 215622, 4, 1, .oct identityCube, 0, 0, 0, 0, 1⟩, -- 3D LUT, 215,622 bytes (R179)
  ⟨0x4004, 5, 5, 14, 24582, 4, 1, .oct identityShaper, 0, 0, 0, 0, 1⟩, -- Output LUT, 24,582 bytes (R179)
  ⟨0x4005, 0, 0, 2, 1, 3, 255, .num 6, 0, 255, 0, 0, 255⟩, -- Highest subindex (R179)
  ⟨0x4005, 1, 1, 2, 1, 4, 1, .num 0, 0, 1, 0, 0, 1⟩, -- Output colour model (R179)
  ⟨0x4005, 2, 2, 2, 1, 4, 1, .num 1, 0, 2, 0, 0, 1⟩, -- subsampling (R179)
  ⟨0x4005, 3, 3, 2, 1, 4, 1, .num 10, 0, 255, 2, 0, 1⟩, -- bit depth (R179)
  ⟨0x4005, 4, 4, 2, 1, 4, 1, .num 0, 0, 1, 0, 0, 1⟩] -- range (R179)

/-- Objects 40, part 1. -/
def odRows40_1 : List OdRow := [
  ⟨0x4005, 5, 5, 2, 1, 4, 1, .num 1, 0, 1, 0, 0, 1⟩, -- colorimetry (R179)
  ⟨0x4005, 6, 6, 2, 1, 4, 1, .num 2, 0, 2, 0, 0, 1⟩, -- transfer; encodings as 0x4000.05–.0A (R179)
  ⟨0x4006, 0, 0, 2, 1, 3, 255, .num 3, 0, 255, 0, 0, 255⟩, -- Highest subindex (R179)
  ⟨0x4006, 1, 1, 13, 32, 4, 1, .oct (zeros 32), 0, 0, 0, 0, 1⟩, -- Slate surface descriptor; size must equal the output size (R179)
  ⟨0x4006, 2, 2, 4, 4, 4, 1, .num 0, 0, 4294967295, 0, 0, 1⟩, -- Slate fence target (R179)
  ⟨0x4006, 3, 3, 4, 4, 1, 0, .num 0, 0, 4294967295, 0, 0, 1⟩, -- Slate fence value (R179)
  ⟨0x4008, 0, 0, 2, 1, 3, 255, .num 11, 0, 255, 0, 0, 255⟩, -- Highest subindex (R179)
  ⟨0x4008, 1, 1, 2, 1, 0, 0, .num 4, 0, 255, 0, 0, 255⟩, -- Pergola delay, lines (R179)
  ⟨0x4008, 2, 2, 2, 1, 0, 0, .num 0, 0, 255, 0, 0, 255⟩, -- Fill state: 0 LIVE, 1 LINES, 2 FREEZE, 3 FILL (R179)
  ⟨0x4008, 3, 3, 8, 4, 0, 0, .num 0, (-2147483648), 2147483647, 0, 0, 255⟩, -- Boundary offset from expected, ns (R179)
  ⟨0x4008, 4, 4, 4, 4, 0, 0, .num 0, 0, 4294967295, 0, 0, 255⟩, -- Lines filled (R179)
  ⟨0x4008, 5, 5, 4, 4, 0, 0, .num 0, 0, 4294967295, 0, 0, 255⟩, -- pictures filled (R179)
  ⟨0x4008, 6, 6, 4, 4, 0, 0, .num 0, 0, 4294967295, 0, 0, 255⟩, -- late lines discarded (R179)
  ⟨0x4008, 7, 7, 4, 4, 0, 0, .num 0, 0, 4294967295, 0, 0, 255⟩, -- format-mismatch lines (R179)
  ⟨0x4008, 8, 8, 4, 4, 0, 0, .num 0, 0, 4294967295, 0, 0, 255⟩, -- malformed tiles (R179)
  ⟨0x4008, 9, 9, 4, 4, 0, 0, .num 0, 0, 4294967295, 0, 0, 255⟩, -- Wrap flags (R179)
  ⟨0x4008, 10, 10, 4, 4, 0, 0, .num 0, 0, 4294967295, 0, 0, 255⟩, -- Layer fetch load, MB/s, highest of the channel's pipes (R179)
  ⟨0x4008, 11, 11, 4, 4, 0, 0, .num 0, 0, 4294967295, 0, 0, 255⟩, -- Input-phase alarms (R173) (R179)
  ⟨0x400A, 0, 0, 2, 1, 3, 255, .num 5, 0, 255, 0, 0, 255⟩, -- Highest subindex (R441)
  ⟨0x400A, 1, 1, 5, 8, 4, 1, .num 0, 0, 18446744073709551615, 0, 0, 1⟩, -- Ingest lanes, bit k for Lk (R441)
  ⟨0x400A, 2, 2, 1, 1, 4, 1, .num 1, 0, 1, 0, 0, 1⟩, -- Ingest parity expected (R441)
  ⟨0x400A, 3, 3, 3, 2, 4, 1, .num 256, 0, 1020, 0, 0, 1⟩, -- Ancillary allowance, bytes, 0–1,020, multiple of 4 (R441)
  ⟨0x400A, 4, 4, 5, 8, 4, 1, .num 0, 0, 18446744073709551615, 0, 0, 1⟩, -- Return-video lanes, bit k for Lk (R441)
  ⟨0x400A, 5, 5, 1, 1, 4, 1, .num 1, 0, 1, 0, 0, 1⟩, -- Return parity sent (R441)
  ⟨0x400C, 0, 0, 2, 1, 3, 255, .num 6, 0, 255, 0, 0, 255⟩, -- Highest subindex (R441)
  ⟨0x400C, 1, 1, 4, 4, 0, 0, .num 0, 0, 4294967295, 0, 0, 255⟩, -- Lines received (R441)
  ⟨0x400C, 2, 2, 4, 4, 0, 0, .num 0, 0, 4294967295, 0, 0, 255⟩, -- lines rebuilt (R441)
  ⟨0x400C, 3, 3, 4, 4, 0, 0, .num 0, 0, 4294967295, 0, 0, 255⟩, -- lines lost (R441)
  ⟨0x400C, 4, 4, 4, 4, 0, 0, .num 0, 0, 4294967295, 0, 0, 255⟩, -- header mismatches (R441)
  ⟨0x400C, 5, 5, 4, 4, 0, 0, .num 0, 0, 4294967295, 0, 0, 255⟩, -- duplicate lines (R441)
  ⟨0x400C, 6, 6, 4, 4, 0, 0, .num 0, 0, 4294967295, 0, 0, 255⟩, -- Wrap flags (R441)
  ⟨0x4020, 0, 0, 2, 1, 3, 255, .num 13, 0, 255, 0, 0, 255⟩, -- Highest subindex (R179)
  ⟨0x4020, 1, 1, 13, 32, 4, 1, .oct (zeros 32), 0, 0, 0, 0, 1⟩, -- Layer surface descriptor (R179)
  ⟨0x4020, 2, 2, 3, 2, 4, 1, .num 0, 0, 65535, 0, 0, 1⟩, -- Source x (R179)
  ⟨0x4020, 3, 3, 3, 2, 4, 1, .num 0, 0, 65535, 0, 0, 1⟩, -- y (R179)
  ⟨0x4020, 4, 4, 3, 2, 4, 1, .num 0, 0, 65535, 1, 0, 1⟩, -- width (R179)
  ⟨0x4020, 5, 5, 3, 2, 4, 1, .num 0, 0, 65535, 1, 0, 1⟩, -- height (R179)
  ⟨0x4020, 6, 6, 7, 2, 4, 1, .num 0, (-32768), 32767, 0, 0, 1⟩, -- Destination X (R179)
  ⟨0x4020, 7, 7, 7, 2, 4, 1, .num 0, (-32768), 32767, 0, 0, 1⟩, -- Y (R179)
  ⟨0x4020, 8, 9, 3, 2, 4, 1, .num 0, 0, 16384, 1, 0, 1⟩] -- Destination width, height; 0–16,384 (R179)

/-- Objects 40, part 2. -/
def odRows40_2 : List OdRow := [
  ⟨0x4020, 10, 10, 2, 1, 4, 1, .num 4, 0, 255, 2, 0, 1⟩, -- Horizontal taps (R179)
  ⟨0x4020, 11, 11, 2, 1, 4, 1, .num 4, 0, 255, 2, 0, 1⟩, -- vertical taps (R179)
  ⟨0x4020, 12, 12, 4, 4, 4, 1, .num 0, 0, 4294967295, 0, 0, 1⟩, -- Fence target (R179)
  ⟨0x4020, 13, 13, 4, 4, 1, 0, .num 0, 0, 4294967295, 0, 0, 1⟩, -- Fence value (R179)
  ⟨0x4021, 0, 0, 2, 1, 3, 255, .num 7, 0, 255, 0, 0, 255⟩, -- Highest subindex (R179)
  ⟨0x4021, 1, 1, 2, 1, 4, 1, .num 0, 0, 1, 0, 0, 1⟩, -- Alpha mode: 0 straight, 1 premultiplied (R179)
  ⟨0x4021, 2, 2, 3, 2, 4, 1, .num 1023, 0, 1023, 0, 0, 1⟩, -- Layer alpha, 0–1,023 (R179)
  ⟨0x4021, 3, 3, 2, 1, 4, 1, .num 0, 0, 4, 0, 0, 1⟩, -- Layer colour preset, 0x00–0x04 (R179)
  ⟨0x4021, 4, 4, 14, 24582, 4, 1, .oct identityShaper, 0, 0, 0, 0, 1⟩, -- Layer shaper LUT, 24,582 bytes (R179)
  ⟨0x4021, 5, 5, 13, 24, 4, 1, .oct identityMatrix, 0, 0, 0, 0, 1⟩, -- Layer matrix (R179)
  ⟨0x4021, 6, 6, 14, 24582, 4, 1, .oct identityShaper, 0, 0, 0, 0, 1⟩, -- Layer output LUT, 24,582 bytes (R179)
  ⟨0x4021, 7, 7, 2, 1, 4, 1, .num 0, 0, 1, 0, 0, 1⟩] -- Kernel select: 0 built-in, 1 channel custom (R179)

/-- The rows of group 40. -/
def odRows40 : List OdRow := odRows40_0 ++ odRows40_1 ++ odRows40_2

/-- Objects 44, part 0. -/
def odRows44_0 : List OdRow := [
  ⟨0x4040, 0, 0, 2, 1, 3, 255, .num 11, 0, 255, 0, 0, 255⟩, -- Highest subindex (R227)
  ⟨0x4040, 1, 1, 2, 1, 4, 1, .num 2, 1, 5, 2, 0, 1⟩, -- Codec: 0x01 VVC, 0x02 HEVC, 0x03 AV1, 0x04 AVC, 0x05 JPEG XS (R227)
  ⟨0x4040, 2, 2, 2, 1, 4, 1, .num 3, 0, 255, 0, 0, 1⟩, -- Profile, as R205 (R227)
  ⟨0x4040, 3, 3, 2, 1, 4, 1, .num 0, 0, 255, 0, 0, 1⟩, -- Level syntax value; 0 chooses automatically (R227)
  ⟨0x4040, 4, 4, 2, 1, 4, 1, .num 32, 32, 128, 2, 0, 1⟩, -- CTU size: 32, 64 or 128 (R227)
  ⟨0x4040, 5, 5, 2, 1, 4, 1, .num 1, 1, 64, 2, 0, 1⟩, -- Tile columns, 1–64 (R227)
  ⟨0x4040, 6, 6, 2, 1, 4, 1, .num 1, 1, 64, 2, 0, 1⟩, -- Tile rows, 1–64 (R227)
  ⟨0x4040, 7, 7, 2, 1, 4, 1, .num 1, 0, 255, 0, 0, 1⟩, -- Preset, as R201 and R202 (R227)
  ⟨0x4040, 8, 8, 2, 1, 4, 1, .num 2, 0, 4, 1, 0, 1⟩, -- Reference count, 0–4; ignored for JPEG XS (R227)
  ⟨0x4040, 9, 9, 3, 2, 4, 1, .num 120, 0, 65535, 1, 0, 1⟩, -- Key interval, pictures, 0–65,535 (R227)
  ⟨0x4040, 10, 10, 3, 2, 4, 1, .num 0, 0, 65535, 1, 0, 1⟩, -- Gradual-refresh period, pictures (R227)
  ⟨0x4040, 11, 11, 4, 4, 4, 0, .num 0, 0, 4294967295, 0, 0, 1⟩, -- Random-access request count (R227)
  ⟨0x4041, 0, 0, 2, 1, 3, 255, .num 5, 0, 255, 0, 0, 255⟩, -- Highest subindex (R227)
  ⟨0x4041, 1, 1, 2, 1, 4, 1, .num 2, 0, 3, 0, 0, 1⟩, -- Decoded picture hash: 0 off, 1 MD5, 2 CRC, 3 checksum (R227)
  ⟨0x4041, 2, 2, 2, 1, 4, 1, .num 0, 0, 2, 0, 0, 1⟩, -- Timecode source: 0 off, 1 pixel link, 2 PTP (R227)
  ⟨0x4041, 3, 3, 1, 1, 4, 1, .num 0, 0, 1, 0, 0, 1⟩, -- Drop-frame timecode (R227)
  ⟨0x4041, 4, 4, 2, 1, 4, 1, .num 1, 0, 3, 0, 0, 1⟩, -- Ancillary carriage: bit 0 captions, bit 1 other packets (R227)
  ⟨0x4041, 5, 5, 1, 1, 4, 1, .num 0, 0, 1, 0, 0, 1⟩, -- Parameter sets in every access unit (R227)
  ⟨0x4042, 0, 0, 2, 1, 3, 255, .num 7, 0, 255, 0, 0, 255⟩, -- Highest subindex (R227)
  ⟨0x4042, 1, 1, 1, 1, 4, 1, .num 0, 0, 1, 0, 0, 1⟩, -- Mastering display enable (R227)
  ⟨0x4042, 2, 2, 13, 16, 4, 1, .oct (zeros 16), 0, 0, 0, 0, 1⟩, -- Primaries and white point: x, y of R, G, B and white, 8 × U16 little-endian, units of 0.00 (R227)
  ⟨0x4042, 3, 3, 4, 4, 4, 1, .num 10000000, 0, 4294967295, 0, 0, 1⟩, -- Maximum mastering luminance, 0.0001 cd/m² (R227)
  ⟨0x4042, 4, 4, 4, 4, 4, 1, .num 50, 0, 4294967295, 0, 0, 1⟩, -- Minimum mastering luminance, 0.0001 cd/m² (R227)
  ⟨0x4042, 5, 5, 1, 1, 4, 1, .num 0, 0, 1, 0, 0, 1⟩, -- Content light level enable (R227)
  ⟨0x4042, 6, 6, 3, 2, 4, 1, .num 1000, 0, 65535, 0, 0, 1⟩, -- MaxCLL, cd/m² (R227)
  ⟨0x4042, 7, 7, 3, 2, 4, 1, .num 400, 0, 65535, 0, 0, 1⟩, -- MaxFALL, cd/m² (R227)
  ⟨0x4048, 0, 0, 2, 1, 3, 255, .num 11, 0, 255, 0, 0, 255⟩, -- Highest subindex (R227)
  ⟨0x4048, 1, 1, 2, 1, 0, 0, .num 0, 0, 255, 0, 0, 255⟩, -- Profile signalled: general_profile_idc, seq_profile or profile_idc (R227)
  ⟨0x4048, 2, 2, 2, 1, 0, 0, .num 0, 0, 255, 0, 0, 255⟩, -- Level signalled (R227)
  ⟨0x4048, 3, 3, 4, 4, 0, 0, .num 0, 0, 4294967295, 0, 0, 255⟩, -- Pictures coded (R227)
  ⟨0x4048, 4, 4, 4, 4, 0, 0, .num 0, 0, 4294967295, 0, 0, 255⟩, -- Random-access points coded (R227)
  ⟨0x4048, 5, 5, 3, 2, 0, 0, .num 0, 0, 65535, 0, 0, 255⟩, -- Refresh phase; N − 1 at a key picture (R219) (R227)
  ⟨0x4048, 6, 6, 4, 4, 0, 0, .num 0, 0, 4294967295, 0, 0, 255⟩, -- Cycle demand, Mcycles/s, rounded down (R203) (R227)
  ⟨0x4048, 7, 7, 4, 4, 0, 0, .num 0, 0, 4294967295, 0, 0, 255⟩, -- Ceiling per CTU, cycles (R227)
  ⟨0x4048, 8, 8, 7, 2, 0, 0, .num 0, (-32768), 32767, 0, 0, 255⟩, -- Reach, CTU rows (R192) (R227)
  ⟨0x4048, 9, 9, 4, 4, 0, 0, .num 0, 0, 4294967295, 0, 0, 255⟩, -- Wrap flags (R227)
  ⟨0x4048, 10, 10, 13, 32, 0, 0, .oct (zeros 32), 0, 0, 0, 0, 255⟩, -- Preset pack digest (R227)
  ⟨0x4048, 11, 11, 2, 1, 0, 0, .num 0, 0, 255, 0, 0, 255⟩, -- Tier signalled (R206): 0x00 Main, 0x01 High; 0x00 for AVC and JPEG XS (R227)
  ⟨0x4060, 0, 0, 2, 1, 3, 255, .num 8, 0, 255, 0, 0, 255⟩, -- Highest subindex (R259)
  ⟨0x4060, 1, 1, 2, 1, 4, 1, .num 0, 0, 1, 0, 0, 1⟩] -- Bit-rate mode: 0x00 CAPPED, 0x01 FILLED (R259)

/-- Objects 44, part 1. -/
def odRows44_1 : List OdRow := [
  ⟨0x4060, 2, 2, 4, 4, 4, 1, .num 200000000, 1000000, 4294967295, 2, 0, 1⟩, -- Target rate Rt, b/s; 1,000,000 to Rp (R259)
  ⟨0x4060, 3, 3, 4, 4, 4, 1, .num 300000000, 1, 3000000000, 2, 0, 1⟩, -- Peak rate Rp, b/s; Rt to 3,000,000,000 (R259)
  ⟨0x4060, 4, 4, 2, 1, 4, 1, .num 0, 0, 1, 0, 0, 1⟩, -- Latency mode: 0x00 one frame, 0x01 lines (R259)
  ⟨0x4060, 5, 5, 3, 2, 4, 1, .num 1080, 1, 65535, 2, 0, 1⟩, -- L, lines; 1 to 4 × active height (R259)
  ⟨0x4060, 6, 6, 3, 2, 4, 1, .num 30, 1, 1024, 2, 0, 1⟩, -- Account spread, pictures; 1–1,024 (R259)
  ⟨0x4060, 7, 7, 2, 1, 4, 1, .num 4, 0, 64, 1, 0, 1⟩, -- Account limit, multiples of target; 0–64 (R259)
  ⟨0x4060, 8, 8, 2, 1, 4, 1, .num 48, 16, 255, 2, 0, 1⟩, -- Key-picture weight KEYW, sixteenths; 16–255 (R259)
  ⟨0x4068, 0, 0, 2, 1, 3, 255, .num 18, 0, 255, 0, 0, 255⟩, -- Highest subindex (R260)
  ⟨0x4068, 1, 1, 3, 2, 0, 0, .num 0, 0, 65535, 0, 0, 255⟩, -- Minimum latency L_min, lines (R260)
  ⟨0x4068, 2, 2, 3, 2, 0, 0, .num 0, 0, 65535, 0, 0, 255⟩, -- L in force, lines (R260)
  ⟨0x4068, 3, 3, 3, 2, 0, 0, .num 0, 0, 65535, 0, 0, 255⟩, -- Departure-row height S_d, lines (R260)
  ⟨0x4068, 4, 4, 4, 4, 0, 0, .num 0, 0, 4294967295, 0, 0, 255⟩, -- Longest band coach B, ns (R260)
  ⟨0x4068, 5, 5, 3, 2, 0, 0, .num 0, 0, 65535, 0, 0, 255⟩, -- Reconstruction depth D, lines (R260)
  ⟨0x4068, 6, 6, 4, 4, 0, 0, .num 0, 0, 4294967295, 0, 0, 255⟩, -- Slot Q, bits (R260)
  ⟨0x4068, 7, 7, 4, 4, 0, 0, .num 0, 0, 4294967295, 0, 0, 255⟩, -- Last-row slot Q_last, bits (R260)
  ⟨0x4068, 8, 8, 4, 4, 0, 0, .num 0, 0, 4294967295, 0, 0, 255⟩, -- Inter picture floor reserve at its largest (R241, R249), bits (R260)
  ⟨0x4068, 9, 9, 4, 4, 0, 0, .num 0, 0, 4294967295, 0, 0, 255⟩, -- Key picture floor reserve at its largest (R241, R249), bits (R260)
  ⟨0x4068, 10, 10, 9, 8, 0, 0, .num 0, (-9223372036854775808), 9223372036854775807, 0, 0, 255⟩, -- Account, bits (R260)
  ⟨0x4068, 11, 11, 4, 4, 0, 0, .num 0, 0, 4294967295, 0, 0, 255⟩, -- Budget of latest picture, bits (R260)
  ⟨0x4068, 12, 12, 4, 4, 0, 0, .num 0, 0, 4294967295, 0, 0, 255⟩, -- Size of latest final picture, bits, without filler (R245) (R260)
  ⟨0x4068, 13, 13, 4, 4, 0, 0, .num 0, 0, 4294967295, 0, 0, 255⟩, -- CTUs in floor form under R251 (R260)
  ⟨0x4068, 14, 14, 4, 4, 0, 0, .num 0, 0, 4294967295, 0, 0, 255⟩, -- Pictures with floor form under R251 (R260)
  ⟨0x4068, 15, 15, 4, 4, 0, 0, .num 0, 0, 4294967295, 0, 0, 255⟩, -- Substituted bands (R260)
  ⟨0x4068, 16, 16, 4, 4, 0, 0, .num 0, 0, 4294967295, 0, 0, 255⟩, -- Wrap flags (R260)
  ⟨0x4068, 17, 17, 3, 2, 0, 0, .num 0, 0, 65535, 0, 0, 255⟩, -- G + X, lines, rounded up (R260)
  ⟨0x4068, 18, 18, 4, 4, 0, 0, .num 0, 0, 4294967295, 0, 0, 255⟩, -- Largest departure lag after d_r, ns, 0 to half a line (R231) (R260)
  ⟨0x4069, 0, 0, 14, 16777216, 0, 0, .oct [], 0, 0, 0, 0, 255⟩, -- Tollhouse state record (R257) (R260)
  ⟨0x4070, 0, 0, 2, 1, 3, 255, .num 9, 0, 255, 0, 0, 255⟩, -- Highest subindex (R320)
  ⟨0x4070, 1, 1, 2, 1, 4, 1, .num 255, 0, 255, 0, 0, 1⟩, -- Source: 0x00–0x03 BV0–BV3, 0x04 Pavilions (JPEG XS), 0xFF lanes (R320)
  ⟨0x4070, 2, 2, 2, 1, 4, 1, .num 2, 1, 5, 2, 0, 1⟩, -- Input codec, encoded as OD 0x4040.01 (R320)
  ⟨0x4070, 3, 3, 2, 1, 4, 1, .num 0, 0, 255, 0, 0, 1⟩, -- Declared level, syntax value as R206 (R320)
  ⟨0x4070, 4, 4, 2, 1, 4, 1, .num 0, 0, 3, 0, 0, 1⟩, -- Encapsulation, as R301 (R320)
  ⟨0x4070, 5, 5, 3, 2, 4, 1, .num 0, 0, 65535, 0, 0, 1⟩, -- TS program number; 0 first in PAT (R320)
  ⟨0x4070, 6, 6, 4, 4, 4, 1, .num 50000, 0, 4294967295, 0, 0, 1⟩, -- Presentation delay, µs (R320)
  ⟨0x4070, 7, 7, 3, 2, 4, 1, .num 60, 1, 1024, 2, 0, 1⟩, -- Assumed refresh period, pictures; 1–1,024 (R320)
  ⟨0x4070, 8, 8, 2, 1, 4, 1, .num 0, 0, 15, 0, 0, 1⟩, -- PCIe ring, 0–15 (R320)
  ⟨0x4070, 9, 9, 2, 1, 4, 1, .num 96, 96, 127, 2, 0, 1⟩, -- RTP payload type, 96–127 (R320)
  ⟨0x4071, 0, 0, 2, 1, 3, 255, .num 5, 0, 255, 0, 0, 255⟩, -- Highest subindex (R320)
  ⟨0x4071, 1, 1, 1, 1, 4, 1, .num 1, 0, 1, 0, 0, 1⟩, -- Path enable (R320)
  ⟨0x4071, 2, 2, 4, 4, 4, 1, .num 0, 0, 4294967295, 0, 0, 1⟩] -- Destination IPv4 address (R320)

/-- Objects 44, part 2. -/
def odRows44_2 : List OdRow := [
  ⟨0x4071, 3, 3, 3, 2, 4, 1, .num 5004, 0, 65535, 0, 0, 1⟩, -- Destination UDP port (R320)
  ⟨0x4071, 4, 4, 4, 4, 4, 1, .num 0, 0, 4294967295, 0, 0, 1⟩, -- Source filter IPv4; 0 any source (R320)
  ⟨0x4071, 5, 5, 2, 1, 4, 1, .num 0, 0, 3, 0, 0, 1⟩, -- NET port, 0–3 (R320)
  ⟨0x4072, 0, 0, 2, 1, 3, 255, .num 6, 0, 255, 0, 0, 255⟩, -- Highest subindex (R320)
  ⟨0x4072, 1, 1, 1, 1, 4, 1, .num 0, 0, 1, 0, 0, 1⟩, -- Path enable (R320)
  ⟨0x4072, 2, 2, 4, 4, 4, 1, .num 0, 0, 4294967295, 0, 0, 1⟩, -- Destination IPv4 address (R320)
  ⟨0x4072, 3, 3, 3, 2, 4, 1, .num 5004, 0, 65535, 0, 0, 1⟩, -- Destination UDP port (R320)
  ⟨0x4072, 4, 4, 4, 4, 4, 1, .num 0, 0, 4294967295, 0, 0, 1⟩, -- Source filter IPv4; 0 any source (R320)
  ⟨0x4072, 5, 5, 2, 1, 4, 1, .num 1, 0, 3, 0, 0, 1⟩, -- NET port, 0–3 (R320)
  ⟨0x4072, 6, 6, 4, 4, 4, 1, .num 10000, 100, 150000, 2, 0, 1⟩, -- Path differential limit, µs; 100–150,000 (R320)
  ⟨0x4073, 0, 0, 2, 1, 3, 255, .num 3, 0, 255, 0, 0, 255⟩, -- Highest subindex (R320)
  ⟨0x4073, 1, 1, 2, 1, 4, 1, .num 1, 0, 2, 0, 0, 1⟩, -- Confidence mode: 0 off, 1 every picture, 2 sampled (R320)
  ⟨0x4073, 2, 2, 3, 2, 4, 1, .num 4, 2, 256, 2, 0, 1⟩, -- Sampling interval k, 2–256 (R320)
  ⟨0x4073, 3, 3, 2, 1, 4, 1, .num 3, 1, 255, 2, 0, 1⟩, -- Alarm threshold, pictures, 1–255 (R320)
  ⟨0x4078, 0, 0, 2, 1, 3, 255, .num 15, 0, 255, 0, 0, 255⟩, -- Highest subindex (R320)
  ⟨0x4078, 1, 1, 2, 1, 0, 0, .num 0, 0, 255, 0, 0, 255⟩, -- Decoder state: 0 idle, 1 awaiting random-access point, 2 decoding (R320)
  ⟨0x4078, 2, 2, 1, 1, 0, 0, .num 0, 0, 1, 0, 0, 255⟩, -- Presented picture concealed (R320)
  ⟨0x4078, 3, 3, 4, 4, 0, 0, .num 0, 0, 4294967295, 0, 0, 255⟩, -- Pictures decoded (R320)
  ⟨0x4078, 4, 4, 4, 4, 0, 0, .num 0, 0, 4294967295, 0, 0, 255⟩, -- pictures presented (R320)
  ⟨0x4078, 5, 5, 4, 4, 0, 0, .num 0, 0, 4294967295, 0, 0, 255⟩, -- slots missing (R320)
  ⟨0x4078, 6, 6, 4, 4, 0, 0, .num 0, 0, 4294967295, 0, 0, 255⟩, -- pictures without slot (R320)
  ⟨0x4078, 7, 7, 4, 4, 0, 0, .num 0, 0, 4294967295, 0, 0, 255⟩, -- damage and hash failures (R320)
  ⟨0x4078, 8, 8, 4, 4, 0, 0, .num 0, 0, 4294967295, 0, 0, 255⟩, -- CTUs concealed (R320)
  ⟨0x4078, 9, 9, 4, 4, 0, 0, .num 0, 0, 4294967295, 0, 0, 255⟩, -- references synthesised (R320)
  ⟨0x4078, 10, 10, 4, 4, 0, 0, .num 0, 0, 4294967295, 0, 0, 255⟩, -- Packets lost after merge (R320)
  ⟨0x4078, 11, 11, 4, 4, 0, 0, .num 0, 0, 4294967295, 0, 0, 255⟩, -- packets taken from path B (R320)
  ⟨0x4078, 12, 12, 8, 4, 0, 0, .num 0, (-2147483648), 2147483647, 0, 0, 255⟩, -- Least presentation margin, µs (R320)
  ⟨0x4078, 13, 13, 3, 2, 0, 0, .num 0, 0, 65535, 0, 0, 255⟩, -- Last profile and level seen: profile [15:8], level [7:0] (R320)
  ⟨0x4078, 14, 14, 4, 4, 0, 0, .num 0, 0, 4294967295, 0, 0, 255⟩, -- Wrap flags (R320)
  ⟨0x4078, 15, 15, 4, 4, 0, 0, .num 0, 0, 4294967295, 0, 0, 255⟩, -- Load of the source Belvedere, Mpix/s (R320)
  ⟨0x4079, 0, 0, 2, 1, 3, 255, .num 9, 0, 255, 0, 0, 255⟩, -- Highest subindex (R320)
  ⟨0x4079, 1, 1, 4, 4, 0, 0, .num 0, 0, 4294967295, 0, 0, 255⟩, -- Pictures checked (R320)
  ⟨0x4079, 2, 2, 4, 4, 0, 0, .num 0, 0, 4294967295, 0, 0, 255⟩, -- rows mismatched (R320)
  ⟨0x4079, 3, 3, 4, 4, 0, 0, .num 0, 0, 4294967295, 0, 0, 255⟩, -- pictures mismatched (R320)
  ⟨0x4079, 4, 4, 4, 4, 0, 0, .num 0, 0, 4294967295, 0, 0, 255⟩, -- picture hash mismatches (R320)
  ⟨0x4079, 5, 5, 5, 8, 0, 0, .num 0, 0, 18446744073709551615, 0, 0, 255⟩, -- Epoch count of last mismatch (R320)
  ⟨0x4079, 6, 6, 3, 2, 0, 0, .num 0, 0, 65535, 0, 0, 255⟩, -- Consecutive mismatched pictures (R320)
  ⟨0x4079, 7, 7, 1, 1, 0, 0, .num 0, 0, 1, 0, 0, 255⟩, -- Confidence alarm (R320)
  ⟨0x4079, 8, 8, 4, 4, 0, 0, .num 0, 0, 4294967295, 0, 0, 255⟩, -- Highest load among the channel's confidence Belvederes, Mpix/s (R320)
  ⟨0x4079, 9, 9, 4, 4, 0, 0, .num 0, 0, 4294967295, 0, 0, 255⟩] -- Wrap flags (R320)

/-- The rows of group 44. -/
def odRows44 : List OdRow := odRows44_0 ++ odRows44_1 ++ odRows44_2

/-- The index of the table row that describes an index: channel n's objects are shown for channel 0
(R88), layer k's for layer 0, flow f's for flow 0, and the repeated units' for unit 0. -/
def baseIdx (i : Nat) : Nat :=
  if i < 0x1000 then i
  else if i < 0x2000 then
    if 0x1520 ≤ i ∧ i < 0x1530 then 0x1520
    else if 0x1610 ≤ i ∧ i < 0x1616 then 0x1610
    else if 0x1810 ≤ i ∧ i < 0x1820 then 0x1810
    else if 0x1920 ≤ i ∧ i < 0x1950 then 0x1920
    else if 0x1950 ≤ i ∧ i < 0x1954 then 0x1950
    else if 0x1A00 ≤ i ∧ i < 0x1A04 then 0x1A00
    else if 0x1B00 ≤ i ∧ i < 0x1B10 then 0x1B00
    else if 0x1B10 ≤ i ∧ i < 0x1B20 then 0x1B10
    else if 0x1B20 ≤ i ∧ i < 0x1B28 then 0x1B20
    else if 0x1B40 ≤ i ∧ i < 0x1B60 then 0x1B40
    else if 0x1C10 ≤ i ∧ i < 0x1C1A then 0x1C10
    else if 0x1D40 ≤ i ∧ i < 0x1D80 then 0x1D40
    else i
  else if i < 0x3000 then i
  else if i < 0x4000 then 0x3000 + i % 4
  else if i < 0x8000 then
    let off := (i - 0x4000) % 0x80
    if 0x20 ≤ off ∧ off < 0x40 then 0x4020 + off % 2 else 0x4000 + off
  else i

/-- The rows among which a base index is looked up. -/
def odChapter (i : Nat) : List OdRow :=
  match i / 256 with
  | 0x10 => odRows10
  | 0x11 => odRows11
  | 0x12 => odRows12
  | 0x13 => odRows13
  | 0x14 => odRows14
  | 0x15 => odRows15
  | 0x16 => odRows16
  | 0x17 => odRows17
  | 0x18 => odRows18
  | 0x19 => odRows19
  | 0x1A => odRows1A
  | 0x1B => odRows1B
  | 0x1C => odRows1C
  | 0x1D => odRows1D
  | 0x1E => odRows1E
  | 0x1F => odRows1F
  | 0x20 => odRows20
  | 0x21 => odRows20
  | 0x30 => odRows30
  | 0x40 => if i < 0x4040 then odRows40 else odRows44
  | _ => []

/-- The row of an object, if the object exists (R87). [DEDUCED: log entry 18] -/
def odRow (i j : Nat) : Option OdRow :=
  (odChapter (baseIdx i)).find? (fun r => r.idx == baseIdx i && Nat.ble r.lo j && Nat.ble j r.hi)

/-- Whether any object has this index (R87). -/
def odIndexExists (i : Nat) : Bool := (odChapter (baseIdx i)).any (fun r => r.idx == baseIdx i)

/-- The six clock outputs' nominal and re-lock divisors (R545). -/
def clockDivisor (sub k : Nat) : Int :=
  if sub = 1 then ([3, 8, 16, 24, 32, 128].getD k 3 : Nat) else ([4, 10, 20, 32, 40, 160].getD k 4 : Nat)

/-- The default of an object: its table's default, with the defaults that differ from unit to unit. -/
def odDefault (i j : Nat) : Val :=
  if 0x4000 ≤ i ∧ i < 0x8000 ∧ (i - 0x4000) % 0x80 = 3 ∧ j = 2 then .oct (builtInKernel 4)
  else if i = 0x152F ∧ j = 1 then .num 1
  else if 0x1520 ≤ i ∧ i < 0x1530 ∧ j = 2 then .num ((i - 0x1520 : Nat) : Int)
  else if 0x1610 ≤ i ∧ i < 0x1616 ∧ 1 ≤ j ∧ j ≤ 3 then .num (clockDivisor (if j = 1 then 1 else 2) (i - 0x1610))
  else match odRow i j with
    | some r => r.dflt
    | none => .num 0

/-- Values inside an object's range that its table still does not accept. -/
def odExtra (i j : Nat) (v : Int) : Bool :=
  match baseIdx i, j with
  | 0x1001, 3 => v != 3
  | 0x4040, 4 => v == 32 || v == 64 || v == 128
  | 0x1B40, 7 => v == 16 || v == 20 || v == 24
  | 0x1800, 6 => v == 0 || decide (16 ≤ v)
  | 0x1800, 4 => v % 256 == 0
  | 0x3000, 3 => decide (v ≤ 1) || decide (0x20 ≤ v)
  | 0x4070, 1 => decide (v ≤ 4) || v == 255
  | 0x1902, _ => decide (v ≤ 11) || v == 255
  | 0x1C00, 1 => decide (v ≤ 63) || v == 255
  | 0x1318, _ => decide (v ≤ 15) || (decide (0x40 ≤ v) && decide (v ≤ 0x43)) || v == 255
  | 0x400A, 3 => v % 4 == 0
  | 0x1310, _ => let k := ((List.range 16).filter (fun n => v.toNat / 2 ^ n % 2 == 1)).length; k == 0 || decide (2 ≤ k) && decide (k ≤ 4)
  | 0x1510, _ => v.toNat / 0x2000 % 4 != 3
  | _, _ => true

end Sys2Proof.Machine
end

