-- ==== Sys2Proof/Machine/State.lean ====
section
/-! DEFINITION. State.lean: the machine's state as plain data, its faults and refusals, and the state after
reset. Each field's docstring names the rule that gives it; its reset value stands after `:=`. -/

namespace Sys2Proof.Machine

/-- The twelve operating modes (R22, R25). -/
inductive Mode where
  | dormant | starting | service | test | standby | encode | transcode | decode | span | hold | safe | ret
deriving DecidableEq, Repr, Inhabited

/-- The status codes of R131. -/
inductive Code where
  | ok | denied | range | zero | busy | late | aborted | linebuf | latency | noobject | nosub | readonly
  | writeonly | stageonly | length | malformed | nonode | wrongnode | noset | sequence | digest | skipped
  | unsupported | toobig | storefail | timeout | signature | rollback | lifecycle | hardware | internal
deriving DecidableEq, Repr, Inhabited

/-- A response of the device (R100, R106): the header fields that vary, STATUS, and the body after STATUS. -/
structure Resp where
  /-- R100. service code answered -/
  service : Nat := 0
  /-- R100. node -/
  node : Nat := 0
  /-- R100. TXID echoed -/
  txid : Nat := 0
  /-- R100. session -/
  session : Nat := 0
  /-- R102. the device's own COUNTER -/
  counter : Nat := 0
  /-- R131. STATUS -/
  status : Code := .ok
  /-- R106. response body after STATUS and 2 reserved bytes -/
  body : List Byte := []
  /-- R100. AUTH flag -/
  auth : Bool := false
  /-- R121. the datagram that carries it, from the address that the request was sent to, to where the request came from -/
  udp : Datagram := {}
  /-- R123. arbitration priority of its CAN FD frames -/
  prio : Nat := 0
deriving DecidableEq, Repr, Inhabited

/-- A request as it is kept and answered (R100, R105): what makes it the same request, its counter left out. -/
structure Ask where
  /-- R101. session it came on, 0 none; a session of a manager that reaches this worker by relay is 2^32 and its number -/
  session : Nat
  /-- R105. TXID -/
  txid : Nat
  /-- R105. NODE -/
  node : Nat
  /-- R105. SERVICE -/
  service : Nat
  /-- R121. path it came by -/
  path : Nat
  /-- R105. the request, without its counter -/
  req : Instr
  /-- R121. the datagram that carried it -/
  udp : Datagram := {}
  /-- R123. priority of its CAN FD frames -/
  prio : Nat := 0
deriving DecidableEq, Repr

/-- One kept response of R105. -/
structure Kept where
  /-- R105. the request -/
  ask : Ask
  /-- R105. STATUS and the body after it; none until the request is answered -/
  resp : Option (Code × List Byte) := none
deriving DecidableEq, Repr

/-- A requester: its class, its credential (0–15, 0xFE token, 0xFF bootstrap), its token's PERMS, and the owner slot
that signed the command carrying the request. -/
structure Who where
  /-- R576. class -/
  cls : Nat
  /-- R579. credential -/
  cred : Nat
  /-- R584. PERMS -/
  perms : Nat
  /-- R585. owner slot -/
  owner : Option Nat
deriving DecidableEq, Repr

/-- A single-object commit that has been validated and applies at the next tick (R43, R45, R164). -/
structure Soon where
  /-- R45. key of the object written -/
  key : Nat
  /-- R45. value written -/
  val : Val
  /-- R576. who wrote it -/
  who : Who
  /-- R595. what settings generations that do not take read back as -/
  bad : List Nat := []
  /-- R45. it advances the device commit sequence -/
  counted : Bool := true
deriving DecidableEq, Repr

/-- A WRITE, or a block write, one of whose entries runs as a two-phase commit that has not ended (R45, R70, R75, R109). -/
structure WriteJob where
  /-- R109. the request to answer -/
  ask : Ask
  /-- R576. who asks -/
  who : Who
  /-- R109. codes of the entries done -/
  done : List Code
  /-- R70. the commit that the next entry waits for -/
  set : Nat
  /-- R109. entries after it -/
  left : List WriteEnt
deriving DecidableEq, Repr

/-- A request accepted on a session and not yet answered, in COUNTER order (R104). -/
structure Slot where
  /-- R104. the request -/
  ask : Ask
  /-- R104. its answer, waiting for those before it -/
  resp : Option (Code × List Byte) := none
  /-- R104. it was the ninth and is refused -/
  ninth : Bool := false
deriving DecidableEq, Repr

/-- A subscription of R115. -/
structure Subscription where
  /-- R115. SUBID -/
  id : Nat
  /-- R115. KIND -/
  kind : Nat
  /-- R115. PERIOD, ms -/
  period : Nat
  /-- R115. MASK -/
  mask : Nat
  /-- R115. object -/
  obj : ObjRef
  /-- R115. PTP ns of the latest notice of this subscription -/
  last : Nat := 0
  /-- R115. status and value of the object as the latest notice, or the subscription itself, found it -/
  seen : Nat × List Byte := (0, [])
deriving DecidableEq, Repr

/-- An undelivered notice (R116). -/
structure Notice where
  /-- R116. SUBID, 0 unsubscribed -/
  subid : Nat
  /-- R116. KIND -/
  kind : Nat
  /-- R117. LOST, filled in at delivery -/
  lost : Nat := 0
  /-- R116. sequence number -/
  nseq : Nat := 0
  /-- R116. TIME, ns -/
  time : Nat
  /-- R116. payload -/
  payload : List Byte
deriving DecidableEq, Repr

/-- An open block transfer (R113, R114). -/
structure Xfer where
  /-- R113. XFER number -/
  id : Nat
  /-- R113. the object -/
  obj : ObjRef
  /-- R114. stage set, 0 for an RW commit -/
  set : Nat
  /-- R113. true for a write -/
  write : Bool
  /-- R113. SIZE -/
  size : Nat
  /-- R113. segment size -/
  segment : Nat
  /-- R114. bytes copied at BLOCK_INIT or received so far -/
  data : List Byte
  /-- R113. next offset expected -/
  offset : Nat
  /-- R113. PTP ns of the latest segment -/
  last : Nat
deriving DecidableEq, Repr

/-- An open session (R101–R106, R576–R583). -/
structure Session where
  /-- R121. path of the session: 0 UDP, 1 CAN FD, 2 mailbox -/
  path : Nat
  /-- R576. class held: 0 Operate, 1 Configure, 2 Service, 3 Maker -/
  cls : Nat
  /-- R579. credential 0–15, 0xFE token, 0xFF bootstrap -/
  cred : Nat
  /-- R584. PERMS of a Maker token -/
  perms : Nat := 0
  /-- R102. last COUNTER accepted -/
  rx : Nat := 0
  /-- R102. last COUNTER sent -/
  tx : Nat := 0
  /-- R105. kept responses, newest first -/
  kept : List Kept := []
  /-- R104. requests not yet answered, in COUNTER order -/
  slots : List Slot := []
  /-- R129. PTP ns of the latest request -/
  lastUse : Nat := 0
  /-- R113. open block transfer -/
  xfer : Option Xfer := none
  /-- R115. subscriptions -/
  subs : List Subscription := []
  /-- R117. undelivered notices, oldest first -/
  queue : List Notice := []
  /-- R117. notices dropped since the last one delivered -/
  lost : Nat := 0
  /-- R582. key of the tags from host to device -/
  keyHd : List Byte := []
  /-- R582. key of the tags from device to host -/
  keyDh : List Byte := []
  /-- R121. datagram of the latest request, to whose sender notices go -/
  udp : Datagram := {}
  /-- R116. next NSEQ -/
  nseq : Nat := 0
deriving DecidableEq, Repr

/-- A handshake in progress (R579–R581). -/
structure Handshake where
  /-- R121. path -/
  path : Nat
  /-- R579. CLIENT bytes so far -/
  client : List Byte := []
  /-- R579. DEVICE bytes, once answered -/
  device : List Byte := []
  /-- R579. PROOF bytes so far -/
  proof : List Byte := []
  /-- R582. shared secret K of the key encapsulation -/
  secret : List Byte := []
  /-- R580. fragments of the current host message received -/
  frags : Nat := 0
  /-- R581. last COUNTER from the host -/
  rx : Nat := 0
  /-- R581. last COUNTER sent -/
  tx : Nat := 0
  /-- R581. PTP ns at which CLIENT's first fragment arrived -/
  began : Nat := 0
deriving DecidableEq, Repr

/-- The state of one member of a cluster commit as its coordinator sees it (R70, R71). -/
inductive MemberArm where
  | asked | armed | refused | ready | notReady
deriving DecidableEq, Repr

/-- One stage set (R47–R51, R79–R82). -/
structure StageSet where
  /-- R79. STATE: 0 free … 7 refused -/
  state : Nat := 0
  /-- R47. owning session -/
  owner : Nat := 0
  /-- R51. the owning session has ended -/
  orphan : Bool := false
  /-- R48. staged writes by object key -/
  writes : Tab Val := []
  /-- R48. bytes of written data -/
  bytes : Nat := 0
  /-- R79. DEFERRALS -/
  deferrals : Nat := 0
  /-- R81. REASON -/
  reason : Nat := 0
  /-- R78. result code -/
  result : Code := .ok
  /-- R82. offending object -/
  offending : Nat := 0
  /-- R53. reference channel -/
  refch : Nat := 0xFF
  /-- R55. target T, PTP ns -/
  due : Nat := 0
  /-- R52. epoch count of the reference channel at T -/
  epoch : Nat := 0
  /-- R56. order of arming -/
  order : Nat := 0
  /-- R60. the ready point of the current target has passed -/
  readyPassed : Bool := false
  /-- R70. members of a cluster or pair commit -/
  members : Tab MemberArm := []
  /-- R72. a member's decision: 0 none, 1 COMMIT, 2 DEFER, 3 ABORT -/
  decision : Nat := 0
  /-- R72. this device is a member whose coordinator is this node; none for its own commit -/
  coordinator : Option Nat := none
  /-- R80. PTP ns at which the set finished -/
  finished : Nat := 0
  /-- R59. arm lead in force when the commit was accepted, ns -/
  lead : Nat := 0
  /-- R55. channels for whose boundary this device has laid the set's writes ready -/
  primed : List Nat := []
  /-- R78. deferral limit in force when the set was armed -/
  limit : Nat := 0
  /-- R71. what this device reported at the ready point of the current target: 0 nothing yet, 1 READY, 2 NOT READY -/
  report : Nat := 0
  /-- R111. a COMMIT not yet answered -/
  reply : Option Ask := none
  /-- R73. it ended here, unapplied, after its commit had been decided -/
  split : Bool := false
deriving DecidableEq, Repr, Inhabited

/-- One timetable entry (R283). -/
structure TtEntry where
  /-- R283. DUE, ticks -/
  due : Nat
  /-- R284. action kind -/
  kind : Nat
  /-- R283. TARGET -/
  target : Nat
  /-- R283. REF -/
  ref : Nat
  /-- R83. session that programmed it, 0 none -/
  owner : Nat := 0
deriving DecidableEq, Repr

/-- A pending snapshot (R67–R69). -/
structure Snap where
  /-- R105. the request to answer -/
  ask : Ask
  /-- R67. objects -/
  objs : List ObjRef
  /-- R68. capture instant, ns -/
  at_ : Nat
  /-- R68. reference channel of the target, 0xFF none -/
  refch : Nat := 0xFF
  /-- R68. epoch count of the reference channel at the target -/
  epoch : Nat := 0
  /-- R69. read entries received from members, by place in the request -/
  parts : Tab (List Byte) := []
  /-- R69. epoch counts received from members, by channel -/
  epochs : Tab Nat := []
  /-- R67. device commit sequence at the capture instant; none before it -/
  seq : Option Nat := none
  /-- R69. members still to answer -/
  missing : List Nat := []
deriving DecidableEq, Repr

/-- The Timebase and its servo (R321–R328, R333, R673). [DESIGN CHOICE: log entry 2] -/
structure Timebase where
  /-- R321. counter C -/
  count : Nat := 0
  /-- R321. origin count C0 -/
  c0 : Nat := 0
  /-- R321. origin time T0, in 2^−48 ns -/
  t0 : Int := 0
  /-- R326. remaining offset of a slew in progress, ns; none when no slew runs -/
  slew : Option Int := none
  /-- R326. PTP ns from which the remaining offset of a slew counts down -/
  slewAt : Nat := 0
  /-- R673. frequency term f × 2^20, ppb; none before the first evaluation -/
  freq : Option Int := none
  /-- R333. exchanges completed since a parent was chosen -/
  exchanges : Nat := 0
  /-- R333. consecutive Sync messages under 100 ns -/
  good : Nat := 0
  /-- R333. consecutive Sync messages over 1 µs while LOCKED -/
  bad : Nat := 0
  /-- R333. LOCKED since FREE_RUN was last left -/
  wasLocked : Bool := false
  /-- R335. LOCKED at some time since STARTING -/
  everLocked : Bool := false
  /-- R333. ADJ values of the latest LOCKED span with the instants at which each began, newest first -/
  adjLog : List (Nat × Int) := []
  /-- R335. PTP ns at which HOLDOVER was entered -/
  holdoverAt : Nat := 0
  /-- R335. the holdover limit has passed in this HOLDOVER -/
  overLimit : Bool := false
  /-- R325. seconds named for the next PPS_IN edge -/
  ppsSeconds : Option Nat := none
deriving DecidableEq, Repr, Inhabited

/-- An entry waiting for the black box (R631, R633). -/
structure BbEntry where
  /-- R631. LTIME -/
  ltime : Nat
  /-- R631. CODE -/
  code : Nat
  /-- R631. SEVERITY -/
  sev : Nat
  /-- R631. MODE -/
  mode : Nat
  /-- R631. LCS -/
  lcs : Nat
  /-- R631. UNIT -/
  unit : Nat
  /-- R631. CHANNEL -/
  chan : Nat
  /-- R633. REPEAT -/
  rep : Nat
  /-- R631. STARTS -/
  starts : Nat
  /-- R631. V0–V3 -/
  v : List Nat
deriving DecidableEq, Repr

/-- A coalescing second of R633: an entry written less than 1 s ago and the occurrences counted since. -/
structure Coalesce where
  /-- R633. Lodge time at which the entry was written, µs -/
  since : Nat
  /-- R633. occurrences counted -/
  count : Nat
  /-- R633. the latest values -/
  latest : BbEntry
deriving DecidableEq, Repr

/-- The black box and its queue (R630–R634). [DESIGN CHOICE: log entry 3] -/
structure BlackBox where
  /-- R630. slots 0–8,191 by number, 64 bytes each; an absent slot has never been written and is not whole -/
  slots : Tab (List Byte) := []
  /-- R633. next SEQ -/
  seq : Nat := 0
  /-- R633. queue of at most 64 entries, oldest first -/
  queue : List BbEntry := []
  /-- R633. discards not yet reported by code 0x41 -/
  dropped : Nat := 0
  /-- R633. coalescing seconds in progress -/
  recent : List Coalesce := []
  /-- R634. codes written from VLODGE energy, to be pinned at the end of STARTING: (code, bytes) -/
  unpinned : List (Nat × List Byte) := []
deriving DecidableEq, Repr, Inhabited

/-- The CAN FD message being reassembled from one sender (R124). -/
structure CanMsg where
  /-- R123. PRIO, BUSADDR, NODE and SERVICE of the message -/
  key : CanKey
  /-- R124. next SEQ expected -/
  next : Nat
  /-- R124. bytes received -/
  data : List Byte
  /-- R124. total message length, from its header -/
  total : Nat
  /-- R124. PTP ns of the latest frame -/
  last : Nat
deriving DecidableEq, Repr

/-- The PCIe mailbox (R126–R128) and its buffers. -/
structure Mailbox where
  /-- R126. request buffer, 32-bit words by byte offset -/
  req : Tab Nat := []
  /-- R126. MBX_REQ_LEN -/
  reqLen : Nat := 0
  /-- R126. response buffer: the message last written -/
  rsp : List Byte := []
  /-- R126. MBX_RSP_LEN -/
  rspLen : Nat := 0
  /-- R126. notice buffer -/
  ntc : List Byte := []
  /-- R126. MBX_NTC_LEN -/
  ntcLen : Nat := 0
  /-- R127. RSP_IRQ_EN -/
  rspIrqEn : Bool := false
  /-- R127. NTC_IRQ_EN -/
  ntcIrqEn : Bool := false
  /-- R127. BUSY -/
  busy : Bool := false
  /-- R127. RSP_VALID -/
  rspValid : Bool := false
  /-- R127. NTC_VALID -/
  ntcValid : Bool := false
  /-- R127. OVERRUN -/
  overrun : Bool := false
  /-- R128. response messages waiting for RSP_VALID to be cleared -/
  waiting : List (List Byte) := []
deriving DecidableEq, Repr, Inhabited

/-- A request relayed to a worker and not yet answered (R118). -/
structure RelayReq where
  /-- R118. the request -/
  ask : Ask
  /-- R118. PTP ns at which it was relayed -/
  sent : Nat
deriving DecidableEq, Repr

/-- One stored image of the xSPI flash (R96, R97). -/
structure StoredImage where
  /-- R96. generation count -/
  gen : Nat
  /-- R96. the stored objects -/
  vals : Tab Val
  /-- R587. number of provisionings when its tag was made -/
  sealedP : Nat
  /-- R97. digest and tag pass -/
  good : Bool
deriving DecidableEq, Repr

/-- The control paths: sessions, handshakes, CAN FD, mailbox, relays and STORE (R100–R130).
[DESIGN CHOICE: log entries 2, 3] -/
structure Control where
  /-- R104. open sessions by identifier -/
  sessions : Tab Session := []
  /-- R581. handshakes in progress by assigned session -/
  hands : Tab Handshake := []
  /-- R579. last session identifier assigned -/
  lastId : Nat := 0
  /-- R106. the latest response sent -/
  sent : Option Resp := none
  /-- R100. bytes of the latest message sent to a host -/
  wire : List Byte := []
  /-- R123, R124. CAN FD frames of the latest message sent on that path: identifier and data -/
  frames : List (Nat × List Byte) := []
  /-- R116. the latest notice delivered: session and notice -/
  noticed : Option (Nat × Notice) := none
  /-- R124. messages being reassembled -/
  can : List CanMsg := []
  /-- R124. the latest whole message handed to the Gatehouse -/
  canWhole : List Byte := []
  /-- R126. mailbox -/
  mbx : Mailbox := {}
  /-- R118. relayed requests waiting -/
  relays : List RelayReq := []
  /-- R96. STORE in progress: the request and the image being written -/
  storing : Option (Ask × StoredImage) := none
  /-- R96. flash slot A -/
  slotA : Option StoredImage := none
  /-- R96. flash slot B -/
  slotB : Option StoredImage := none
  /-- R67. snapshots waiting by REF -/
  snaps : Tab Snap := []
  /-- R283. last REF given to an action -/
  lastRef : Nat := 0
  /-- R109. writes that wait for the two-phase commit of an entry -/
  jobs : List WriteJob := []
deriving DecidableEq, Repr, Inhabited

/-- A stall in use (R262–R264) with the operands and marks its coach needs. -/
structure Stall where
  /-- R264. STATE -/
  state : Nat
  /-- R262. KIND -/
  kind : Nat
  /-- R264. operand slots present, bit k for slot k -/
  opmask : Nat := 0
  /-- R265. operand tokens on their way -/
  tokens : Nat := 0
  /-- R264. LIST -/
  list : Nat := 0
  /-- R264. CHANNEL -/
  chan : Nat := 0
  /-- R264. ROW -/
  row : Nat := 0
  /-- R264. COLUMN -/
  col : Nat := 0
  /-- R264. Pavilion of the latest run -/
  pav : Nat := 0
  /-- R186. entropy unit of the next or the latest run -/
  eu : Nat := 0
  /-- R264. RUNS, not saturated -/
  runs : Nat := 0
  /-- R16. fabric quarter -/
  quarter : Nat := 0
  /-- R46. epoch count of the picture -/
  epoch : Nat := 0
  /-- R266. departure instant, PTP ns -/
  depart : Nat := 0
  /-- R271. PTP ns at which the coach became ready -/
  readyAt : Nat := 0
  /-- R275. Pavilions that failed this coach -/
  failed : List Nat := []
  /-- R269. berth Pavilion of the first run -/
  berth : Nat := 0
  /-- R188. level-1 vectors of the band -/
  seeds : List Seed := []
  /-- R191. reference windows of the band -/
  windows : List Window := []
  /-- R188, R190. motion field, once a Lookout has delivered it -/
  field : Option (List Motion) := none
  /-- R272. bits and floor-form CTUs of a band done and waiting for order -/
  done : Nat × Nat := (0, 0)
  /-- R262. flow of a departure coach -/
  flow : Nat := 0
deriving DecidableEq, Repr, Inhabited

/-- A Pavilion or an entropy unit (R275–R282, R289). [DESIGN CHOICE: log entry 2] -/
structure Engine where
  /-- R289. STATE while the mode does not gate the unit -/
  state : Nat := 0
  /-- R289. PTP ns of the engine faults of the current window, newest first -/
  faults : List Nat := []
  /-- R276. SRAM words at which an uncorrectable error was seen -/
  words : List Nat := []
  /-- R183. single-bit SRAM errors corrected -/
  corrected : Nat := 0
  /-- R181, R182. program resident, by the digest of its preset pack; none before one is loaded, and [] a built-in one -/
  program : Option (List Byte) := none
  /-- R184. channel whose tables and statistics are resident -/
  tables : Option Nat := none
  /-- R181, R184. operands resident of the coach it runs -/
  operands : Option BandIn := none
  /-- R276. self-test coaches passed in the present probation -/
  tests : Nat := 0
  /-- R269. sequences berthed here: channel, tile column, place in its berth set and size of the set -/
  berths : List (Nat × Nat × Nat × Nat) := []
  /-- R266. stall of the coach it runs -/
  busy : Option Nat := none
  /-- R280. retired Pavilion whose berths a starting spare takes -/
  standsFor : Option Nat := none
  /-- R280. PTP ns at which a spare began to start -/
  began : Nat := 0
  /-- R282. excluded or failed its STARTING self-test -/
  stuck : Bool := false
deriving DecidableEq, Repr, Inhabited

/-- A checkpoint of a channel in a quarter (R279). -/
structure Checkpoint where
  /-- R279. epoch count of the refresh-period boundary -/
  epoch : Nat
  /-- R279. preset program, by the digest of its pack -/
  program : List Byte
  /-- R279. the channel's tables -/
  tables : Tab Val
  /-- R279. refresh-period statistics -/
  stats : List Byte
  /-- R279. SHAKE256 digest -/
  digest : List Byte
deriving DecidableEq, Repr, Inhabited

/-- The Mews: stalls, engines and dispatcher marks (R262–R282). [DESIGN CHOICE: log entry 2] -/
structure Mews where
  /-- R263. stalls in use by number; an absent stall is free -/
  stalls : Tab Stall := []
  /-- R289. Pavilions by number; an absent one is working and idle -/
  pavs : Tab Engine := []
  /-- R276. entropy units by number -/
  eus : Tab Engine := []
  /-- R186. entropy unit dealt to a sequence, by channel × 64 + tile column -/
  euOf : Tab Nat := []
  /-- R186. the sequences with an entropy unit, as `euOf` keys, in the order in which R269 places them -/
  euOrder : List Nat := []
  /-- R268. Pavilion last dispatched to, per quarter -/
  lastPav : Tab Nat := []
  /-- R279. latest checkpoint by channel × 4 + quarter -/
  checkpoints : Tab Checkpoint := []
deriving DecidableEq, Repr, Inhabited

/-- One Lodge rule entry (R550). -/
structure LodgeRule where
  /-- R550. INPUT -/
  input : Nat
  /-- R550. FILTER -/
  filter : Nat
  /-- R550. OP -/
  op : Nat
  /-- R550. ACTION -/
  action : Nat
  /-- R550. MODES, bit v for mode v -/
  modes : Nat
  /-- R550. HOLD, units of 10 µs -/
  hold : Nat
  /-- R550. THRESH -/
  thresh : Int
  /-- R550. HYST -/
  hyst : Nat
  /-- R550. ARG -/
  arg : Nat
deriving DecidableEq, Repr, Inhabited

/-- The Lodge (R548–R572). [DESIGN CHOICE: log entries 2, 97] -/
structure Lodge where
  /-- R549. time count in units of 100 ns -/
  time : Nat := 0
  /-- R552. rule table in force -/
  rules : List LodgeRule
  /-- R552. 0 ROM, 1 signed -/
  table : Nat := 0
  /-- R571. digest of the signed table in force -/
  digest : List Byte := []
  /-- R571. rule conditions true -/
  conds : List Nat := []
  /-- R562. every wake held since a thermal trip -/
  thermalHold : Bool := false
  /-- R551. what a rule, wake or reset trigger has set going: 0 nothing, 1 a wake, 2 a Lodge reset -/
  order : Nat := 0
  /-- R554. VLODGE is good; below 2.20 V the Lodge is held in reset -/
  powered : Bool := true
  /-- R565. RESET_N is low and the device held in reset -/
  held : Bool := false
  /-- R570. events recorded in DORMANT, raised at the end of STARTING -/
  events : List (List Byte) := []
  /-- R565. kind of the reset whose STARTING runs, as R568 -/
  resetKind : Nat := 0x10
  /-- R551. ALERT_N driven low -/
  alert : Bool := false
  /-- R543. Lodge time at which the latest reset or STARTING began, units of 100 ns -/
  began : Nat := 0
  /-- R42. trigger that began the STARTING in progress -/
  trigger : Nat := 0
  /-- R516. DRAM configuration (OD 0x1800.01–.04) of the training results held; none where none are held -/
  seed : Option (Nat × Nat × Bool × Nat) := none
  /-- R569. the latest STARTING began with a reset that keeps the root, the Timebase and the straps -/
  kept : Bool := false
deriving DecidableEq, Repr, Inhabited

/-- One owner key slot of OTP (R585, R593). -/
structure OwnerSlot where
  /-- R593. hash -/
  hash : List Byte := []
  /-- R593. programmed group, 16 fuses -/
  prog : Nat := 0
  /-- R593. revoked group, 16 fuses -/
  rev : Nat := 0
deriving DecidableEq, Repr, Inhabited

/-- One image held in a bank or slot of the flash (R589, R600). -/
structure Image where
  /-- R589. TYPE -/
  type : Nat
  /-- R589. ROLLBACK -/
  rollback : Nat
  /-- R589. VERSION -/
  version : Nat
  /-- R589. BOARD -/
  board : Nat
  /-- R589. key identifiers of the signature blocks -/
  keyids : List Nat
  /-- R600. verified under R590 -/
  verified : Bool
  /-- R591. measurement -/
  meas : List Byte
  /-- R550. payload, kept for rule tables -/
  payload : List Byte := []
deriving DecidableEq, Repr, Inhabited

/-- One copy of the boot record (R599). -/
structure BootRecord where
  /-- R599. sequence number -/
  seq : Nat
  /-- R599. active banks, as Security.active -/
  active : Nat
  /-- R599. pending trials with their confirm windows -/
  armed : Tab Nat
deriving DecidableEq, Repr, Inhabited

/-- OTP, images and secrets (R573–R605). [DESIGN CHOICE: log entry 3] -/
structure Security where
  /-- R593. serial -/
  serial : Nat := 0
  /-- R593. NET MAC base -/
  macBase : Nat := 0
  /-- R593. lot -/
  lot : Nat := 0
  /-- R593. wafer -/
  wafer : Nat := 0
  /-- R593. die X -/
  dieX : Nat := 0
  /-- R593. die Y -/
  dieY : Nat := 0
  /-- R593. grade -/
  grade : Nat := 0
  /-- R593. manufacture date, days since 2000-01-01 -/
  made : Nat := 0
  /-- R573. groups P1–P4, 16 fuses each -/
  pFuse : List Nat := [0, 0, 0, 0]
  /-- R573. groups F1–F4 -/
  fFuse : List Nat := [0, 0, 0, 0]
  /-- R573. groups R1–R4 -/
  rFuse : List Nat := [0, 0, 0, 0]
  /-- R573. group S -/
  sFuse : Nat := 0
  /-- R592. rollback thermometer, 128 fuses -/
  rollFuse : Nat := 0
  /-- R593. owner slots 0–3 -/
  owners : Tab OwnerSlot := []
  /-- R593. settings generations 0–4, 288 bits each -/
  settings : Tab Nat := []
  /-- R573. life-cycle state derived at the latest STARTING: 0 BLANK … 4 SCRAPPED -/
  lcs : Nat := 0
  /-- R599. banks by type × 2 + bank (type 1–3) -/
  banks : Tab Image := []
  /-- R600. preset pack slots 0–7 -/
  packs : Tab Image := []
  /-- R588. device certificate -/
  cert : List Byte := []
  /-- R599. active bank, bit t − 1 for type t: 0 A, 1 B -/
  active : Nat := 0
  /-- R601. types whose trial is armed for the next STARTING, with their confirm windows in s -/
  armed : Tab Nat := []
  /-- R599. the two copies of the boot record -/
  boot : Option BootRecord × Option BootRecord := (none, none)
  /-- R601. types whose trial bank runs, with the Lodge time (100 ns) at which the confirm window ends; 0 once it has
  passed unconfirmed -/
  running : Tab Nat := []
  /-- R602. the recovery Gatehouse runs -/
  recovery : Bool := false
  /-- R585. owner-command nonce -/
  ownerNonce : List Byte := []
  /-- R584. Maker challenge -/
  challenge : List Byte := []
  /-- R597. attestation nonce not yet used -/
  attNonce : Option (List Byte) := none
deriving DecidableEq, Repr, Inhabited

/-- One Turnstile unit (R607–R615). -/
structure Turnstile where
  /-- R614. SOURCE -/
  source : Nat := 0
  /-- R614. ALGO -/
  algo : Nat := 0
  /-- R614. MODE -/
  repeating : Bool := false
  /-- R614. TARGET -/
  target : Nat := 0
  /-- R614. COUNT -/
  count : Nat := 0
  /-- R614. START -/
  start : Nat := 0
  /-- R614. LENGTH -/
  length : Nat := 0
  /-- R615. STATE -/
  state : Nat := 0
  /-- R615. RESULT -/
  result : Nat := 0
  /-- R615. PROGRESS -/
  progress : Nat := 0
  /-- R613. start of the window in progress -/
  window : Nat := 0
  /-- R610. PTP ns at which the scan began -/
  began : Nat := 0
  /-- R608. samples of the closed pictures that source 0x03 has passed, by epoch -/
  seen : Tab (List Byte) := []
  /-- R609. epochs of those with a missing line -/
  holes : List Nat := []
deriving DecidableEq, Repr, Inhabited

/-- A performance counter (R617–R623). -/
structure Counter where
  /-- R617. live count -/
  live : Nat := 0
  /-- R618, R620. control word in force -/
  ctl : Nat := 0
  /-- R622. control word staged -/
  nextCtl : Option Nat := none
  /-- R622. preset staged -/
  preset : Option Nat := none
  /-- R623. wrapped since the latest snapshot -/
  wrapped : Bool := false
  /-- R621. value in the latest snapshot -/
  snap : Nat := 0
  /-- R623. WRAPPED of the latest snapshot -/
  snapWrapped : Bool := false
  /-- R623. LATE -/
  late : Bool := false
deriving DecidableEq, Repr, Inhabited

/-- Performance counters, tagging and the built-in tests (R617–R641). -/
structure Perf where
  /-- R617. device counters 0–127, then Pavilion counter k of PAVp at 128 + 16·p + k -/
  ctrs : Tab Counter := []
  /-- R626. tag ring, oldest first -/
  ring : List TagRecord := []
  /-- R625. LFSR of each Pavilion while tagging is enabled -/
  lfsr : Tab Nat := []
  /-- R625. k in force since the latest enable -/
  tagK : Nat := 12
  /-- R619. Timebase count at the latest snapshot -/
  edge : Nat := 0
  /-- R639. the test running: code, mask, arguments and PTP ns at which it began -/
  test : Option (Nat × Nat × List Byte × Nat) := none
deriving DecidableEq, Repr, Inhabited

/-- The ROM rule table of R553. -/
def romRules : List LodgeRule :=
  [⟨0x00, 1, 1, 5, 0xFFE, 0, 2500, 100, 0⟩,
   ⟨0x00, 4, 2, 1, 0x001, 0, 2650, 50, 0⟩,
   ⟨0x00, 4, 1, 3, 0xFFE, 0, 2650, 50, 0⟩,
   ⟨0x00, 4, 1, 2, 0x001, 0, 2600, 50, 0⟩,
   ⟨0x21, 2, 0, 3, 0xFFF, 0, 2480, 80, 0⟩,
   ⟨0x21, 2, 0, 4, 0xFFF, 1000, 2560, 80, 1⟩,
   ⟨0x20, 2, 0, 3, 0xFFF, 0, 1680, 48, 0⟩]

/-- One channel context (R5, R46, R168, R245, R667): its cadence, its pictures and its Tollhouse state.
[DESIGN CHOICE: log entries 2, 96] -/
structure Chan where
  /-- R667. the channel runs: its first boundary has been reached -/
  running : Bool := false
  /-- R672. it waits for its first boundary, at or after this PTP ns -/
  starting : Option Nat := none
  /-- R667. it stops at its first boundary whose expected instant is at or after this PTP ns -/
  stopping : Option Nat := none
  /-- R168. cadence origin, PTP ns -/
  origin : Nat := 0
  /-- R168. frozen frame rate numerator -/
  rateNum : Nat := 60000
  /-- R168. frozen frame rate denominator -/
  rateDen : Nat := 1001
  /-- R46. epoch count of the picture in progress -/
  epoch : Nat := 0
  /-- R8. stamp of its frame boundary, PTP ns -/
  stamp : Nat := 0
  /-- R169. the boundary was supplied: the picture is wholly missing -/
  missing : Bool := false
  /-- R169, R173. a late line 0 was discarded: the lines that follow it are discarded too -/
  discarding : Bool := false
  /-- R171. consecutive wholly missing pictures, this one included -/
  run : Nat := 0
  /-- R55. writes of fired sets that apply at the channel's first boundary at or after the PTP ns given -/
  pend : List (Nat × Tab Val) := []
  /-- R9. the channel's objects as the pictures that later boundaries have closed took them, by epoch count -/
  was : Tab (Tab Val) := []
  /-- R9, R18. quarters of the stripes with which the pictures were placed, by epoch count -/
  placedAt : Tab (List Nat) := []
  /-- R173. a line 0 has fallen outside the lock window since the latest boundary, and the picture is live -/
  strayed : Bool := false
  /-- R173. epoch count, plus 1, of the latest picture with an input-phase alarm -/
  alarmed : Nat := 0
  /-- R423. lines of the picture in progress by number, samples in the order of R418; an absent line is black, an
  empty one is the slate's -/
  lines : Tab (List Nat) := []
  /-- R170. lines of the picture received (1) or filled (2) -/
  have_ : Tab Nat := []
  /-- R171. lines of the previous picture as they stood after filling -/
  prev : Tab (List Nat) := []
  /-- R11. output lines written to the frame ring, three component planes each, by epoch × 65,536 + line -/
  ring : Tab (List (List Nat)) := []
  /-- R138. lines of the 1/4-area picture, by epoch × 65,536 + line -/
  half : Tab (List Nat) := []
  /-- R138. lines of the 1/16-area picture, by epoch × 65,536 + line -/
  quarter : Tab (List Nat) := []
  /-- R188. level-2 vectors kept, best first, by ((epoch × 8 + reference) × 2,048 + block row) × 2,048 + block column -/
  coarse : Tab (List (Int × Int)) := []
  /-- R184. reconstruction of bands, keyed as `bands` -/
  recon : Tab Planes := []
  /-- R184. neighbour contexts that bands left, keyed as `bands` -/
  contexts : Tab (List Byte) := []
  /-- R184. statistics that bands left, keyed as `bands` -/
  bandStats : Tab (List Byte) := []
  /-- R226. finer statistics of the pictures folded so far -/
  finer : List Byte := []
  /-- R226, R279. statistics of the refresh periods closed -/
  stats : List Byte := []
  /-- R224, R226. both statistics as each picture takes them, by epoch -/
  statsAt : Tab (List Byte × List Byte) := []
  /-- R226. CDF state that AV1 pictures left, by epoch -/
  cdfs : Tab (List Byte) := []
  /-- R178, R184. reference tiles written of finished CTU rows, header and payload, by epoch × 65,536 + row -/
  tiles : Tab (List (Nat × List Byte)) := []
  /-- R11. epoch count of the picture whose CTU rows are becoming ready -/
  readyE : Nat := 0
  /-- R11. CTU rows of that picture signalled ready -/
  ready : Nat := 0
  /-- R244. epoch count of the picture whose row budgets are being set -/
  budE : Nat := 0
  /-- R244. row budgets of that picture set -/
  budRow : Nat := 0
  /-- R231. epoch count of the picture whose departure rows are leaving -/
  depE : Nat := 0
  /-- R231. departure rows of that picture gone -/
  depRow : Nat := 0
  /-- R231. frame boundary stamps by epoch, PTP ns -/
  stamps : Tab Nat := []
  /-- R215. epochs that are key pictures, with the phase of every picture: phase × 2, plus 1 for a key picture -/
  kinds : Tab Nat := []
  /-- R214. epoch count of the last key picture -/
  keyAt : Nat := 0
  /-- R215. the picture in progress is a key picture -/
  key : Bool := false
  /-- R217. refresh phase of the picture in progress -/
  phase : Nat := 0
  /-- R215. random-access request count of the latest picture -/
  raSeen : Nat := 0
  /-- R219. gradual-refresh period of the latest picture -/
  gdrSeen : Nat := 0
  /-- R215. the next picture is the first of the channel or the first after HOLD -/
  fresh : Bool := true
  /-- R221. ancillary packets that the picture in progress carries before its bands, and those that came later and follow them -/
  anc : List AncPacket × List AncPacket := ([], [])
  /-- R221, R417. timecodes received with the pictures, by epoch -/
  timecodes : Tab (List Byte) := []
  /-- R214. picture order values by epoch -/
  orders : Tab PicOrder := []
  /-- R214. epoch counts of the pictures that a picture may refer to, latest first, by epoch -/
  refsAt : Tab (List Nat) := []
  /-- R242. receiver's buffer as the stream last stated it -/
  hrd : Option BufferModel := none
  /-- R245. account -/
  account : Int := 0
  /-- R245. pictures folded into the account: F + 1 -/
  folded : Nat := 0
  /-- R245. budgets by epoch -/
  budgets : Tab Nat := []
  /-- R245. fixed part by epoch: bits carried by row 0 and by the last row -/
  fixedPart : Tab (Nat × Nat) := []
  /-- R220, R221, R242. what each picture carries before its bands and after them, by epoch -/
  elements : Tab (List Element × List Element) := []
  /-- R200. suffixes that wait for the seam coach of the last CTU row, by epoch: their parts in bytes, and whether they are sent -/
  tails : Tab (List Nat × Bool) := []
  /-- R477. the gate's decision on the fixed part of the latest picture: its epoch count, and whether it is sent -/
  headSent : Option (Nat × Bool) := none
  /-- R250. final sizes of departure rows by epoch × 65,536 + row -/
  rowSizes : Tab Nat := []
  /-- R250. sums of band budgets of departure rows by epoch × 65,536 + row -/
  rowBudgets : Tab Nat := []
  /-- R250. band budgets by (epoch × 65,536 + CTU row) × 64 + tile column -/
  bandBudgets : Tab Nat := []
  /-- R244. final sizes of whole pictures by epoch, fixed part included -/
  sizes : Tab Nat := []
  /-- R195. final bits of bands by (epoch × 65,536 + CTU row) × 64 + tile column -/
  bands : Tab Nat := []
  /-- R255. bands substituted, keyed as `bands` -/
  subs : List Nat := []
  /-- R252. latest epoch counted in OD 0x4068.0E, plus 1 -/
  floored : Nat := 0
  /-- R476. epochs whose picture holds filled lines (4) or a concealed input picture (8) -/
  marks : Tab Nat := []
  /-- R257. Tollhouse state record of the latest epoch -/
  toll : List Byte := []
  /-- R198. CTU rows whose seams are finished: epoch × 65,536 + row -/
  seams : List Nat := []
  /-- R29. size in bits of the slate access unit coded at the start; none before -/
  slateAu : Option Nat := none
  /-- R18. quarters of the stripes, left to right -/
  stripes : List Nat := []
  /-- R29, R37. first expected boundary from which the HOLD or SAFE output policy applies -/
  policy : Option Nat := none
  /-- R316. epoch count of the picture leaving on the return-video lanes -/
  retE : Nat := 0
  /-- R316. lines of it gone -/
  retLine : Nat := 0
deriving DecidableEq, Repr, Inhabited

/-- One serial lane (R406–R426, R440). -/
structure Lane where
  /-- R440. RXSTATE -/
  rx : Nat := 0
  /-- R440. TXSTATE -/
  tx : Nat := 0
  /-- R440. SKEW -/
  skew : Nat := 0
  /-- R425. consecutive lines whose segment failed -/
  failRun : Nat := 0
  /-- R425. consecutive passing segments -/
  passRun : Nat := 0
  /-- R416. the 8-byte equalisation entry applied at the latest full training -/
  eq : List Byte := []
deriving DecidableEq, Repr, Inhabited

/-- One Carriageway port (R427–R437). -/
structure CwPort where
  /-- R430. SEQ of the next frame sent -/
  next : Nat := 0
  /-- R432. unacknowledged frames, oldest first -/
  replay : List CwFrame := []
  /-- R432. frames waiting to be sent, oldest first -/
  waiting : List CwFrame := []
  /-- R430. SEQ expected next -/
  expect : Nat := 0
  /-- R430. a NAK was sent and no frame has been accepted since -/
  gap : Bool := false
  /-- R431. units advertised by the far receiver, by VC -/
  advertised : Tab Nat := []
  /-- R431. units consumed by first transmissions, by VC -/
  consumed : Tab Nat := []
  /-- R431. units received and released since port-up, by VC -/
  received : Tab Nat := []
  /-- R432. frames sent since the latest VC3 frame -/
  sinceVc3 : Nat := 0
  /-- R433. PTP ns at which the envelope of the oldest frame opened -/
  envelope : Option Nat := none
  /-- R433. retries of the oldest frame -/
  retries : Nat := 0
  /-- R433. PTP ns at which the latest replay has been sent again -/
  replayTo : Nat := 0
  /-- R431, R439. credit units of each VC as the latest bring-up took them -/
  allot : Tab Nat := []
  /-- R433. PTP ns of the latest advance of the ACK -/
  ackAt : Nat := 0
  /-- R429. link control words sent and not yet superseded: (TYPE, D1–D2, D3–D4) -/
  words : List (Nat × Nat × Nat) := []
  /-- R444. node and role that the far side's LINKID names -/
  far : Option (Nat × Nat) := none
  /-- R414. PTP ns since which the transmit direction has had nothing to send -/
  idleSince : Nat := 0
deriving DecidableEq, Repr, Inhabited

/-- One flow's running state (R348–R365). -/
structure Flow where
  /-- R352. the flow has started -/
  running : Bool := false
  /-- R355. packets generated since the flow started -/
  generated : Nat := 0
  /-- R360. continuity counters by PID -/
  cc : Tab Nat := []
  /-- R374. epoch count, plus 1, of the access unit whose rest is discarded for lack of descriptors -/
  dropping : Nat := 0
  /-- R367. PTP ns of the audio group start its timestamps count from -/
  audioFrom : Nat := 0
  /-- R367. samples sent since that start -/
  audioSent : Nat := 0
  /-- R483. packets generated before each frame boundary of the source channel, by epoch, the latest ones -/
  counts : Tab Nat := []
  /-- R354, R363, R367. timestamp of the latest RTP packet -/
  lastTs : Nat := 0
  /-- R360. PCR value of the latest departure row -/
  lastPcr : Nat := 0
  /-- R361. PTS of the latest access unit -/
  lastPts : Nat := 0
  /-- R357. marker bit of the latest RTP packet -/
  lastMark : Bool := false
  /-- R358. PSI that the flow last sent -/
  psi : Option Psi := none
  /-- R369. the session description, as the latest commit that changed the flow left it -/
  sdp : Option Sdp := none
  /-- R373. units handed to its delivery ring and not yet written, oldest first -/
  owed : List RingUnit := []
deriving DecidableEq, Repr, Inhabited

/-- One NET port (R346–R349, R329–R335). -/
structure Port where
  /-- R348. resolved next hops: IPv4 address to MAC address -/
  hops : Tab Nat := []
  /-- R348. next hops asked for and not yet resolved -/
  asked : List Nat := []
  /-- R348. PTP ns of the latest resolution -/
  askedAt : Nat := 0
  /-- R346. the latest frame sent that belongs to no flow -/
  out : List Byte := []
deriving DecidableEq, Repr, Inhabited

/-- One PCIe ring: DR0–DR15 are 0–15, IR0–IR15 are 16–31 (R370–R375). -/
structure Ring where
  /-- R370. RING_BASE_LO -/
  baseLo : Nat := 0
  /-- R370. RING_BASE_HI -/
  baseHi : Nat := 0
  /-- R370. RING_SIZE -/
  size : Nat := 0
  /-- R370. RING_TAIL -/
  tail : Nat := 0
  /-- R370. RING_HEAD -/
  head : Nat := 0
  /-- R371. EN -/
  en : Bool := false
  /-- R371. IRQ_EN -/
  irqEn : Bool := false
  /-- R371. OVERFLOW -/
  overflow : Bool := false
  /-- R371. CFGERR -/
  cfgErr : Bool := false
  /-- R371. DESCERR -/
  descErr : Bool := false
  /-- R370. RING_IRQ vector -/
  vector : Nat := 0
  /-- R370. RING_IRQ moderation, µs -/
  moderation : Nat := 0
  /-- R371. PTP ns of the latest interrupt -/
  irqAt : Option Nat := none
  /-- R374. the next descriptor filled carries LOSS -/
  loss : Bool := false
  /-- R373. descriptors completed by the latest write or read, as the device left them -/
  done : List Descr := []
deriving DecidableEq, Repr, Inhabited

/-- A decoded picture waiting for its slot (R307). -/
structure Pict where
  /-- R306. presentation time, PTP ns -/
  t : Nat
  /-- R307. PTP ns at which its decoding was complete -/
  done : Nat
  /-- R313. marked concealed -/
  marked : Bool
  /-- R307. its samples, three planes of lines -/
  planes : List (List (List Nat))
deriving DecidableEq, Repr, Inhabited

/-- A channel's decoder and its confidence check (R295–R314). [DESIGN CHOICE: log entry 2] -/
structure Decoder where
  /-- R305. decoding has started -/
  started : Bool := false
  /-- R306. timestamp of the first decoded random-access point -/
  ts0 : Nat := 0
  /-- R306. anchor, PTP ns -/
  anchor : Nat := 0
  /-- R305. no random-access point has come after the one at which decoding started -/
  first : Bool := false
  /-- R313. decoded pictures are marked concealed -/
  marked : Bool := false
  /-- R313. the latest presented picture was marked -/
  shown : Bool := false
  /-- R307, R173. timestamps keep falling outside every window -/
  astray : Bool := false
  /-- R313. consecutive pictures decoded without new damage since the mark -/
  clean : Nat := 0
  /-- R313. recovery count of the most recent GDR or recovery point -/
  recovery : Option Nat := none
  /-- R311. the most recent decoded picture, three planes of lines -/
  latest : List (List (List Nat)) := []
  /-- R307. decoded pictures waiting for their slots -/
  waiting : List Pict := []
  /-- R309. least presentation margin since the latest read, ns -/
  margin : Option Int := none
  /-- R302. RTP sequence number expected next; none before the first packet -/
  next : Option Nat := none
  /-- R302. packets that arrived ahead of a missing one, by sequence number: arrival PTP ns and data -/
  ahead : Tab (Nat × List Byte) := []
  /-- R302. bytes merged and not yet decoded -/
  stream : List Byte := []
  /-- R318. JPEG XS pictures being decoded by decode-assist coaches, by stall -/
  assist : Tab AccessUnit := []
  /-- R295. epoch count of the picture whose rows are being checked -/
  confEpoch : Nat := 0
  /-- R298. rows of it checked -/
  confRow : Nat := 0
  /-- R297. a row of it mismatched -/
  confBad : Bool := false
deriving DecidableEq, Repr, Inhabited

/-- One sample frame in a port's fade line (R388, R394). -/
structure FadeSample where
  /-- R383. samples by slot -/
  frame : List Int
  /-- R394. gain, 1/32,768 -/
  gain : Nat
  /-- R404. state of the port as it leaves: 1 running, 2 ramping, 3 silent -/
  kind : Nat
deriving DecidableEq, Repr, Inhabited

/-- One serial audio port (R384–R396). [DESIGN CHOICE: log entry 2] -/
structure AudioPort where
  /-- R388. index of the next sample read -/
  read : Nat := 0
  /-- R385. good frames by sample index, not yet read -/
  frames : Tab (List Int) := []
  /-- R386. FIFO of a FOLLOW port, oldest first -/
  fifo : List (List Int) := []
  /-- R388. fade line, oldest first -/
  line : List FadeSample := []
  /-- R393. last good sample -/
  last : List Int := []
  /-- R393. consecutive missing samples -/
  missing : Nat := 0
  /-- R394. the port is in silence -/
  silent : Bool := false
  /-- R394. consecutive good frames while silent -/
  good : Nat := 0
  /-- R394. index at which the latest or coming ramp begins -/
  ramp : Option Nat := none
  /-- R394. the last sample of a ramp has left and the ramp is not yet reported complete -/
  ramped : Bool := false
  /-- R386. a FOLLOW port's FIFO fills to 16 frames before reading goes on -/
  centring : Bool := true
  /-- R392. capture was discarded in HOLD or SAFE -/
  muted : Bool := false
  /-- R395. PTP ns of the last 64 frame edges, newest first -/
  edges : List Nat := []
  /-- R388. stream samples by index, the latest ones -/
  stream : Tab (List Int) := []
  /-- R396. index of the next frame an output port sends, or a master input port captures -/
  frame : Nat := 0
  /-- R396. samples on the data pin in the latest frame sent -/
  sent : List Int := []
deriving DecidableEq, Repr, Inhabited

/-- One audio output (R397–R402). -/
structure AudioOut where
  /-- R399. access units coded since the group's start -/
  next : Nat := 0
  /-- R360. coded access units not yet multiplexed: nominal end PTP ns, length in bytes and number -/
  ready : List (Nat × Nat × Nat) := []
  /-- R391. G of a stopped group whose current access unit is still to be completed -/
  ending : Option Nat := none
  /-- R399. bits of the latest 8 access units, newest first -/
  recent : List Nat := []
  /-- R477. the gate's decisions on its latest access units, at twice their number, and SMPTE ST 2110-30 packets, one above -/
  gated : Tab Bool := []
deriving DecidableEq, Repr, Inhabited

/-- The Bandstand (R381–R404). -/
structure Audio where
  /-- R381. ports SA0–SA15 -/
  ports : Tab AudioPort := []
  /-- R389. G of each group armed or running, PTP ns -/
  start : Tab Nat := []
  /-- R398. outputs 0–31 -/
  outs : Tab AudioOut := []
deriving DecidableEq, Repr, Inhabited

/-- A message of the cluster or pair layer that the device has sent (R446, R475): destination node, KIND and the
numbers it carries. -/
structure Msg where
  /-- R445. destination node; 0x10 the peer across the pair link -/
  dst : Nat
  /-- R446. KIND -/
  kind : Nat
  /-- R446. what it carries -/
  args : List Nat
deriving DecidableEq, Repr, Inhabited

/-- One node as its manager, or a worker its manager, knows it (R448–R453, R467). -/
structure Node where
  /-- R467. STATE -/
  state : Nat := 0
  /-- R467. REASON -/
  reason : Nat := 0
  /-- R467. MODE -/
  mode : Nat := 0
  /-- R23. PTP ns since which the mode differs from the manager's; none while it agrees -/
  differs : Option Nat := none
  /-- R23. the alarm of the present difference has been raised -/
  alarmed : Bool := false
  /-- R467. OFFSET, ns -/
  offset : Int := 0
  /-- R453. PTP ns of the latest heartbeat -/
  beat : Nat := 0
deriving DecidableEq, Repr, Inhabited

/-- A span channel's exchange with the other members (R459–R465). Keys of bands and units are (epoch × 65,536 + row) ×
64 + tile column. -/
structure Span where
  /-- R446. members whose SPANREQ has been granted -/
  granted : List Nat := []
  /-- R446. members that granted this device's SPANREQ or have not yet -/
  asked : List Nat := []
  /-- R461. v of bands of other members -/
  costs : Tab Nat := []
  /-- R462. departure units of other members that the lead holds -/
  units : Tab (List Byte) := []
  /-- R460. seam samples come from a neighbour, by (epoch × 65,536 + row) × 32 + node × 2, plus 1 when finished -/
  seams : Tab (List Byte) := []
  /-- R459. border tiles come from a neighbour, by (epoch × 65,536 + row) × 16 + node -/
  borders : Tab (List Byte) := []
  /-- R459. pyramids come from a neighbour, by epoch × 16 + node -/
  pyramids : Tab (List Byte) := []
  /-- R465. nothing is sent until the channel's next boundary -/
  broken : Bool := false
  /-- R465. from its next boundary the lead sends the SAFE output policy -/
  policy : Bool := false
deriving DecidableEq, Repr, Inhabited

/-- The cluster (R443–R467). -/
structure Cluster where
  /-- R443. role: 0 solo, 1 manager, 2 worker -/
  role : Nat := 0
  /-- R443. node that the straps give -/
  strap : Nat := 0
  /-- R448. nodes by number -/
  nodes : Tab Node := []
  /-- R448. a worker is admitted -/
  joined : Bool := false
  /-- R447. PTP ns at which the join window ends; none once it has -/
  window : Option Nat := none
  /-- R448. PTP ns of the latest JOIN sent -/
  joinAt : Nat := 0
  /-- R453. PTP ns of the latest heartbeat sent -/
  beatAt : Nat := 0
  /-- R452. PTP ns of the latest TSYNC sent -/
  syncAt : Nat := 0
  /-- R452. PTP ns of the latest TDELAY_REQ sent -/
  delayAt : Nat := 0
  /-- R452. PTP ns at which the latest TDELAY_REQ left; none once answered -/
  delayTx : Option Nat := none
  /-- R452. link delay to the parent, ns -/
  delay : Int := 0
  /-- R452. SOF and arrival of the latest TSYNC -/
  sync : Nat × Nat := (0, 0)
  /-- R459. span channels by number -/
  spans : Tab Span := []
  /-- R446. the latest messages sent, newest first, at most 64 -/
  out : List Msg := []
deriving DecidableEq, Repr, Inhabited

/-- A channel as a pair compares it (R483–R486, R495). -/
structure PairChan where
  /-- R495. REJOINING -/
  rejoining : Bool := false
  /-- R483. epoch count of the last mismatch -/
  mismatch : Nat := 0
  /-- R483. checkpoint received and not yet installed: Tollhouse record and flow counts -/
  ckpt : Option (List Byte) := none
  /-- R484. epoch count of the first picture of the refresh period being matched; none before one begins -/
  from_ : Option Nat := none
  /-- R486. refresh periods since the checkpoint was installed -/
  periods : Nat := 0
  /-- R483. the checkpoint has been installed -/
  installed : Bool := false
  /-- R484. bits of the primary's departure rows by epoch × 65,536 + row -/
  sizes : Tab Nat := []
deriving DecidableEq, Repr, Inhabited

/-- The mirror pair (R469–R495). [DESIGN CHOICE: log entry 97] -/
structure Pair where
  /-- R480. pair state -/
  state : Nat := 0
  /-- R470. strapped home -/
  home : Bool := false
  /-- R471. this unit asserts DRAWBAR -/
  drawbar : Bool := false
  /-- R472. DRAWBAR is held low by the peer -/
  held : Bool := false
  /-- R472. the peer's heartbeat is live -/
  live : Bool := false
  /-- R472. the pair link is up -/
  link : Bool := false
  /-- R472. PTP ns of the latest PAIRBEAT received -/
  beat : Nat := 0
  /-- R475. PTP ns of the latest PAIRBEAT sent -/
  beatTx : Nat := 0
  /-- R491. mode that the peer's latest PAIRBEAT showed -/
  peerMode : Nat := 0
  /-- R487. PAIRID exchanged and agreed -/
  agreed : Bool := false
  /-- R487. the pair-shared configuration digest that the peer's latest PAIRID named -/
  peer : List Byte := []
  /-- R486, R493. this unit has released DRAWBAR to its peer, and does not claim that release -/
  gave : Bool := false
  /-- R473. slot of the latest claim: PTP ns -/
  slot : Nat := 0
  /-- R476. the peer's records not yet used: type, epoch, channel, row and unit as one number, with the record -/
  records : List DigestRec := []
  /-- R481. channels' pair states -/
  chans : Tab PairChan := []
  /-- R493. PTP ns since which the hold-off runs; none while it does not -/
  holdFrom : Option Nat := none
  /-- R493. handover tick named, PTP ns -/
  handover : Option Nat := none
  /-- R486. an automatic yield has happened in this hold-off -/
  yielded : Bool := false
  /-- R486. the primary's confidence alarm, by channel, as its latest PAIRBEAT showed it -/
  peerAlarm : List Nat := []
deriving DecidableEq, Repr, Inhabited

/-- A request in a bank queue (R504). -/
structure DramReq where
  /-- R504. class 0–3 -/
  cls : Nat
  /-- R505. write -/
  write : Bool
  /-- R500. device address -/
  addr : Nat
  /-- R505. order of arrival -/
  seq : Nat := 0
deriving DecidableEq, Repr, Inhabited

/-- One bank of a DRAM rank (R504–R507). -/
structure DramBank where
  /-- R504. queue, oldest first, at most 16 -/
  queue : List DramReq := []
  /-- R507. open row -/
  row : Option Nat := none
  /-- R507. row last used -/
  last : Nat := 0
  /-- R507. history H -/
  hist : Nat := 15
  /-- R507. counter C -/
  conf : Nat := 4
  /-- R503. the ECC granule that the controller holds: its row and its number 0–3 in the row -/
  ecc : Option (Nat × Nat) := none
deriving DecidableEq, Repr, Inhabited

/-- One DRAM channel (R505–R524). -/
structure DramChan where
  /-- R524. STATE -/
  state : Nat := 0
  /-- R511. rate state m: 1, 2 or 4 -/
  m : Nat := 1
  /-- R512. postponement forbidden -/
  forbid : Bool := false
  /-- R509. debt in per-bank refreshes, 16 to an all-bank one -/
  debt : Nat := 0
  /-- R509. credit in per-bank refreshes -/
  credit : Nat := 0
  /-- R504. requests that wait on the fabric for room in their queue, oldest first -/
  fabric : List MemReq := []
  /-- R509, R510. banks (rank × 16 + position) of the refreshes owed, oldest first; those of a restated debt stand first -/
  owing : List Nat := []
  /-- R517. PTP ns at which the latest retraining window began; none before one -/
  winAt : Option Nat := none
  /-- R511. per-bank refreshes of a restated debt still to pay -/
  owed : Nat := 0
  /-- R511. refreshes of that debt, all-bank equivalents -/
  paying : Nat := 0
  /-- R518. PTP ns at which the latest payment began; none before one -/
  paidAt : Option Nat := none
  /-- R524. largest bank-queue occupancy since the last read -/
  peak : Nat := 0
  /-- R512. rate that the latest MR4 read reports, and the one before it -/
  mr4 : Nat × Nat := (1, 1)
  /-- R504. banks by rank × 16 + position -/
  banks : Tab DramBank := []
  /-- R506. pointer -/
  ptr : Nat := 0
  /-- R505. direction the bus runs, true for writes, and commands run in it -/
  run : Bool × Nat := (false, 0)
  /-- R505. order number of the next request -/
  seq : Nat := 0
  /-- R508. cycles for which the ranks have been idle, by rank -/
  idle : Tab Nat := []
  /-- R508. ranks in power-down -/
  down : List Nat := []
  /-- R515. PTP ns of the latest request while out of self-refresh in SERVICE or HOLD -/
  woke : Nat := 0
  /-- R505. the latest command issued: rule of R505 and bank; none for an idle cycle -/
  cmd : Option (Nat × Nat) := none
  /-- R517. a retraining window is booked -/
  window : Bool := false
deriving DecidableEq, Repr, Inhabited

/-- The root clock and its reference (R527–R546). [DESIGN CHOICE: log entry 2] -/
structure Clock where
  /-- R546. STATE -/
  state : Nat := 0
  /-- R546. REF -/
  ref : Nat := 0
  /-- R546. BYPASS -/
  bypass : Bool := true
  /-- R546. ALARM -/
  alarm : Bool := false
  /-- R546. CAUSE -/
  cause : Nat := 0
  /-- R546. NOMINAL -/
  nominal : Nat := 0
  /-- R536. PTP ns at which HOLDOVER was entered -/
  since : Nat := 0
  /-- R537. PTP ns since which the returned reference has run well -/
  qualFrom : Option Nat := none
  /-- R544. glitches since the latest glitch event, and its PTP ns -/
  glitches : Nat × Nat := (0, 0)
  /-- R541. outputs 0–3 and 5 are stopped -/
  stopped : Bool := false
  /-- R543. PTP ns at which the root locked again after its outputs had stopped; 0 before -/
  lockedAt : Nat := 0
  /-- R531. staged delays and enables waiting for the root to be LOCKED, by output × 2 + (0 delay, 1 enable) -/
  staged : Tab Nat := []
  /-- R543. PTP ns of the latest acquisition attempt -/
  tried : Nat := 0
deriving DecidableEq, Repr, Inhabited

/-- A master that a PTP port hears (R329, R334). -/
structure PtpMaster where
  /-- R329. its latest Announce -/
  ann : AnnounceMsg
  /-- R334. PTP ns of the latest Announce -/
  annAt : Nat
  /-- R334. PTP ns of the latest Sync -/
  syncAt : Nat
deriving DecidableEq, Repr, Inhabited

/-- One PTP port (R330–R335). -/
structure PtpPort where
  /-- R344. IEEE 1588-2019 portState: 3 disabled, 4 listening, 6 master, 7 passive, 8 uncalibrated, 9 slave -/
  state : Nat := 3
  /-- R334. the best master heard on the port -/
  master : Option PtpMaster := none
  /-- R334. the other masters heard on the port -/
  others : List PtpMaster := []
  /-- R331. ingress time and origin time of the latest Sync, PTP ns -/
  sync : Option (Nat × Nat) := none
  /-- R331. a two-step Sync waiting for its Follow_Up: sequence number and ingress time -/
  pending : Option (Nat × Nat) := none
  /-- R331. sequence number and egress time of the Delay_Req not yet answered -/
  delay : Option (Nat × Nat) := none
  /-- R332. sequence numbers of the next Sync, Announce and Delay_Req sent -/
  seq : Nat × Nat × Nat := (0, 0, 0)
  /-- R332. PTP ns of the latest Sync, Announce and Delay_Req sent -/
  sentAt : Nat × Nat × Nat := (0, 0, 0)
  /-- R332. the latest message sent -/
  out : Option PtpMsg := none
deriving DecidableEq, Repr, Inhabited

/-- One capture input (R340–R342). -/
structure Capture where
  /-- R342. records, oldest first: TS, SEQ and FLAGS -/
  fifo : List (Nat × Nat × Nat) := []
  /-- R342. edges seen, modulo 65,536 -/
  seq : Nat := 0
  /-- R340. PTP ns of the latest accepted edge -/
  edge : Option Nat := none
  /-- R340. edges dropped since the latest stored record -/
  lost : Bool := false
deriving DecidableEq, Repr, Inhabited

/-- Trigger generators and GPIO outputs (R337–R339). [DESIGN CHOICE: log entry 97] -/
structure Triggers where
  /-- R337. PTP ns at which a generator's output falls, by generator -/
  high : Tab Nat := []
  /-- R338. PTP ns at which a GPIO pulse falls, by ball -/
  gpio : Tab Nat := []
  /-- R337. PTP ns of a generator's latest rising edge -/
  last : Tab Nat := []
deriving DecidableEq, Repr, Inhabited

/-- The PTP instance (R329–R336). -/
structure Ptp where
  /-- R330. ports NET0–NET3 -/
  ports : Tab PtpPort := []
  /-- R334. port of the parent -/
  parent : Option Nat := none
  /-- R336. the instance runs -/
  running : Bool := false
deriving DecidableEq, Repr, Inhabited

/-- Why a command cannot be carried out. [DESIGN CHOICE: log entry 8] -/
inductive Fault where
  /-- A command names a unit, lane, port, channel, flow, stall or slot that the part does not have. Raised by
  every command that carries such a number. Safe: the hardware has no such unit to act on. -/
  | noSuchUnit
deriving DecidableEq, Repr

/-- Why a command has no meaning. -/
inductive Refusal where
  /-- The command has no meaning yet. Raised by exec's refused arms only. Safe: nothing is claimed of it. -/
  | notModelled (mnemonic : String)
deriving DecidableEq, Repr

/-- The instructions of the test port (R650). -/
inductive TestInstr where
  | /-- R650. BYPASS -/ bypass
  | /-- R650. IDCODE -/ idcode
  | /-- R650. SAMPLE/PRELOAD -/ samplePreload
  | /-- R650. EXTEST -/ extest
deriving DecidableEq, Repr, Inhabited

/-- The whole block. [DESIGN CHOICE: log entry 95] -/
structure State where
  /-- The commands waiting, first in, first out. -/
  pending : List Instr := []
  /-- The model's own counter of free values drawn; no claim rests on it. -/
  free : Nat := 0
  /-- R22. operating mode -/
  mode : Mode := .dormant
  /-- R36. target of the transition executing, its instant T in PTP ns, and the channels still to reach their boundaries -/
  moving : Option (Mode × Nat × List Nat) := none
  /-- R34. mode that HOLD left -/
  held : Mode := .standby
  /-- R78. object dictionary: every object not named by another field, unlisted = default -/
  od : Tab Val := []
  /-- R100. control paths -/
  ctl : Control := {}
  /-- R47. stage sets 1–8 -/
  sets : Tab StageSet := []
  /-- R56. commits armed so far -/
  armings : Nat := 0
  /-- R45. single-object commits that apply at the next tick, in the order of their validation -/
  soon : List Soon := []
  /-- R40. what the objects of each set fired in the present tick held before it fired -/
  undo : Tab (Tab Val) := []
  /-- R40. Lodge time and rank of the highest trigger acted on at that time -/
  acted : Nat × Nat := (0, 5)
  /-- R107. PTP ns at which a measured value was taken, by object key -/
  meas : Tab Nat := []
  /-- R283. timetable lists 0–3, each in DUE order and then in order of insertion -/
  tt : List (List TtEntry) := [[], [], [], []]
  /-- R667. channel contexts -/
  chan : Tab Chan := []
  /-- R406. lanes L00–L47 -/
  lane : Tab Lane := []
  /-- R427. Carriageway ports CW0–CW3 -/
  cw : Tab CwPort := []
  /-- R350. flows 0–1,023 -/
  flow : Tab Flow := []
  /-- R346. ports NET0–NET3 -/
  net : Tab Port := []
  /-- R370. delivery rings 0–15 and input rings 16–31 -/
  ring : Tab Ring := []
  /-- R370. MSI-X vectors raised -/
  msix : Nat := 0
  /-- R321. Timebase -/
  tb : Timebase := {}
  /-- R630. black box -/
  bb : BlackBox := {}
  /-- R262. Mews -/
  mews : Mews := {}
  /-- R548. Lodge -/
  lodge : Lodge := { rules := romRules }
  /-- R573. security -/
  sec : Security := {}
  /-- R426. segments of the line last sent on each channel's return-video lanes -/
  ret : Tab (List Segment) := []
  /-- R295, R301. decoders and confidence checks by channel -/
  dec : Tab Decoder := []
  /-- R381. Bandstand -/
  audio : Audio := {}
  /-- R443. cluster -/
  cluster : Cluster := {}
  /-- R469. mirror pair -/
  pair : Pair := {}
  /-- R499. DRAM channels DCH0–DCH15 -/
  dram : Tab DramChan := []
  /-- R521, R523. density code, ranks, inline ECC and host region in MiB as the latest STARTING took them -/
  dramCfg : Nat × Nat × Bool × Nat := (2, 1, true, 1024)
  /-- R511, R561. board-temperature input, °C -/
  board : Int := 0
  /-- R500. device DRAM by address; an unlisted byte is as power-on left it -/
  dramMem : Tab Byte := []
  /-- R527. root clock -/
  clk : Clock := {}
  /-- R329. PTP instance -/
  ptp : Ptp := {}
  /-- R340. capture inputs CI0–CI7 -/
  cap : Tab Capture := []
  /-- R337. trigger generators and GPIO outputs -/
  trig : Triggers := {}
  /-- R607. Turnstile units 0–9 -/
  cs : Tab Turnstile := []
  /-- R617. performance counters, tagging and tests -/
  perf : Perf := {}
  /-- R650. the test port's instruction register -/
  jtag : TestInstr := .idcode
deriving DecidableEq, Repr

/-- The state right after VLODGE power-on (R565, R569). [DESIGN CHOICE: log entries 2, 3, 90] -/
def State.reset : State := {}

end Sys2Proof.Machine
end

