-- ==== Sys2Proof/Machine/Operands.lean ====
section
/-! DEFINITION. Operands.lean: tables keyed by a number, and the object dictionary as the operand of every command: how an
object is named, read and written (R86–R90). -/

namespace Sys2Proof.Machine

/-! Tables -/

/-- The entry at a key. -/
def tget {α : Type} : Tab α → Nat → Option α
  | [], _ => none
  | (a, v) :: r, k => if a = k then some v else tget r k

/-- The entry at a key, or the table's default. -/
def tgetD {α : Type} (t : Tab α) (k : Nat) (d : α) : α := (tget t k).getD d

/-- Sets an entry, keeping the keys strictly rising. -/
def tset {α : Type} : Tab α → Nat → α → Tab α
  | [], k, v => [(k, v)]
  | (a, w) :: r, k, v =>
    if k < a then (k, v) :: (a, w) :: r
    else if k = a then (k, v) :: r
    else (a, w) :: tset r k v

/-- Removes an entry. -/
def tdel {α : Type} (t : Tab α) (k : Nat) : Tab α := t.filter (fun kv => kv.1 != k)

/-- The keys of a table rise strictly. -/
def tabWf {α : Type} : Tab α → Bool
  | [] => true
  | [_] => true
  | (a, _) :: (b, w) :: r => decide (a < b) && tabWf ((b, w) :: r)

/-- The keys of a table. -/
def tkeys {α : Type} (t : Tab α) : List Nat := t.map Prod.fst

/-- The least number below `n` that is not a key. -/
def tfree {α : Type} (t : Tab α) (lo n : Nat) : Option Nat :=
  ((List.range n).map (· + lo)).find? (fun k => (tget t k).isNone)

/-! Numbers -/

/-- Bit `k` of a number. -/
def bit (v k : Nat) : Bool := Nat.testBit v k
/-- A number with bit `k` set. -/
def setBit (v k : Nat) : Nat := Nat.lor v (2 ^ k)
/-- A number with bit `k` cleared. -/
def clrBit (v k : Nat) : Nat := if Nat.testBit v k then v - 2 ^ k else v
/-- The numbers of the set bits of `v` below `n`, ascending. -/
def bits (v n : Nat) : List Nat := (List.range n).filter (fun k => Nat.testBit v k)
/-- The mask whose set bits are listed. -/
def maskOf (l : List Nat) : Nat := l.foldl setBit 0
/-- A 0/1 number. -/
def b2n (b : Bool) : Nat := if b then 1 else 0
/-- Clamps a value. -/
def clampInt (lo hi v : Int) : Int := if v < lo then lo else if hi < v then hi else v

/-! The object dictionary -/

/-- The key of an object in the dictionary map. -/
def okey (i j : Nat) : Nat := i * 256 + j

/-- The value an object holds. -/
def odGet (od : Tab Val) (i j : Nat) : Val := (tget od (okey i j)).getD (odDefault i j)

/-- The map with an object set; the default value is never listed. -/
def odPut (od : Tab Val) (i j : Nat) (v : Val) : Tab Val :=
  let k := okey i j
  if v = odDefault (k / 256) (k % 256) then tdel od k else tset od k v

/-- The number a value holds; bytes count as 0. -/
def valInt : Val → Int
  | .num v => v
  | .oct _ => 0

/-- The bytes a value holds; a number counts as none. -/
def valBytes : Val → List Byte
  | .num _ => []
  | .oct b => b

/-- The number an object holds. -/
def odNum (od : Tab Val) (i j : Nat) : Int := valInt (odGet od i j)
/-- The natural number an object holds. -/
def odNat (od : Tab Val) (i j : Nat) : Nat := (odNum od i j).toNat
/-- The bytes an object holds. -/
def odBytes (od : Tab Val) (i j : Nat) : List Byte := valBytes (odGet od i j)
/-- The map with a number set. -/
def odSet (od : Tab Val) (i j : Nat) (v : Int) : Tab Val := odPut od i j (.num v)
/-- Whether an object holds a non-zero number. -/
def odFlag (od : Tab Val) (i j : Nat) : Bool := odNum od i j != 0
/-- The map with a set of writes (by key) put into force. -/
def odApply (od : Tab Val) (w : Tab Val) : Tab Val :=
  w.foldl (fun m kv => odPut m (kv.1 / 256) (kv.1 % 256) kv.2) od

/-- Channel n's index of an offset (R88). -/
def chI (n off : Nat) : Nat := 0x4000 + 0x80 * n + off
/-- Layer k's index of channel n, part 0 or 1 (R88). -/
def layI (n k part : Nat) : Nat := chI n (0x20 + 2 * k + part)
/-- Flow f's index of part 0–3 (R87). -/
def flI (f part : Nat) : Nat := 0x3000 + 4 * f + part

/-- The number an object of the machine holds. -/
def State.num (s : State) (i j : Nat) : Int := odNum s.od i j
/-- The natural number an object of the machine holds. -/
def State.nat (s : State) (i j : Nat) : Nat := odNat s.od i j
/-- Whether an object of the machine holds a non-zero number. -/
def State.flag (s : State) (i j : Nat) : Bool := odFlag s.od i j
/-- The machine with an object's number set. -/
def State.put (s : State) (i j : Nat) (v : Int) : State := { s with od := odSet s.od i j v }
/-- The machine with an object's value set. -/
def State.putVal (s : State) (i j : Nat) (v : Val) : State := { s with od := odPut s.od i j v }

end Sys2Proof.Machine
end

