-- ==== Sys2Proof/Machine/Flags.lean ====
section
/-! DEFINITION. Flags.lean: latched flags and the counters that wrap into them (R84, R132, R288, R571). -/

namespace Sys2Proof.Machine

/-- The map with bits of a flag object set. -/
def odSetFlag (od : Tab Val) (i j k : Nat) : Tab Val := odSet od i j (setBit (odNat od i j) k)
/-- A counter advanced by `n`: it wraps at `lim`, latching bit `k` of its flag object when it does. -/
def odCount (od : Tab Val) (i j fi fj k lim n : Nat) : Tab Val :=
  let v := odNat od i j + n
  if v < lim then odSet od i j v else odSetFlag (odSet od i j (v % lim : Nat)) fi fj k
/-- A 32-bit counter at subindex `j` whose wrap flag is bit `j` of `fi.fj`, advanced by 1. -/
def odBump (od : Tab Val) (i j fi fj : Nat) : Tab Val := odCount od i j fi fj j 4294967296 1
/-- The machine with a 32-bit counter advanced (`odBump`). -/
def State.bump (s : State) (i j fi fj : Nat) : State := { s with od := odBump s.od i j fi fj }
/-- The machine with a counter advanced by `n` (32 bits, wrap flag bit `j`). -/
def State.bumpBy (s : State) (i j fi fj n : Nat) : State := { s with od := odCount s.od i j fi fj j 4294967296 n }
/-- The machine with a 64-bit counter advanced by `n`. -/
def State.bump64 (s : State) (i j fi fj n : Nat) : State :=
  { s with od := odCount s.od i j fi fj j 18446744073709551616 n }
/-- A frame received on NET port k (R378). -/
def State.netRx (s : State) (k : Nat) : State := s.bump64 (0x1A00 + k) 13 (0x1A00 + k) 15 1
/-- Frames sent on NET port k (R378). -/
def State.netTx (s : State) (k n : Nat) : State := if n = 0 then s else s.bump64 (0x1A00 + k) 12 (0x1A00 + k) 15 n
/-- The machine with an object raised to `v` where it holds less. -/
def State.raise (s : State) (i j : Nat) (v : Int) : State := if s.num i j < v then s.put i j v else s

end Sys2Proof.Machine
end

