-- ==== Sys2Proof/Machine/Frac.lean ====
section
/-! DEFINITION. Frac.lean: exact non-normalised fractions for line times, loads and latencies, which the
spec compares exactly before any rounding it states. -/

namespace Sys2Proof.Machine

/-- A fraction with a positive denominator `den + 1`. [DEDUCED: log entry 64] -/
structure Frac where
  num : Int
  dm1 : Nat
deriving DecidableEq, Repr, Inhabited

/-- The denominator. -/
def Frac.den (a : Frac) : Nat := a.dm1 + 1
/-- `n ÷ d`, 0 when `d` is 0. -/
def Frac.mk' (n : Int) (d : Nat) : Frac := if d = 0 then ⟨0, 0⟩ else ⟨n, d - 1⟩
/-- A whole number. -/
def Frac.ofInt (n : Int) : Frac := ⟨n, 0⟩
/-- Sum. -/
def Frac.add (a b : Frac) : Frac := ⟨a.num * b.den + b.num * a.den, a.den * b.den - 1⟩
/-- Difference. -/
def Frac.sub (a b : Frac) : Frac := ⟨a.num * b.den - b.num * a.den, a.den * b.den - 1⟩
/-- Product. -/
def Frac.mul (a b : Frac) : Frac := ⟨a.num * b.num, a.den * b.den - 1⟩
/-- Quotient; 0 when the divisor is 0. -/
def Frac.div (a b : Frac) : Frac :=
  if b.num = 0 then ⟨0, 0⟩
  else if b.num < 0 then ⟨-(a.num * b.den), a.den * b.num.natAbs - 1⟩
  else ⟨a.num * b.den, a.den * b.num.natAbs - 1⟩
/-- Exact comparison. -/
def Frac.le (a b : Frac) : Bool := decide (a.num * b.den ≤ b.num * a.den)
/-- Strict comparison. -/
def Frac.lt (a b : Frac) : Bool := decide (a.num * b.den < b.num * a.den)
/-- The larger. -/
def Frac.max (a b : Frac) : Frac := if a.le b then b else a
/-- The smaller. -/
def Frac.min (a b : Frac) : Frac := if a.le b then a else b
/-- Rounding down. -/
def Frac.floor (a : Frac) : Int := a.num / (a.den : Int)
/-- Rounding up. -/
def Frac.ceil (a : Frac) : Int := -((-a.num) / (a.den : Int))
/-- Rounding to the nearest whole number, halves up. -/
def Frac.round (a : Frac) : Int := (2 * a.num + a.den) / (2 * (a.den : Int))
/-- The sum of a list. -/
def Frac.sum (l : List Frac) : Frac := l.foldl Frac.add ⟨0, 0⟩
/-- The largest of a list, 0 for an empty one. -/
def Frac.maxOf (l : List Frac) : Frac := l.foldl Frac.max ⟨0, 0⟩

/-- `n ÷ d` rounded up, 0 when `d` is 0. -/
def ceilDiv (n d : Nat) : Nat := if d = 0 then 0 else (n + d - 1) / d

end Sys2Proof.Machine
end

