-- ==== Sys2Proof/Machine/Ops.lean ====
section
/-! DEFINITION. Ops.lean: the operations that every meaning shares: free values, codes, counters of events, PTP time, notices
and events, the black-box queue and the timetable. -/

namespace Sys2Proof.Machine

/-! Free values -/

/-- A free value drawn: the machine advances its counter of draws, and the number is opaque.
[DESIGN CHOICE: log entry 11] -/
def State.draw (s : State) : Nat × State := (Config.freeNat s.free, { s with free := s.free + 1 })
/-- `n` free bytes drawn. [DESIGN CHOICE: log entry 11] -/
def State.drawBytes (s : State) (n : Nat) : List Byte × State :=
  ((List.range n).map (fun k => Config.freeByte (s.free + k)), { s with free := s.free + n })

/-! Modes and codes -/

/-- The encoding of R25. -/
def Mode.code : Mode → Nat
  | .dormant => 0 | .starting => 1 | .service => 2 | .test => 3 | .standby => 4 | .encode => 5
  | .transcode => 6 | .decode => 7 | .span => 8 | .hold => 9 | .safe => 10 | .ret => 11

/-- The mode of an encoding of R25. -/
def Mode.ofCode (n : Nat) : Mode :=
  match n with
  | 0 => .dormant | 1 => .starting | 2 => .service | 3 => .test | 4 => .standby | 5 => .encode
  | 6 => .transcode | 7 => .decode | 8 => .span | 9 => .hold | 10 => .safe | _ => .ret

/-- The modes in which an enabled channel runs (R667). -/
def Mode.media : Mode → Bool
  | .encode => true | .transcode => true | .decode => true | .span => true | _ => false

/-- The numeric value of a status code (R131). -/
def Code.value : Code → Nat
  | .ok => 0 | .denied => 1 | .range => 2 | .zero => 3 | .busy => 4 | .late => 5 | .aborted => 6
  | .linebuf => 7 | .latency => 8 | .noobject => 9 | .nosub => 10 | .readonly => 11 | .writeonly => 12
  | .stageonly => 13 | .length => 14 | .malformed => 15 | .nonode => 16 | .wrongnode => 17 | .noset => 18
  | .sequence => 19 | .digest => 20 | .skipped => 21 | .unsupported => 22 | .toobig => 23
  | .storefail => 24 | .timeout => 25 | .signature => 26 | .rollback => 27 | .lifecycle => 28
  | .hardware => 29 | .internal => 255

/-- The code of a numeric value of R131; any other number counts as INTERNAL. -/
def Code.ofValue (n : Nat) : Code :=
  match n with
  | 0 => .ok | 1 => .denied | 2 => .range | 3 => .zero | 4 => .busy | 5 => .late | 6 => .aborted
  | 7 => .linebuf | 8 => .latency | 9 => .noobject | 10 => .nosub | 11 => .readonly | 12 => .writeonly
  | 13 => .stageonly | 14 => .length | 15 => .malformed | 16 => .nonode | 17 => .wrongnode | 18 => .noset
  | 19 => .sequence | 20 => .digest | 21 => .skipped | 22 => .unsupported | 23 => .toobig
  | 24 => .storefail | 25 => .timeout | 26 => .signature | 27 => .rollback | 28 => .lifecycle
  | 29 => .hardware | _ => .internal

/-! PTP time -/

/-- 2^48: the Timebase's units per nanosecond (R321). -/
def q48 : Int := 281474976710656

/-- The increment INC in force (R321). -/
def State.inc (s : State) : Int := 351843720888320 + s.num 0x1500 4

/-- PTP time at a counter value, in 2^−48 ns (R321). -/
def State.timeAt (s : State) (c : Nat) : Int := s.tb.t0 + ((c : Int) - s.tb.c0) * s.inc

/-- PTP time in nanoseconds, truncated (R323). [DESIGN CHOICE: log entry 5] -/
def State.now (s : State) : Nat := (s.timeAt s.tb.count / q48).toNat

/-- The 100 ns tick of PTP time (R283). -/
def State.tick (s : State) : Nat := s.now / 100

/-- The low 32 bits of the nanoseconds of a PTP time (R324). [DEDUCED: log entry 14] -/
def stamp32 (ns : Nat) : Nat := ns % 4294967296

/-- A TIME80 of a PTP time in nanoseconds (R90). -/
def time80 (ns : Nat) : List Byte := leBytes 6 (ns / 1000000000) ++ leBytes 4 (ns % 1000000000)

/-- The nanoseconds of a TIME80 (R90). -/
def ofTime80 (b : List Byte) : Nat := leNat (b.take 6) * 1000000000 + leNat ((b.drop 6).take 4)

/-- A measured value brought to its object, with the instant of its measurement (R44, R107). -/
def State.measure (s : State) (i j : Nat) (v : Int) (at_ : Nat) : State :=
  { s.put i j v with meas := tset s.meas (okey i j) at_ }

/-! Notices and events -/

/-- The session's queue with a notice added (R117): a full queue of 128 drops it and counts the drop; a change notice takes
the place of an undelivered one of the same subscription, with a new NSEQ and at the end of the queue.
[DESIGN CHOICE: log entry 107] -/
def Session.push (x : Session) (subid kind time : Nat) (payload : List Byte) : Session :=
  let keep := if kind = 1 then x.queue.filter (fun n => !(n.kind == 1 && n.subid == subid)) else x.queue
  if keep.length < 128 then
    { x with queue := keep ++ [⟨subid, kind, 0, x.nseq, time, payload⟩], nseq := (x.nseq + 1) % 4294967296 }
  else { x with lost := x.lost + 1 }

/-- The machine with one session changed, where it is open. -/
def State.onSession (s : State) (id : Nat) (f : Session → Session) : State :=
  match tget s.ctl.sessions id with
  | some x => { s with ctl := { s.ctl with sessions := tset s.ctl.sessions id (f x) } }
  | none => s

/-- A notice queued to a session (R116). -/
def State.notify (s : State) (id subid kind time : Nat) (payload : List Byte) : State :=
  s.onSession id (fun x => x.push subid kind time payload)

/-- An event record raised: every KIND 0x03 subscription whose MASK has the class's bit gets a notice (R115).
The class number is the bit number. -/
def State.event (s : State) (cls time : Nat) (payload : List Byte) : State :=
  let add := fun (x : Session) =>
    (x.subs.filter (fun u => u.kind == 3 && bit u.mask cls)).foldl (fun y u => y.push u.id 3 time payload) x
  { s with ctl := { s.ctl with sessions := s.ctl.sessions.map (fun kv => (kv.1, add kv.2)) } }

/-- A 16-byte event record of the layout CLASS, two bytes, reserved, TS, VALUE (R343, R570, R612 …). -/
def evRec (cls what source ts : Nat) (value : Int) : List Byte :=
  leBytes 1 cls ++ leBytes 1 what ++ leBytes 1 source ++ zeros 1 ++ leBytes 4 (stamp32 ts) ++ leInt 8 value

/-- An event of that layout raised at the present PTP time. -/
def State.ev (s : State) (cls what source : Nat) (value : Int) : State :=
  s.event cls s.now (evRec cls what source s.now value)

/-- The rate changes: the origin moves to the current count in the same cycle, so PTP time does not
(R321); ADJ is clamped under R322, and a clamp is counted. -/
def State.setAdj (s : State) (adj : Int) : State :=
  let a := clampInt (-70368744178) 70368744178 adj
  let s1 : State := { s with tb := { s.tb with t0 := s.timeAt s.tb.count, c0 := s.tb.count } }
  let s2 := s1.put 0x1500 4 a
  if a = adj then s2 else (s2.bump 0x1508 4 0x1508 6).ev 10 6 0 0

/-! The black box -/

/-- Severity by entry code (R635). [DEDUCED: log entry 30] -/
def bbSeverity (code : Nat) : Nat :=
  match code with
  | 0x01 => 2 | 0x02 => 2 | 0x03 => 1 | 0x04 => 2 | 0x05 => 2 | 0x06 => 1 | 0x08 => 1 | 0x09 => 3 | 0x0A => 3
  | 0x0C => 3 | 0x0D => 1 | 0x10 => 3 | 0x11 => 3 | 0x12 => 3 | 0x13 => 2 | 0x14 => 2 | 0x18 => 2 | 0x19 => 1
  | 0x1A => 2 | 0x1B => 2 | 0x1C => 2 | 0x1D => 2 | 0x20 => 2 | 0x24 => 2 | 0x25 => 2 | 0x2A => 1 | 0x2B => 1
  | 0x28 => 3 | 0x29 => 3 | 0x40 => 0 | 0x41 => 1 | 0x42 => 0 | 0x43 => 0 | 0x44 => 0 | 0x45 => 0 | 0x46 => 1
  | _ => 0

/-- A new entry with the machine's stamps (R631). -/
def State.bbEntry (s : State) (code unit chan : Nat) (v : List Nat) : BbEntry :=
  { ltime := s.lodge.time / 10, code := code, sev := bbSeverity code, mode := s.mode.code, lcs := s.sec.lcs,
    unit := unit, chan := chan, rep := 0, starts := s.nat 0x1703 0x0B % 65536, v := v }

/-- The newest entry of the lowest severity removed. -/
def dropLowest (q : List BbEntry) : List BbEntry :=
  let m := q.foldl (fun a e => min a e.sev) 3
  let rec go : List BbEntry → List BbEntry
    | [] => []
    | e :: r => if e.sev = m then r else e :: go r
  (go q.reverse).reverse

/-- An entry handed to the Lodge's queue (R633): past 64 entries the newest of the lowest severity, the
arriving one counted, is discarded and the discard counted. -/
def State.bbPush (s : State) (e : BbEntry) : State :=
  let q := s.bb.queue ++ [e]
  if q.length ≤ 64 then { s with bb := { s.bb with queue := q } }
  else
    let s1 : State := { s with bb := { s.bb with queue := dropLowest q, dropped := s.bb.dropped + 1 } }
    s1.bump 0x1E00 4 0x1E00 7

/-- A black-box entry of a code, unit (0xFFFF none), channel (0xFF none) and values (R635). -/
def State.log (s : State) (code unit chan : Nat) (v : List Nat) : State := s.bbPush (s.bbEntry code unit chan v)

/-- A value as the U64 an entry holds. -/
def u64 (v : Int) : Nat := (v % 18446744073709551616).toNat

/-- The 64 bytes of an entry with its sequence number (R631). -/
def bbBytes (e : BbEntry) (seq : Nat) : List Byte :=
  let b := leBytes 8 e.ltime ++ leBytes 4 seq ++ leBytes 1 e.code ++ leBytes 1 e.sev ++ leBytes 1 e.mode ++
    leBytes 1 e.lcs ++ leBytes 2 e.unit ++ leBytes 1 e.chan ++ zeros 1 ++ leBytes 2 (min e.rep 65535) ++
    leBytes 2 e.starts ++ leBytes 8 (e.v.getD 0 0) ++ leBytes 8 (e.v.getD 1 0) ++ leBytes 8 (e.v.getD 2 0) ++
    leBytes 8 (e.v.getD 3 0)
  b ++ leBytes 4 (crc32c b) ++ leBytes 4 (Nat.xor seq 0x53444242)

/-- Whether a slot's 64 bytes are a whole entry (R632). -/
def bbWhole (b : List Byte) : Bool :=
  b.length == 64 && leNat (b.drop 60) == Nat.xor (leNat ((b.drop 8).take 4)) 0x53444242 &&
    leNat ((b.drop 56).take 4) == crc32c (b.take 56)

/-- The entry written to its ring slot under the next SEQ, and to its pinned slot where that is not whole
(R630, R634). An entry written from VLODGE energy (`direct`) is pinned later. -/
def BlackBox.write (b : BlackBox) (e : BbEntry) (direct : Bool) : BlackBox :=
  let bytes := bbBytes e b.seq
  let b1 := { b with slots := tset b.slots (64 + b.seq % 8128) bytes, seq := (b.seq + 1) % 4294967296 }
  if 0x40 ≤ e.code then b1
  else if direct then { b1 with unpinned := b1.unpinned ++ [(e.code, bytes)] }
  else if ((tget b1.slots e.code).map bbWhole).getD false then b1
  else { b1 with slots := tset b1.slots e.code bytes }

/-! The timetable -/

/-- The list of an action kind (R284). -/
def ttList (kind : Nat) : Nat :=
  if kind ≤ 4 then 0 else if kind ≤ 7 then 1 else if kind ≤ 9 then 2 else 3

/-- Whether an action kind is frame-bound (R284). -/
def ttBound (kind : Nat) : Bool := decide (kind ≤ 9)

/-- An entry that a stage set books, whose REF is the place of the set in the order of arming. -/
def ttOfSet (kind : Nat) : Bool := decide (kind ≤ 8) && kind != 4

/-- Whether an entry stands before another of its list: it is due earlier, or as early and its set was armed earlier
(R56, R285). [DEDUCED: log entry 39] -/
def ttBefore (e x : TtEntry) : Bool :=
  decide (e.due < x.due) || e.due == x.due && ttOfSet e.kind && ttOfSet x.kind && decide (e.ref < x.ref)

/-- A list with an entry inserted in DUE order, after those that it does not stand before. -/
def ttPlace (l : List TtEntry) (e : TtEntry) : List TtEntry :=
  match l with
  | [] => [e]
  | x :: r => if ttBefore e x then e :: x :: r else x :: ttPlace r e

/-- One timetable list of the machine. -/
def State.ttl (s : State) (k : Nat) : List TtEntry := s.tt.getD k []

/-- The machine with one timetable list replaced; OD 0x2002 reports its length. -/
def State.setTtl (s : State) (k : Nat) (l : List TtEntry) : State :=
  { s with tt := s.tt.set k l, od := odSet s.od 0x2002 (k + 1) l.length }

/-- Whether a list has room for a frame-bound entry at a tick (R286): fewer than 1,024 entries, and fewer
than 8 due at that tick. -/
def State.ttRoom (s : State) (kind due : Nat) : Bool :=
  let l := s.ttl (ttList kind)
  decide (l.length < 1024) && decide ((l.filter (fun e => e.due == due)).length < 8)

/-- An entry inserted. -/
def State.ttInsert (s : State) (e : TtEntry) : State :=
  s.setTtl (ttList e.kind) (ttPlace (s.ttl (ttList e.kind)) e)

/-- Every entry that a test selects removed from its list. -/
def State.ttRemove (s : State) (p : TtEntry → Bool) : State :=
  [0, 1, 2, 3].foldl (fun t k =>
    if (t.ttl k).any p then t.setTtl k ((t.ttl k).filter (fun e => !p e)) else t) s

/-- An insertion refused with BUSY: counted in OD 0x2000.0C and flagged in OD 0x1200.08 (R84, R286). -/
def State.ttBusy (s : State) : State :=
  let s1 := s.bump 0x2000 0x0C 0x2000 0x0D
  { s1 with od := odSetFlag s1.od 0x1200 8 7 }

/-- A completion notice of a timed action to the session that programmed it (R83, R115), with the lateness
counted (R66). `late` is in ns, a multiple of 100. -/
def State.ttDone (s : State) (e : TtEntry) (late : Nat) : State :=
  let pay := leBytes 1 2 ++ leBytes 1 (if late = 0 then 1 else 2) ++ leBytes 1 e.kind ++ zeros 1 ++ zeros 2 ++
    leBytes 2 e.target ++ leBytes 4 e.ref ++ leBytes 4 late
  let s1 := s.notify e.owner 0 4 (s.tick * 100) pay
  if late = 0 then s1
  else
    let s2 : State := { s1 with od := odCount s1.od 0x1200 5 0x1200 8 31 4294967296 1 }
    let s3 := s2.raise 0x1200 6 late
    { s3 with od := odSetFlag s3.od 0x1200 8 5 }

/-! Performance counters and Turnstile windows: what the other blocks report to them -/

/-- EVENT of a device counter's control word (R618). -/
def ctlEvent (w : Nat) : Nat := w % 65536
/-- QUAL (R618). -/
def ctlQual (w : Nat) : Nat := w / 65536 % 65536
/-- GATE (R618). -/
def ctlGate (w : Nat) : Nat := w / 2 ^ 60 % 8
/-- EN (R618). -/
def ctlEn (w : Nat) : Bool := bit w 63

/-- A counter advanced by `n` within its width: past the end it wraps, and WRAPPED and LATE note it (R617, R623). -/
def Counter.add (c : Counter) (width n : Nat) : Counter :=
  let v := c.live + n
  if v < 2 ^ width then { c with live := v } else { c with live := v % 2 ^ width, wrapped := true, late := true }

/-- An occurrence of a device event: every ungated enabled counter that selects it advances by `n` (R618, R619).
[DESIGN CHOICE: log entry 75] -/
def State.perfAdd (s : State) (ev qual n : Nat) : State :=
  let hit := fun (w : Nat) => ctlEn w && ctlGate w == 0 && ctlEvent w == ev && (ctlQual w == qual || ctlQual w == 65535)
  { s with perf := { s.perf with ctrs := s.perf.ctrs.map (fun kv =>
      if decide (kv.1 < 128) && hit kv.2.ctl then (kv.1, kv.2.add 64 n) else kv) } }

/-- An occurrence of a Pavilion event on a coach of a channel (0xFF none), counted by the Pavilion's counters that select
it (R620). -/
def State.pavAdd (s : State) (p chan ev n : Nat) : State :=
  let hit := fun (w : Nat) => bit w 31 && w % 256 == ev && (w / 65536 % 256 == 255 || w / 65536 % 256 == chan)
  { s with perf := { s.perf with ctrs := s.perf.ctrs.map (fun kv =>
      if decide (128 + 16 * p ≤ kv.1) && decide (kv.1 < 144 + 16 * p) && hit kv.2.ctl then (kv.1, kv.2.add 48 n)
      else kv) } }

/-- A picture or access unit of a source reaches the Turnstile (R608, R609): a waiting unit starts its window at START, or
at the next one where START is 0; a running one counts it. -/
def State.snoop (s : State) (source target k : Nat) (starts : Bool) : State :=
  { s with cs := s.cs.map (fun kv =>
      let x := kv.2
      if x.source != source || x.target != target then kv
      else if x.state == 1 && starts && (x.start == 0 || decide (x.start ≤ k)) then
        (kv.1, { x with state := 2, window := k, progress := 0 })
      else if x.state == 2 then (kv.1, { x with progress := k - x.window })
      else kv) }

/-! Channels -/

/-- The channel numbers of the device (R88). -/
def channels : List Nat := List.range 128

/-- A 16-byte event record of classes 0x08 and 0x09 (R319). -/
def chanRec (cls chan what epoch row count : Nat) : List Byte :=
  leBytes 1 cls ++ leBytes 1 chan ++ leBytes 1 what ++ zeros 1 ++ leBytes 8 epoch ++ leBytes 2 row ++
    leBytes 2 (min count 65535)

end Sys2Proof.Machine
end

