-- ==== Sys2Proof/Machine/Geometry.lean ====
section
/-! DEFINITION. Geometry.lean: what a channel's settings fix: its line, its tiles and bands, its departure rows,
the terms of its latency, its slots and its floor reserves (R5, R18, R194–R197, R201–R204, R229–R236, R244,
R248, R249, R263, R670). -/

namespace Sys2Proof.Machine

/-- The first verified preset pack that defines a preset (R182, R202). -/
def Security.packOf (x : Security) (preset : Nat) : Option Image :=
  ((x.packs.filter (fun kv => kv.2.verified && Config.packDefines kv.2.payload preset)).map Prod.snd).head?

/-- The settings of a channel that say which metadata its pictures carry (R221, R227). -/
structure Meta where
  /-- R221. decoded picture hash -/
  hash : Nat
  /-- R221. timecode source -/
  source : Nat
  /-- R223. drop-frame timecode -/
  drop : Bool
  /-- R221. ancillary carriage: bit 0 captions, bit 1 other packets -/
  carry : Nat
  /-- R220. parameter sets in every access unit -/
  always : Bool
  /-- R221, R227. mastering display: primaries and white point in the order R, G, B, white, then maximum and minimum luminance;
  none where it is off -/
  mastering : Option (List Nat)
  /-- R221. MaxCLL and MaxFALL; none where they are off -/
  light : Option (Nat × Nat)
  /-- R422. ancillary allowance, bytes of a line -/
  allow : Nat
deriving DecidableEq, Repr, Inhabited

/-- Channel n's metadata settings in a map of objects. -/
def metaOf (od : Tab Val) (n : Nat) : Meta :=
  let g := fun off j => odNat od (chI n off) j
  let prim := odBytes od (chI n 0x42) 2
  { hash := g 0x41 1, source := g 0x41 2, drop := g 0x41 3 != 0, carry := g 0x41 4, always := g 0x41 5 != 0,
    mastering := if g 0x42 1 = 0 then none
      else some ((List.range 8).map (fun k => leNat ((prim.drop (2 * k)).take 2)) ++ [g 0x42 3, g 0x42 4]),
    light := if g 0x42 5 = 0 then none else some (g 0x42 6, g 0x42 7), allow := g 10 3 }

/-- The settings of a channel that its geometry and its pictures depend on, read from a map of objects. -/
structure Cfg where
  /-- R179. active width -/
  w : Nat
  /-- R179. active height -/
  h : Nat
  /-- R179. frame rate numerator -/
  num : Nat
  /-- R179. frame rate denominator -/
  den : Nat
  /-- R417. input format: colour model, subsampling, bit depth, range, colorimetry, transfer -/
  fmt : List Nat
  /-- R179. lock window W -/
  lock : Nat
  /-- R170. line fill -/
  lineFill : Nat
  /-- R171. picture fill -/
  picFill : Nat
  /-- R171. switch count -/
  switch : Nat
  /-- R667. channel enable -/
  enable : Bool
  /-- R179. output width -/
  ow : Nat
  /-- R179. output height -/
  oh : Nat
  /-- R149. crop x, y, width, height -/
  crop : List Nat
  /-- R147. horizontal taps -/
  ht : Nat
  /-- R147. vertical taps -/
  vt : Nat
  /-- R146. kernel select -/
  ksel : Nat
  /-- R153. video conversion preset -/
  conv : Nat
  /-- R155. output format, encoded as the input format -/
  ofmt : List Nat
  /-- R227. codec -/
  codec : Nat
  /-- R205. profile -/
  profile : Nat
  /-- R206. level -/
  level : Nat
  /-- R227. CTU size -/
  ctu : Nat
  /-- R227. tile columns -/
  tcols : Nat
  /-- R227. tile rows -/
  trows : Nat
  /-- R201. preset -/
  preset : Nat
  /-- R227. reference count -/
  refs : Nat
  /-- R227. key interval -/
  keyInt : Nat
  /-- R216. gradual-refresh period -/
  gdr : Nat
  /-- R215. random-access request count -/
  ra : Nat
  /-- R240. bit-rate mode -/
  filled : Bool
  /-- R241. target rate Rt -/
  rt : Nat
  /-- R241. peak rate Rp -/
  rp : Nat
  /-- R238. latency mode -/
  latMode : Nat
  /-- R238. L as set -/
  lset : Nat
  /-- R245. account spread -/
  spread : Nat
  /-- R245. account limit -/
  limit : Nat
  /-- R245. KEYW -/
  keyw : Nat
  /-- R202. the pack in force that defines the preset: its digest, and the base ceiling it declares for the codec; none for a
  built-in preset -/
  pack : Option (List Byte × Option Nat)
  /-- R221. metadata settings -/
  info : Meta
  /-- R456. hosted on a span group -/
  spanned : Bool
deriving DecidableEq, Repr, Inhabited

/-- The settings of channel n in a map of objects. -/
def cfgOf (od : Tab Val) (x : Security) (n : Nat) : Cfg :=
  let g := fun off j => odNat od (chI n off) j
  { w := g 0 1, h := g 0 2, num := g 0 3, den := g 0 4,
    fmt := [g 0 5, g 0 6, g 0 7, g 0 8, g 0 9, g 0 10],
    lock := g 1 1, lineFill := g 1 2, picFill := g 1 3, switch := g 1 4, enable := g 1 5 != 0,
    ow := g 2 1, oh := g 2 2, crop := [g 2 3, g 2 4, g 2 5, g 2 6], ht := g 2 7, vt := g 2 8, ksel := g 2 9,
    conv := g 4 1, ofmt := [g 5 1, g 5 2, g 5 3, g 5 4, g 5 5, g 5 6],
    codec := g 0x40 1, profile := g 0x40 2, level := g 0x40 3, ctu := g 0x40 4, tcols := g 0x40 5,
    trows := g 0x40 6, preset := g 0x40 7, refs := g 0x40 8, keyInt := g 0x40 9, gdr := g 0x40 10,
    ra := g 0x40 11,
    filled := g 0x60 1 != 0, rt := g 0x60 2, rp := g 0x60 3, latMode := g 0x60 4, lset := g 0x60 5,
    spread := g 0x60 6, limit := g 0x60 7, keyw := g 0x60 8,
    pack := if g 0x40 7 ≤ 3 then none else (x.packOf (g 0x40 7)).map (fun p => (p.meas, Config.packBase p.payload (g 0x40 7) (g 0x40 1))),
    info := metaOf od n,
    spanned := let h := odNat od 0x1318 (n + 1); decide (0x40 ≤ h) && decide (h ≤ 0x43) }

/-- JPEG XS (R227). -/
def Cfg.jxs (c : Cfg) : Bool := c.codec == 5
/-- A codec whose bands of a tile run one after another (R195). -/
def Cfg.serial (c : Cfg) : Bool := c.codec == 1 || c.codec == 2 || c.codec == 3
/-- Subsampling of the coded picture (R155). -/
def Cfg.osub (c : Cfg) : Nat := c.ofmt.getD 1 0
/-- Depth of the coded picture (R155). -/
def Cfg.odepth (c : Cfg) : Nat := c.ofmt.getD 2 0
/-- Colour model of the coded picture (R155). -/
def Cfg.omodel (c : Cfg) : Nat := c.ofmt.getD 0 0

/-! Time -/

/-- The frame period in ns (R168). -/
def Cfg.period (c : Cfg) : Frac := Frac.mk' (1000000000 * c.den) c.num
/-- One line in ns (R5). -/
def Cfg.line (c : Cfg) : Frac := Frac.mk' (1000000000 * c.den) (c.num * c.h)
/-- A time in ns as lines of the channel. -/
def Cfg.inLines (c : Cfg) (ns : Frac) : Frac := ns.div c.line
/-- Lines as ns. -/
def Cfg.ns (c : Cfg) (lines : Frac) : Frac := lines.mul c.line
/-- Input pixel rate, pixels per second (R670). -/
def Cfg.rate (c : Cfg) : Frac := Frac.mk' (c.w * c.h * c.num) c.den

/-! Source window -/

/-- Source width (R149). -/
def Cfg.sw (c : Cfg) : Nat := if c.crop.getD 2 0 = 0 then c.w else c.crop.getD 2 0
/-- Source height Hs (R149, R230). -/
def Cfg.sh (c : Cfg) : Nat := if c.crop.getD 3 0 = 0 then c.h else c.crop.getD 3 0
/-- Crop left (R149). -/
def Cfg.x0 (c : Cfg) : Nat := if c.crop.getD 2 0 = 0 then 0 else c.crop.getD 0 0
/-- Crop top y0 (R136, R149). -/
def Cfg.y0 (c : Cfg) : Nat := if c.crop.getD 3 0 = 0 then 0 else c.crop.getD 1 0
/-- The input lines that `s` output rows span, unrounded (R230). -/
def Cfg.span (c : Cfg) (s : Nat) : Frac := Frac.mk' (s * c.sh) c.oh
/-- e_l, the last input line that output line l reaches (R136). -/
def Cfg.lastInput (c : Cfg) (l : Nat) : Nat := c.y0 + ceilDiv ((l + 1) * c.sh) c.oh - 1

/-! Tiles and bands -/

/-- The coded width (R207). -/
def Cfg.cw (c : Cfg) : Nat :=
  if c.codec = 5 then c.ow else if c.codec = 4 then ceilDiv c.ow 16 * 16 else ceilDiv c.ow 8 * 8
/-- The coded height (R207). -/
def Cfg.chh (c : Cfg) : Nat :=
  if c.codec = 5 then c.oh else if c.codec = 4 then ceilDiv c.oh 16 * 16 else ceilDiv c.oh 8 * 8
/-- C, the picture's CTU columns (R194). -/
def Cfg.cols (c : Cfg) : Nat := ceilDiv c.cw c.ctu
/-- R, the picture's CTU rows (R194). -/
def Cfg.rows (c : Cfg) : Nat := ceilDiv c.chh c.ctu
/-- The first CTU column of tile column i (R194). -/
def Cfg.tileX (c : Cfg) (i : Nat) : Nat := if c.tcols = 0 then 0 else i * c.cols / c.tcols
/-- CTUs of one row of tile column i (R194). -/
def Cfg.tileW (c : Cfg) (i : Nat) : Nat := c.tileX (i + 1) - c.tileX i
/-- The first CTU row of tile row j (R194). -/
def Cfg.tileY (c : Cfg) (j : Nat) : Nat := if c.trows = 0 then 0 else j * c.rows / c.trows
/-- The widest band, in CTUs. -/
def Cfg.widest (c : Cfg) : Nat := (List.range c.tcols).foldl (fun a i => max a (c.tileW i)) 0
/-- Tiles two superblock rows high (R196). -/
def Cfg.paired (c : Cfg) : Bool := c.codec == 3 && decide (64 < c.rows)
/-- CTU rows per departure row (R229). -/
def Cfg.perRow (c : Cfg) : Nat := if c.paired then 2 else 1
/-- Departure rows of a picture (R229). -/
def Cfg.drows (c : Cfg) : Nat := ceilDiv c.rows c.perRow
/-- CTU rows of departure row r. -/
def Cfg.rowsIn (c : Cfg) (r : Nat) : Nat := min c.perRow (c.rows - r * c.perRow)
/-- Whether CTU row y is the first band of its tile: its neighbour operand is empty (R198). -/
def Cfg.topOfTile (c : Cfg) (y : Nat) : Bool :=
  if c.codec = 3 then y % c.perRow == 0
  else (List.range c.trows).any (fun j => c.tileY j == y)

/-! The cycle ceiling (R201, R202) -/

/-- The built-in base ceiling of a preset and codec (R201). -/
def baseCeiling (preset codec : Nat) : Option Nat :=
  match preset, codec with
  | 0, 1 => some 4400 | 0, 2 => some 3200 | 0, 3 => some 3800 | 0, 4 => some 2400
  | 1, 1 => some 6400 | 1, 2 => some 5600 | 1, 3 => some 6000 | 1, 4 => some 3600
  | 2, 1 => some 9600 | 2, 2 => some 8000 | 2, 3 => some 9000 | 2, 4 => some 5200
  | 3, 1 => some 16000 | 3, 2 => some 12800 | 3, 3 => some 14400 | 3, 4 => some 8000
  | _, _ => none

/-- The base ceiling of the channel; none where no preset in force gives one (R201, R202). -/
def Cfg.base (c : Cfg) : Option Nat :=
  if c.preset ≤ 3 then (if c.codec = 5 then some 1600 else baseCeiling c.preset c.codec)
  else c.pack.bind (fun p => if c.codec = 5 then some 1600 else p.2)

/-- Four times the factor F of R201. -/
def Cfg.f4 (c : Cfg) : Nat :=
  if c.omodel = 1 then 6 else match c.osub with
  | 0 => 6
  | 1 => 4
  | _ => 3

/-- The ceiling per CTU in cycles (R201): rounded to the nearest, halves up. -/
def Cfg.ceiling (c : Cfg) : Nat := (2 * (c.base.getD 0 * c.ctu * c.ctu * c.f4) + 4096) / 8192

/-- CTUs per second of `k` CTU columns (R203). -/
def Cfg.ctusPerSec (c : Cfg) (k : Nat) : Frac := Frac.mk' (k * c.rows * c.num) c.den
/-- Cycle demand of `k` CTU columns, cycles per second (R203). -/
def Cfg.demand (c : Cfg) (k : Nat) : Frac := (c.ctusPerSec k).mul (Frac.ofInt c.ceiling)
/-- A band of `k` CTUs at its ceiling, in ns (R204, R234). -/
def Cfg.bandNs (c : Cfg) (k : Nat) : Frac := Frac.mk' (k * c.ceiling * 10) 16

/-! The terms of the latency budget (R229–R238) -/

/-- S in lines (R230). -/
def Cfg.s (c : Cfg) : Frac := c.span c.ctu
/-- S_d in lines (R229, R230). -/
def Cfg.sd (c : Cfg) : Frac := c.span (c.ctu * c.perRow)
/-- A in lines (R234). [DEDUCED: log entry 64] -/
def Cfg.a (c : Cfg) : Frac := if c.jxs then c.span (2 * c.ctu) else c.sd
/-- Hs of R461 in lines, 0 outside a span group. -/
def Cfg.hs (c : Cfg) : Nat := if c.spanned then (c.inLines (Frac.ofInt 4000)).ceil.toNat else 0
/-- P in lines (R234, R461). -/
def Cfg.p (c : Cfg) : Nat := (if c.jxs then 4 else 8) + c.hs
/-- B in lines (R234). [DEDUCED: log entry 64] -/
def Cfg.b (c : Cfg) : Frac := c.inLines (c.bandNs c.widest)
/-- G in lines for `h` hops, 0 outside a pair (R234). -/
def Cfg.g (c : Cfg) (hops : Nat) : Frac :=
  if hops = 0 then Frac.ofInt 0 else c.inLines (Frac.ofInt ((2 + 3 * hops : Nat) * 1000))
/-- Q in bits (R232). -/
def Cfg.q (c : Cfg) : Int :=
  (((c.sd.sub (Frac.ofInt 1)).mul c.line).mul (Frac.mk' c.rp 1000000000)).floor
/-- Q_last in bits (R232). -/
def Cfg.qLast (c : Cfg) : Int :=
  (((c.sd.sub (Frac.ofInt (1 + 2 * c.lock))).mul c.line).mul (Frac.mk' c.rp 1000000000)).floor
/-- X in lines: (Q ÷ 64 Gb/s + 3 µs), 0 outside a span group (R234). -/
def Cfg.x (c : Cfg) : Frac :=
  if c.spanned then c.inLines ((Frac.mk' c.q 64).add (Frac.ofInt 3000)) else Frac.ofInt 0
/-- A + P + 2B + 1, unrounded. -/
def Cfg.core (c : Cfg) : Frac :=
  (c.a.add (Frac.ofInt (c.p + 1 : Nat))).add (c.b.add c.b)
/-- L_chain in lines (R235). [DEDUCED: log entry 64] -/
def Cfg.chain (c : Cfg) (g x : Frac) : Nat :=
  (Frac.max (c.sd.mul (Frac.ofInt 3)) ((c.core.add g).add x)).ceil.toNat
/-- The core depth Dc in lines (R235). -/
def Cfg.dc (c : Cfg) : Nat := c.core.ceil.toNat
/-- The reconstruction depth D in lines (R236). -/
def Cfg.d (c : Cfg) : Frac := (Frac.ofInt c.dc).add c.sd
/-- The reach in CTU rows (R192, R459). -/
def Cfg.reach (c : Cfg) : Int := 1 + (((Frac.ofInt c.h).sub (if c.spanned then c.d.add (c.sd.add c.sd) else c.d)).div c.s).floor
/-- L as the settings give it (R238). -/
def Cfg.l (c : Cfg) : Nat := if c.latMode = 0 then c.h else c.lset
/-- λ, the picture lag (R244, R461). -/
def Cfg.lambda (c : Cfg) : Nat := 1 + ceilDiv (c.dc + c.hs + 2 * c.lock) c.h
/-- μ, the row lag (R244, R461). -/
def Cfg.mu (c : Cfg) : Nat :=
  (((Frac.ofInt (c.dc + c.hs : Nat)).sub (c.a.add (Frac.ofInt c.p))).div c.sd).ceil.toNat
/-- The slot of departure row r in bits (R232). -/
def Cfg.slot (c : Cfg) (r : Nat) : Int := if r + 1 = c.drows then c.qLast else c.q
/-- The picture capacity in bits: the sum of its slots (R241). -/
def Cfg.capacity (c : Cfg) : Int := (c.drows - 1 : Nat) * c.q + c.qLast
/-- Departure instant of row r after the frame boundary, in lines (R231). -/
def Cfg.departs (c : Cfg) (r l : Nat) : Frac :=
  (Frac.ofInt (c.y0 + l : Nat)).add (c.sd.mul (Frac.ofInt r))

/-! Floor reserves (R248, R249) -/

/-- T of R248. -/
def Cfg.t (c : Cfg) : Nat :=
  let m := if c.codec = 2 then 32 else if c.codec = 1 ∧ c.ctu = 32 then 32 else 64
  let k := c.ctu / min c.ctu (if m = 0 then 1 else m)
  k * k
/-- Inter floor per CTU (R248). -/
def Cfg.interFloor (c : Cfg) : Nat :=
  match c.codec with
  | 1 => 80 | 2 => 64 | 3 => 112 | 4 => 192 | _ => 16
/-- Intra floor per CTU (R248). -/
def Cfg.intraFloor (c : Cfg) : Nat :=
  match c.codec with
  | 1 => 128 + 64 * c.t | 2 => 96 + 64 * c.t | 3 => 160 + 64 * c.t | 4 => 256 | _ => 16
/-- Floor per band (R248). -/
def Cfg.bandFloor (c : Cfg) : Nat :=
  match c.codec with
  | 1 => 320 | 2 => 256 | 3 => 192 | _ => 256
/-- The refresh column at phase p: first CTU column and the column after its last (R217). -/
def Cfg.refreshCols (c : Cfg) (p : Nat) : Nat × Nat :=
  if c.gdr = 0 then (0, 0) else (p * c.cols / c.gdr, (p + 1) * c.cols / c.gdr)
/-- The widest refresh column in CTUs (R241). -/
def Cfg.widestRefresh (c : Cfg) : Nat :=
  (List.range c.gdr).foldl (fun a p => max a ((c.refreshCols p).2 - (c.refreshCols p).1)) 0
/-- CTUs in common of two half-open ranges. -/
def overlap (a b x y : Nat) : Nat := min b y - max a x
/-- The floor reserve of the band of tile column i, of a key picture or at a phase (R249). -/
def Cfg.bandReserve (c : Cfg) (i : Nat) (key : Bool) (phase : Nat) : Nat :=
  let w := c.tileW i
  let intra := if key || c.refs == 0 then w
    else overlap (c.tileX i) (c.tileX (i + 1)) (c.refreshCols phase).1 (c.refreshCols phase).2
  c.bandFloor + intra * c.intraFloor + (w - intra) * c.interFloor
/-- The floor reserve of departure row r (R249). -/
def Cfg.rowReserve (c : Cfg) (r : Nat) (key : Bool) (phase : Nat) : Nat :=
  c.rowsIn r * ((List.range c.tcols).map (fun i => c.bandReserve i key phase)).sum
/-- The floor reserve of a picture without its fixed part (R249). -/
def Cfg.picReserve (c : Cfg) (key : Bool) (phase : Nat) : Nat :=
  ((List.range c.drows).map (fun r => c.rowReserve r key phase)).sum
/-- The floor reserve of a departure row at its largest (R241): intra everywhere for a key picture, else with
the widest refresh column in intra floor. -/
def Cfg.rowReserveMax (c : Cfg) (r : Nat) (key : Bool) : Nat :=
  let intra := if key || c.refs == 0 then c.cols else min c.cols c.widestRefresh
  c.rowsIn r * (c.tcols * c.bandFloor + intra * c.intraFloor + (c.cols - intra) * c.interFloor)
/-- The floor reserve of a picture at its largest, without its fixed part (R241). -/
def Cfg.picReserveMax (c : Cfg) (key : Bool) : Nat :=
  ((List.range c.drows).map (fun r => c.rowReserveMax r key)).sum
/-- The settings that a stream's levels, its elements' sizes and its slate depend on, as numbers. -/
def Cfg.fixedKey (c : Cfg) : List Nat :=
  [c.codec, c.profile, c.level, c.ctu, c.tcols, c.trows, c.ow, c.oh, c.refs, c.gdr, c.rt, c.rp, c.num, c.den,
   b2n c.filled] ++ c.ofmt

/-! Stripes and loads (R18, R137, R190, R670) -/

/-- The stripes the channel is split into (R18): 1 when its rate is at most 4.0 Gpix/s. -/
def Cfg.stripes (c : Cfg) : Nat := max 1 (c.rate.div (Frac.ofInt 4000000000)).ceil.toNat
/-- The first tile column of stripe i of k (R18). -/
def Cfg.stripeTile (c : Cfg) (k i : Nat) : Nat := if k = 0 then 0 else i * c.tcols / k
/-- The first output column of stripe i of k. -/
def Cfg.stripeX (c : Cfg) (k i : Nat) : Nat := min c.ow (c.tileX (c.stripeTile k i) * c.ctu)
/-- The scaler's source position of output sample i, 16 fraction bits (R144). -/
def scalePos (s d i : Nat) : Int := if d = 0 then 0 else ((2 * i + 1) * s * 65536 / (2 * d) : Nat) - 32768
/-- The output columns whose pixels the formatting of columns a to e − 1 reads: C[2i − 1] and C[2i + 1] beside each chroma
sample (R137, R155). -/
def Cfg.blendCols (c : Cfg) (a e : Nat) : Nat × Nat :=
  if c.omodel = 1 ∨ c.osub = 0 then (a, e) else (2 * (a / 2) - 1, min c.ow (2 * ceilDiv e 2))
/-- The input columns whose samples the upsampling of columns `lo` to `hi` reads: for an odd column, the chroma co-sited with
the even columns from three before it to three after it (R137, R141). -/
def Cfg.chromaCols (c : Cfg) (lo hi : Int) : Int × Int :=
  if c.fmt.getD 0 0 = 1 ∨ c.fmt.getD 1 0 = 0 then (lo, hi)
  else
    let first := if lo % 2 = 1 then lo - 3 else if lo < hi then lo - 2 else lo
    let last := if hi % 2 = 1 then hi + 3 else if lo < hi then hi + 2 else hi
    (max 0 first, min ((c.w : Int) - 1) last)
/-- The input columns that output columns a to e − 1 read through the pipe's filters: output chroma, horizontal scaler and
chroma upsampling (R137, R141, R144, R155). [DEDUCED: log entry 44] -/
def Cfg.sourceCols (c : Cfg) (a e : Nat) : Nat :=
  let o := c.blendCols a e
  let lo := max 0 (scalePos c.sw c.ow o.1 / 65536 - (c.ht / 2 : Nat) + 1)
  let hi := min ((c.sw : Int) - 1) (scalePos c.sw c.ow (o.2 - 1) / 65536 + (c.ht / 2 : Nat))
  let r := c.chromaCols (c.x0 + lo) (c.x0 + hi)
  (r.2 - r.1 + 1).toNat

/-! Stalls (R263) -/

/-- Bands of a departure row over all stripes (R263). -/
def Cfg.bandsPerRow (c : Cfg) : Nat := c.tcols * c.perRow
/-- Departure units of a departure row (R195, R263). -/
def Cfg.unitsPerRow (c : Cfg) : Nat := c.tcols
/-- The stall reservation of a channel with `flows` counted flows (R263). -/
def Cfg.reservation (c : Cfg) (flows : Nat) : Nat :=
  let alive := (c.d.div c.sd).ceil.toNat + 1
  let per := (if c.jxs then 1 else 3) * c.bandsPerRow + c.perRow + c.unitsPerRow * flows
  alive * per

/-- A number of the channel's cadence: expected boundary k after the origin, in ns (R168). -/
def cadence (num den k : Nat) : Nat := ((Frac.mk' (k * 1000000000 * den) num).round).toNat

end Sys2Proof.Machine
end

