-- ==== Sys2Proof/Machine/Sets.lean ====
section
/-! DEFINITION. Sets.lean: stage sets and how one finishes (R47, R78–R84). -/

namespace Sys2Proof.Machine

/-- Stage set k (R47). -/
def State.set (s : State) (k : Nat) : StageSet := tgetD s.sets k {}
/-- The machine with stage set k changed. -/
def State.setSet (s : State) (k : Nat) (x : StageSet) : State := { s with sets := tset s.sets k x }
/-- The set of the device's own start commit (R34, R447), which no session owns. [DEDUCED: log entry 24] -/
def startSet : Nat := 17
/-- The sets in which a coordinator holds the single-object commits that run in two phases (R45, R70, R75), which no session
owns. [DEDUCED: log entry 46] -/
def rwSets : List Nat := [18, 19, 20, 21, 22, 23, 24, 25]
/-- The set in which a manager holds the commit that brings node k, which joins, to the cluster's state (R449). -/
def joinSet (k : Nat) : Nat := 33 + k
/-- The stage set numbers: 1–8 (R47), 9–16 for sets 1–8 of the peer of a mirror pair, which this unit holds as a
member (R75), the start commit's, those of single-object commits, 26–33 for the peer's, and 34–48 for nodes that join (R449). -/
def setNumbers : List Nat :=
  [1, 2, 3, 4, 5, 6, 7, 8, 9, 10, 11, 12, 13, 14, 15, 16, startSet] ++ rwSets ++ [26, 27, 28, 29, 30, 31, 32, 33] ++
    (List.range 15).map (fun k => joinSet (k + 1))
/-- A number that no stage set has. -/
def noSet (k : Nat) : Bool := k == 0 || decide (48 < k)
/-- Armed or deferred (R64, R79). -/
def StageSet.armed (x : StageSet) : Bool := x.state == 2 || x.state == 3

/-- A set's staged write of an object, if it holds one. -/
def StageSet.staged (x : StageSet) (i j : Nat) : Option Val := tget x.writes (okey i j)

/-- OD 0x1201.k (R79). -/
def StageSet.word (x : StageSet) : Nat :=
  x.state * 0x10000000 + x.deferrals % 16 * 0x1000000 + x.reason * 0x10000 + x.writes.length % 8192

/-- The 16-byte record of a stage-set notice (R83). `what`: 1 applied, 2 deferred, 3 abandoned, 4 aborted. -/
def StageSet.record (x : StageSet) (k what : Nat) : List Byte :=
  leBytes 1 1 ++ leBytes 1 what ++ leBytes 1 k ++ leBytes 1 x.reason ++ leBytes 1 x.deferrals ++ leBytes 1 x.refch ++
    leBytes 2 x.result.value ++ leBytes 8 (if x.refch = 0xFF then 0 else x.epoch)

/-- The notice of a set to its owning session (R83, R115), and the flag of OD 0x1200.08 (R84); a single-object commit has
neither. -/
def State.setNotice (s : State) (k what : Nat) : State :=
  let x := s.set k
  if startSet < k then s
  else
    let s1 := if x.orphan then s else s.notify x.owner 0 4 x.due (x.record k what)
    { s1 with od := odSetFlag s1.od 0x1200 8 (what - 1) }

/-- The timetable entries of a set: fire, ready, decision and cutoff, and what it booked under its number (R284). -/
def State.unbookSet (s : State) (k : Nat) : State :=
  let ref := (s.set k).order
  s.ttRemove (fun e => (e.kind == 1 || e.kind == 5 || e.kind == 6 || e.kind == 7) && e.target == k ||
    (e.kind == 2 || e.kind == 3 || e.kind == 8) && e.ref == ref)

/-- A message sent (R446, R475). Node 0x10 stands for the peer across the pair link. -/
def State.say (s : State) (dst kind : Nat) (args : List Nat) : State :=
  { s with cluster := { s.cluster with out := (⟨dst, kind, args⟩ :: s.cluster.out).take 64 } }

/-- The channel at whose boundary a write of an object applies (R55, R376, R379): the channel whose block, host or video
flow it is; none for a write that applies at the tick of T. Fence values change at a tick (R164). -/
def chanOfKey (od writes : Tab Val) (k : Nat) : Option Nat :=
  let i := k / 256
  let j := k % 256
  if 0x4000 ≤ i ∧ i < 0x8000 then
    let o := (i - 0x4000) % 0x80
    if (o = 6 ∧ j = 3) ∨ (0x20 ≤ o ∧ o < 0x40 ∧ o % 2 = 0 ∧ j = 13) then none else some ((i - 0x4000) / 0x80)
  else if 0x3000 ≤ i ∧ i < 0x4000 then
    let f := (i - 0x3000) / 4
    let num := fun (j : Nat) => match tget writes (okey (flI f 0) j) with
      | some v => (valInt v).toNat
      | none => odNat od (flI f 0) j
    if 0x20 ≤ num 3 then none else some (num 2)
  else if i = 0x1318 then some (j - 1)
  else none

/-- The writes of a set that apply at channel n's boundary (R55). -/
def StageSet.chanWrites (x : StageSet) (od : Tab Val) (n : Nat) : Tab Val :=
  x.writes.filter (fun kv => chanOfKey od x.writes kv.1 == some n)
/-- The channels at whose boundaries writes of a set apply, ascending. -/
def StageSet.chans (x : StageSet) (od : Tab Val) : List Nat :=
  channels.filter (fun n => x.writes.any (fun kv => chanOfKey od x.writes kv.1 == some n))

/-- Every surface fence that a set names is signalled (R61, R164): its target is 0, or the value in force has reached it.
[DEDUCED: log entry 40] -/
def State.fencesOk (s : State) (x : StageSet) : Bool :=
  x.writes.all (fun kv =>
    let i := kv.1 / 256
    let j := kv.1 % 256
    let o := (i - 0x4000) % 0x80
    let value : Option Nat :=
      if i < 0x4000 ∨ 0x8000 ≤ i then none
      else if o = 6 ∧ j = 2 then some 3
      else if 0x20 ≤ o ∧ o < 0x40 ∧ o % 2 = 0 ∧ j = 12 then some 13
      else none
    match value with
    | none => true
    | some v =>
      let target := (valInt kv.2).toNat
      target == 0 || decide ((s.nat i v + 4294967296 - target) % 4294967296 < 2147483648))

/-- The channels for which a set has booked an action of a kind, 2 start or 3 stop (R667). -/
def State.bookedChans (s : State) (k kind : Nat) : List Nat :=
  ((s.ttl 0).filter (fun e => e.kind == kind && e.ref == (s.set k).order)).map (fun e => e.target)

/-- A channel context without what a set has laid ready for the channel's boundary. -/
def Chan.unprime (c : Chan) (w : Nat × Tab Val) (stops : Bool) : Chan :=
  { c with pend := c.pend.filter (fun u => u != w),
           stopping := if stops && c.stopping == some w.1 then none else c.stopping }
/-- What a set has laid ready for its channels' boundaries taken back (R40, R58). -/
def State.unprime (s : State) (k : Nat) : State :=
  let x := s.set k
  let stops := s.bookedChans k 3
  { s with chan := s.chan.map (fun kv => (kv.1, kv.2.unprime (x.due, x.chanWrites s.od kv.1) (stops.contains kv.1))) }

/-- The audio groups that a set enables (R389). -/
def StageSet.groups (x : StageSet) : List Nat := (List.range 8).filter (fun g => x.staged (0x1B20 + g) 1 == some (.num 1))

/-- The audio groups that a set has armed are armed no more (R389). -/
def State.disarmGroups (s : State) (k : Nat) : State :=
  ((s.set k).groups.filter (fun g => s.nat (0x1B20 + g) 3 == 1)).foldl (fun (t : State) g =>
    ({ t with audio := { t.audio with start := tdel t.audio.start g } }).put (0x1B20 + g) 3 0) s

/-- A set ends without applying (R41, R60, R62, R70–R72): `what` 3 abandoned or 4 aborted, with its reason, result code and
offending object; no write of it applies. A coordinator sends ABORT to its members (R70). One whose commit had been decided
splits the cluster (R73). -/
def State.endSetWith (s : State) (k what reason : Nat) (c : Code) (off : Nat) : State :=
  let s0 := ((s.unprime k).disarmGroups k).unbookSet k
  let x := s0.set k
  let s1 := (tkeys x.members).foldl (fun (t : State) m => t.say m 0x17 [k]) s0
  (s1.setSet k { x with state := what + 2, reason := reason, result := c, offending := off, finished := s.now,
                        split := x.readyPassed && (x.coordinator.isSome || !x.members.isEmpty) }).setNotice k what

/-- A set ends with the result ABORTED (R41, R60, R62). -/
def State.endSet (s : State) (k what reason : Nat) : State := s.endSetWith k what reason .aborted (s.set k).offending

/-- The sets armed or deferred. -/
def State.armedSets (s : State) : List Nat := setNumbers.filter (fun k => (s.set k).armed)

end Sys2Proof.Machine
end

