-- ==== Sys2Proof/Machine/Channel.lean ====
section
/-! DEFINITION. Channel.lean: channel contexts, their cadence, and how they start and stop (R5, R16, R46, R168,
R667, R672). -/

namespace Sys2Proof.Machine

/-- Channel n's context. -/
def State.ch (s : State) (n : Nat) : Chan := tgetD s.chan n {}
/-- The machine with channel n's context changed. -/
def State.setCh (s : State) (n : Nat) (c : Chan) : State := { s with chan := tset s.chan n c }

/-- Channel n's settings in force. -/
def State.cfg (s : State) (n : Nat) : Cfg := cfgOf s.od s.sec n
/-- The L in force of channel n (R238). -/
def State.lInForce (s : State) (n : Nat) : Nat := s.nat (chI n 0x68) 2

/-- The input source of channel n: 0–3 a Belvedere, 4 Pavilions, 0xFF its lanes (R667). -/
def State.source (s : State) (n : Nat) : Nat := s.nat (chI n 0x70) 1

/-- Expected boundary k of a channel, PTP ns (R168). -/
def Chan.expected (c : Chan) (k : Nat) : Nat := c.origin + cadence c.rateNum c.rateDen k
/-- The frame period of a channel's frozen cadence, ns (R168). -/
def Chan.period (c : Chan) : Frac := Frac.mk' (1000000000 * c.rateDen) c.rateNum
/-- The least boundary number whose expected instant is at or after `t`, not below `lo` (R52). -/
def Chan.boundaryAt (c : Chan) (t lo : Nat) : Nat :=
  let k0 := (((Frac.ofInt ((t : Int) - c.origin)).div c.period).floor).toNat
  let k := if c.expected k0 < t then (if c.expected (k0 + 1) < t then k0 + 2 else k0 + 1) else k0
  max k lo
/-- The channels that run. -/
def State.runningChans (s : State) : List Nat := channels.filter (fun n => (s.ch n).running)
/-- The channels that run or wait for their first boundary. -/
def State.liveChans (s : State) : List Nat :=
  channels.filter (fun n => (s.ch n).running || (s.ch n).starting.isSome)

/-- The quarters of a QMASK (R16). -/
def State.quartersOf (s : State) (n : Nat) : List Nat := bits (s.nat 0x2010 (n + 1)) 4

/-! The published topology (R444, R446) -/

/-- Byte j of node k's record in a published topology (R446). -/
def topoAt (t : List Byte) (k j : Nat) : Nat := ((t.drop (8 * k)).getD j 255).toNat
/-- A node of the published topology: an absent node's record is all 0xFF. -/
def topoHas (t : List Byte) (k : Nat) : Bool := topoAt t k 1 != 255
/-- A direct link between two nodes, as either one's record shows it. -/
def topoLinked (t : List Byte) (a b : Nat) : Bool :=
  bit (topoAt t a 4 + 256 * topoAt t a 5) b || bit (topoAt t b 4 + 256 * topoAt t b 5) a
/-- The tree of R444: every worker's parent lies one level above it, at most two levels below the manager, which has at most 4
children and a depth-1 worker at most 3. [DEDUCED: log entry 85] -/
def topoTree (t : List Byte) : Bool :=
  let here := ((List.range 16).drop 1).filter (topoHas t)
  let kids := fun (k : Nat) => (here.filter (fun j => topoAt t j 0 == k)).length
  decide (kids 0 ≤ 4) && here.all (fun k =>
    let p := topoAt t k 0
    if topoAt t k 1 = 1 then p == 0 && decide (kids k ≤ 3)
    else topoAt t k 1 == 2 && here.contains p && topoAt t p 1 == 1 && kids k == 0)
/-- The published nodes among some are linked pairwise (R444). [DEDUCED: log entry 85] -/
def topoMeshed (t : List Byte) (ms : List Nat) : Bool :=
  let here := ms.filter (topoHas t)
  here.all (fun a => here.all (fun b => a == b || topoLinked t a b))
/-- A topology that keeps R444, its span groups as its records name them. -/
def topoOk (t : List Byte) : Bool :=
  topoTree t && [0, 1, 2, 3].all (fun g => topoMeshed t ((List.range 16).filter (fun k => topoAt t k 3 == g)))

/-! Stalls (R263, R264) -/

/-- Stall k, if in use. -/
def State.stall (s : State) (k : Nat) : Option Stall := tget s.mews.stalls k
/-- The machine with stall k changed. -/
def State.setStall (s : State) (k : Nat) (x : Stall) : State :=
  { s with mews := { s.mews with stalls := tset s.mews.stalls k x } }
/-- The machine with stall k freed. -/
def State.freeStall (s : State) (k : Nat) : State :=
  { s with mews := { s.mews with stalls := tdel s.mews.stalls k } }
/-- Stalls in use: STATE 2 to 6 (R288). -/
def State.stallsInUse (s : State) : Nat :=
  (s.mews.stalls.filter (fun kv => decide (2 ≤ kv.2.state) && decide (kv.2.state ≤ 6))).length
/-- The least number that is no key of a table with strictly rising keys, from `k` on. [DEDUCED: log entry 70] -/
def leastFree {α : Type} : Tab α → Nat → Nat
  | [], k => k
  | (a, _) :: r, k => if k < a then k else leastFree r (max k (a + 1))
/-- A stall taken into use (R263), the peak of OD 0x2000.05 kept. [DEDUCED: log entry 70] -/
def State.addStall (s : State) (x : Stall) : State :=
  let s1 := s.setStall (leastFree s.mews.stalls 0) x
  s1.raise 0x2000 5 s1.stallsInUse
/-- The stall word of R264; a free stall reads 0. -/
def stallWord : Option Stall → Nat
  | none => 0
  | some x =>
    x.state * 2 ^ 61 + x.kind * 2 ^ 57 + x.opmask % 32 * 2 ^ 52 + x.list * 2 ^ 49 + x.chan * 2 ^ 42 + x.row * 2 ^ 33 +
      x.col % 64 * 2 ^ 27 + x.pav % 64 * 2 ^ 21 + min x.runs 3 * 2 ^ 19

/-- Pavilion p. -/
def State.pav (s : State) (p : Nat) : Engine := tgetD s.mews.pavs p {}
/-- The machine with Pavilion p changed. -/
def State.setPav (s : State) (p : Nat) (e : Engine) : State :=
  { s with mews := { s.mews with pavs := tset s.mews.pavs p e } }
/-- Entropy unit e. -/
def State.eu (s : State) (e : Nat) : Engine := tgetD s.mews.eus e {}
/-- The machine with entropy unit e changed. -/
def State.setEu (s : State) (e : Nat) (x : Engine) : State :=
  { s with mews := { s.mews with eus := tset s.mews.eus e x } }

/-- The Mews with every stall of a channel dropped, its engines freed and its berths given up (R263, R667). -/
def Mews.dropChannel (m : Mews) (n : Nat) : Mews :=
  let gone := (m.stalls.filter (fun kv => kv.2.chan == n && kv.2.kind != 7)).map Prod.fst
  { m with
    stalls := m.stalls.filter (fun kv => !gone.contains kv.1)
    pavs := m.pavs.map (fun kv => (kv.1, { kv.2 with
      busy := kv.2.busy.bind (fun k => if gone.contains k then none else some k),
      berths := kv.2.berths.filter (fun b => b.1 != n) })) }

/-- A channel ends: it runs no more; writes of fired sets that waited for its boundary apply (R58); what it has
coded is finished and departs (R34, R667). Its reservation and its placement are given up (R263, R670). -/
def State.stopChannel (s : State) (n : Nat) : State :=
  let c := s.ch n
  let came := c.pend.filter (fun w => decide (w.1 / 100 ≤ s.tick))
  let s0 := s.setCh n { c with running := false, starting := none, stopping := none,
                               pend := c.pend.filter (fun w => !decide (w.1 / 100 ≤ s.tick)) }
  let s1 : State := { s0 with od := odSet s0.od (chI n 0x78) 1 0 }
  let s1 : State := { s1 with od := came.foldl (fun m w => odApply m w.2) s1.od }
  { s1 with od := odSet (odSet (odSet s1.od 0x2010 (n + 1) 0) 0x2004 (n + 1) 0) 0x2000 3
              ((s1.nat 0x2000 3 : Int) - s1.nat 0x2004 (n + 1)) }

/-- The machine as it will stand once the writes that wait for channel n's boundary are in force (R55).
[DEDUCED: log entry 63] -/
def State.withPend (s : State) (n : Nat) : State :=
  { s with od := (s.ch n).pend.foldl (fun m w => odApply m w.2) s.od }

/-- What a command does to a channel that waits for its first boundary: it finds the settings that the boundary brings
into force (R55, R672), and where it brings no boundary, the settings in force stay as they were. [DEDUCED: log entry 63] -/
def State.onStarting (s : State) (n : Nat) (f : State → State) : State :=
  let c := s.ch n
  if c.starting.isNone ∨ c.pend.isEmpty then f s
  else
    let t := f (s.withPend n)
    if (t.ch n).running then t
    else
      let keys := c.pend.flatMap (fun w => w.2.map Prod.fst)
      { t with od := keys.foldl (fun m k => odPut m (k / 256) (k % 256) (odGet s.od (k / 256) (k % 256))) t.od }

/-- A channel waits for its first boundary at or after `t` (R667, R672). -/
def State.startChannel (s : State) (n t : Nat) : State :=
  let c := s.ch n
  if c.running then s
  else
    let u := s.withPend n
    let g := u.cfg n
    let s1 := s.put (chI n 0x78) 1 (if u.source n = 0xFF then 0 else 1)
    let s2 : State := { s1 with dec := tset s1.dec n {} }
    let s3 := if s.pair.state = 3 ∧ s.pair.link then s2.say 0x10 0x42 [n, 0] else s2
    s3.setCh n { starting := some t, origin := c.origin, pend := c.pend,
                 rateNum := g.num, rateDen := g.den, stripes := c.stripes,
                 slateAu := some (Config.slateBits (g.fixedKey ++ (odBytes u.od (chI n 6) 1).map BitVec.toNat)) }

/-- A set goes ahead (R60, R71): its channels' writes wait for their boundaries, and the channels that it stops stop at
theirs (R55, R58, R667). -/
def State.prime (s : State) (k : Nat) : State :=
  let x := s.set k
  let wait := (x.chans s.od).filter (fun n => s.liveChans.contains n || (s.bookedChans k 2).contains n)
  let stops := s.bookedChans k 3
  let s1 := s.setSet k { x with readyPassed := true, decision := 1, primed := wait }
  let s2 := wait.foldl (fun (t : State) n =>
    let c := t.ch n
    t.setCh n { c with pend := c.pend ++ [(x.due, x.chanWrites s.od n)] }) s1
  stops.foldl (fun (t : State) n =>
    let c := t.ch n
    t.setCh n { c with stopping := if c.stopping.isSome then c.stopping else some x.due }) s2

/-- A boundary of channel n that is stamped before the ready point of a set that it is to apply: the set's readiness is
decided then (R8, R55, R61). [DEDUCED: log entry 38] -/
def State.early (s : State) (n expected : Nat) : State :=
  s.armedSets.foldl (fun (t : State) k =>
    let x := t.set k
    if x.readyPassed || x.coordinator.isSome || !x.members.isEmpty || decide (expected < x.due) ||
        !((x.chans t.od).contains n || (t.bookedChans k 3).contains n) then t
    else if t.fencesOk x then t.prime k else t.setSet k { x with report := 2 }) s

/-- Every channel stops at once and its coaches with it: the media blocks are gated (R30); its output policy begins at
its next frame boundary when that sends slate pictures or nothing, and with the departures still owed when it sends null
packets (R37). -/
def State.stopAll (s : State) : State :=
  s.liveChans.foldl (fun t n =>
    let c := t.ch n
    let e := c.boundaryAt t.now (c.epoch + 1)
    let t1 :=
      if !c.running then t
      else if t.nat 0x1002 2 = 1 then t.setCh n { c with policy := some c.depE }
      else t.setCh n { c with policy := some e, depE := e, depRow := 0 }
    let u := t1.stopChannel n
    { u with mews := u.mews.dropChannel n }) s

end Sys2Proof.Machine
end

