-- ==== Sys2Proof/Machine/Flows.lean ====
section
/-! DEFINITION. Flows.lean: which flows a channel has, and their running state (R350–R355, R376, R379). -/

namespace Sys2Proof.Machine

/-- Flow f's running state. -/
def State.fl (s : State) (f : Nat) : Flow := tgetD s.flow f {}
/-- The machine with flow f's running state changed. -/
def State.setFl (s : State) (f : Nat) (x : Flow) : State := { s with flow := tset s.flow f x }
/-- Flow f's setting. -/
def State.flNat (s : State) (f part j : Nat) : Nat := s.nat (flI f part) j

/-- The flows enabled in a map of objects, ascending (R379). -/
def enabledFlows (od : Tab Val) : List Nat :=
  od.filterMap (fun kv =>
    let i := kv.1 / 256
    if 0x3000 ≤ i ∧ i < 0x4000 ∧ (i - 0x3000) % 4 = 0 ∧ kv.1 % 256 = 1 ∧ kv.2 ≠ .num 0 then some ((i - 0x3000) / 4)
    else none)

/-- Content that is a channel's video or its TS programme (R379). -/
def videoContent (od : Tab Val) (f : Nat) : Bool := decide (odNat od (flI f 0) 3 ≤ 1)
/-- A flow whose transport is a PCIe ring (R350). -/
def onRing (od : Tab Val) (f : Nat) : Bool := let t := odNat od (flI f 0) 4; t == 4 || t == 5
/-- A flow whose transport carries MPEG-2 TS (R350). -/
def carriesTs (od : Tab Val) (f : Nat) : Bool := let t := odNat od (flI f 0) 4; t == 1 || t == 2 || t == 5
/-- The enabled flows that send a channel's video or TS programme. -/
def flowsOf (od : Tab Val) (n : Nat) : List Nat :=
  (enabledFlows od).filter (fun f => videoContent od f && odNat od (flI f 0) 2 == n)
/-- n_f of R263: a flow with path B on a NET transport counts twice. -/
def flowCount (od : Tab Val) (n : Nat) : Nat :=
  ((flowsOf od n).map (fun f => if !onRing od f && odFlag od (flI f 0) 8 then 2 else 1)).sum

/-- A flow at its next epoch, frame boundary `e` of its source channel: the packets generated before it are noted
(R483). -/
def State.flowEpoch (e : Nat) (s : State) (f : Nat) : State :=
  let y := s.fl f
  s.setFl f { y with counts := tset (y.counts.filter (fun kv => decide (e ≤ kv.1 + 4))) e y.generated }

end Sys2Proof.Machine
end

