-- ==== Sys2Proof/Machine/Modes.lean ====
section
/-! DEFINITION. Modes.lean: mode transitions and entry to SAFE (R22–R42, R667). -/

namespace Sys2Proof.Machine

/-! The DRAM channels' power state follows the mode (R514) -/

/-- DRAM channel k. -/
def State.dch (s : State) (k : Nat) : DramChan := tgetD s.dram k {}
/-- A channel changed, with the status that follows from it: postponement forbidden on any channel (R523). -/
def State.setDch (s : State) (k : Nat) (c : DramChan) : State :=
  let d := tset s.dram k c
  ({ s with dram := d }).put 0x1801 4 (b2n (d.any (fun kv => kv.2.forbid)))
/-- A mode in which the ranks rest in self-refresh (R514). -/
def Mode.resting : Mode → Bool
  | .service => true | .hold => true | _ => false

/-- The channels as a mode leaves them (R514): in self-refresh in SERVICE and HOLD, out of it elsewhere. -/
def State.restDram (s : State) : State :=
  (tkeys s.dram).foldl (fun t k =>
    let c := t.dch k
    if s.mode.resting && (c.state == 2 || c.state == 6) then
      t.setDch k { c with state := 4, debt := 0, credit := 0, owed := 0, paying := 0, owing := [], down := [] }
    else if !s.mode.resting && !s.clk.stopped && c.state == 4 then t.setDch k { c with state := 2, debt := 0, credit := 0, owing := [] }
    else t) s


/-! The Lodge's levels follow the mode (R550, R551) -/

/-- The machine with the Lodge changed. -/
def State.setLodge (s : State) (l : Lodge) : State := { s with lodge := l }
/-- An event of class 0x12 (R570); one recorded in DORMANT carries its Lodge stamp and waits for the end of STARTING. -/
def State.lodgeEvent (s : State) (what source : Nat) (value : Int) : State :=
  if s.mode = .dormant then
    s.setLodge { s.lodge with events := s.lodge.events ++ [evRec 0x12 what source (s.lodge.time / 10) value] }
  else s.ev 0x12 what source value

/-- An event of class 0x12 that the Lodge keeps while the device enters DORMANT, under its Lodge stamp (R570). -/
def State.keepEvent (s : State) (what source : Nat) (value : Int) : State :=
  s.setLodge { s.lodge with events := s.lodge.events ++ [evRec 0x12 what source (s.lodge.time / 10) value] }

/-- The rule is active in a mode (R550). [DEDUCED: log entry 28] -/
def LodgeRule.active (r : LodgeRule) (m : Mode) : Bool := bit r.modes m.code
/-- Some true condition belongs to a rule with one of the actions named. -/
def Lodge.anyTrue (l : Lodge) (actions : List Nat) : Bool :=
  l.conds.any (fun k => (l.rules[k]?).any (fun r => actions.contains r.action))
/-- Every wake is held (R551, R562). -/
def Lodge.holding (l : Lodge) : Bool := l.anyTrue [2] || l.thermalHold

/-- ALERT_N follows the true conditions of its rules, and outside DORMANT of the brownout rules (R551, R560); changes raise events.
[DEDUCED: log entry 29] -/
def State.alertLevel (s : State) (rule : Nat) (value : Int) : State :=
  let low := s.lodge.anyTrue [3] || (s.mode != .dormant && s.lodge.anyTrue [5])
  if low = s.lodge.alert then s
  else (s.setLodge { s.lodge with alert := low }).lodgeEvent (if low then 2 else 3) (if low then rule else 0) (if low then value else 0)

/-- The Lodge's rules in a mode just entered (R550, R551): a condition whose rule is not active in it no longer counts.
[DEDUCED: log entry 28] -/
def State.rulesInMode (s : State) : State :=
  let live := s.lodge.conds.filter (fun k => (s.lodge.rules[k]?).any (fun r => r.active s.mode))
  let alert := live.find? (fun k => (s.lodge.rules[k]?).any (fun r => r.action == 3))
  if live = s.lodge.conds then s else (s.setLodge { s.lodge with conds := live }).alertLevel (alert.getD 0) 0

/-! Transitions -/

/-- A transition completes (R24, R34, R635): the mode, the trigger of OD 0x1001.07 and a black-box entry. -/
def State.toMode (s : State) (t : Mode) (trigger : Nat) : State :=
  let s0 : State := if s.mode = .test then
      { s with perf := { s.perf with test := none }, od := if s.nat 0x1E10 6 = 1 then odSet s.od 0x1E10 6 4 else s.od }
    else s
  let s1 := (s0.put 0x1001 7 trigger).log 0x40 0xFFFF 0xFF [s.mode.code * 256 + t.code, trigger]
  let s2 : State := { s1 with held := if t = .hold then s.mode else s1.held, mode := t, moving := none }
  s2.restDram.rulesInMode

/-- Whether the table of R34 holds a transition that a host request or commit may make. [DEDUCED: log entry 20] -/
def requestable (f t : Mode) : Bool :=
  match f, t with
  | .dormant, _ => false
  | .starting, _ => false
  | _, .dormant => true
  | .service, .standby => true
  | .standby, .service => true
  | .standby, x => x.media
  | .encode, .transcode => true
  | .transcode, .encode => true
  | .safe, .service => true
  | x, .standby => x.media
  | x, .hold => x.media
  | .hold, x => x.media
  | _, _ => false

/-- Whether R34 allows a request from the machine's mode; from HOLD only the mode it left. [DEDUCED: log entry 20] -/
def State.mayRequest (s : State) (t : Mode) : Bool :=
  requestable s.mode t && (s.mode != .hold || t == .dormant || t == s.held)

/-- The mode that channel n is in: while a transition executes, the target from the channel's own boundary on (R36). -/
def State.chanMode (s : State) (n : Nat) : Mode :=
  match s.moving with
  | some (m, _, l) => if l.contains n then s.mode else m
  | none => s.mode

/-- The lead that R34 and R39 set for a transition, ns. -/
def modeLead (f : Mode) : Nat := if f = .hold then 1000000 else 0

/-- A set carries a mode request (R24). -/
def StageSet.modeWrite (x : StageSet) : Option Mode := (x.staged 0x1001 2).map (fun v => Mode.ofCode (valInt v).toNat)

/-- OD 0x1001.06 (R28). -/
def State.transition (s : State) : Nat :=
  if s.moving.isSome then 2
  else if s.armedSets.any (fun k => (s.set k).modeWrite.isSome) then 1 else 0

/-- A commit that fired in the present tick is taken back (R40, R41): its objects hold what they held before, and it is
aborted with reason 0x06. [DEDUCED: log entry 21] -/
def State.revert (s : State) (k : Nat) (old : Tab Val) : State :=
  let s1 := (s.unprime k).disarmGroups k
  let s2 : State := { s1 with od := old.foldl (fun m kv => odPut m (kv.1 / 256) (kv.1 % 256) kv.2) s1.od }
  let s3 := s2.ttRemove (fun e => (e.kind == 2 || e.kind == 3 || e.kind == 8) && e.ref == (s2.set k).order)
  (s3.setSet k { s3.set k with state := 6, reason := 6, result := .aborted, finished := s3.now,
                               split := (s3.set k).coordinator.isSome || !(s3.set k).members.isEmpty }).setNotice k 4

/-- A trigger of higher rank (R40, R41): every armed set that carries a mode request or is due in this tick, and every
commit fired in it, is aborted with reason 0x06. [DEDUCED: log entry 21] -/
def State.abortForTrigger (s : State) : State :=
  let s1 := s.undo.foldr (fun (kv : Nat × Tab Val) (t : State) => t.revert kv.1 kv.2) { s with undo := [] }
  s1.armedSets.foldl (fun t k =>
    let x := t.set k
    if x.modeWrite.isSome || x.due / 100 == t.tick then t.endSet k 4 6 else t) s1

/-- A trigger ranked above `rank` has been acted on in the present tick (R40): 1 power-on and external resets, 2 a thermal
trip, 3 watchdog and warm reset, 4 the faults that lead to SAFE. [DEDUCED: log entry 21] -/
def State.outranked (s : State) (rank : Nat) : Bool := s.acted.1 == s.lodge.time && decide (s.acted.2 < rank)
/-- A trigger of a rank is acted on (R40). -/
def State.act (s : State) (rank : Nat) : State := { s with acted := (s.lodge.time, rank) }

/-- The bit of OD 0x1002.03 that a SAFE trigger sets (R38, R42). -/
def safeBit (trigger : Nat) : Nat :=
  match trigger with
  | 0x0A => 0 | 0x0B => 1 | 0x0C => 2 | 0x0F => 3 | _ => 4

/-- The device enters SAFE on a trigger (R34, R37, R38, R40): the cause is set and kept, the policy of OD 0x1002.02 takes
over, what it interrupts is aborted. A trigger of the same tick that ranks higher drops it. In SAFE a further trigger only
adds its cause and its entry; DORMANT, STARTING and RETURN do not enter SAFE by these triggers. [DEDUCED: log entry 21] -/
def State.enterSafe (s : State) (trigger cause : Nat) : State :=
  if s.outranked 4 then s
  else match s.mode with
  | .dormant => s
  | .starting => s
  | .ret => s
  | .safe => (({ s with od := odSetFlag s.od 0x1002 3 cause }).log 0x28 0xFFFF 0xFF [trigger, 10]).act 4
  | m =>
    let s1 := (({ s with od := odSetFlag s.od 0x1002 3 cause }).log 0x28 0xFFFF 0xFF [trigger, m.code]).act 4
    ((s1.abortForTrigger.stopAll).ttRemove (fun e => e.kind == 2 || e.kind == 3)).toMode .safe trigger

/-- A SAFE cause clears (R38). -/
def State.clearCause (s : State) (cause : Nat) : State :=
  s.put 0x1002 3 (clrBit (s.nat 0x1002 3) cause)

/-- The host acknowledges SAFE causes (R38): only DRAMUE and ENGINES clear on acknowledgement. -/
def ackCauses (mask : Nat) (s : State) : Code × State :=
  let s1 := if bit mask 1 then s.clearCause 1 else s
  (.ok, if bit mask 2 then s1.clearCause 2 else s1)

/-- The device enters DORMANT (R30, R34): every block but the Lodge loses power. The Lodge's own state, the black
box, OTP and flash images are kept, with what the straps said and the objects from which STARTING keeps some.
[DEDUCED: log entry 29] -/
def State.powerDown (s : State) (trigger : Nat) : State :=
  let s1 := s.abortForTrigger.toMode .dormant trigger
  { State.reset with pending := s1.pending, free := s1.free, acted := s1.acted, od := s1.od, bb := s1.bb, lodge := s1.lodge,
                     sec := s1.sec, board := s1.board, dramCfg := s1.dramCfg,
                     ctl := { slotA := s1.ctl.slotA, slotB := s1.ctl.slotB },
                     cluster := { role := s1.cluster.role, strap := s1.cluster.strap }, pair := { home := s1.pair.home } }

end Sys2Proof.Machine
end

