-- ==== Sys2Proof/Machine/Mews.lean ====
section
/-! DEFINITION. Mews.lean: tokens, dispatch, engine faults, probation, retirement and spares (R262–R282). -/

namespace Sys2Proof.Machine

/-- Pavilions of the part (R4). -/
def pavCount : Nat := 64
/-- Entropy units of the part (R4). -/
def euCount : Nat := 16
/-- 64-bit words of a Pavilion's SRAM: 256 KiB (R181). -/
def sramWords : Nat := 32768

/-- A Pavilion excluded by OD 0x2003.06 (R278, R282). -/
def State.excluded (s : State) (p : Nat) : Bool := bit (s.nat 0x2003 6) p

/-- The cold spare of quarter q (R278): its highest-numbered Pavilion that is neither retired nor excluded, while
none has been brought into service there. -/
def State.spareOf (s : State) (q : Nat) : Option Nat :=
  let ps := (List.range 16).map (fun k => 16 * q + (15 - k))
  if s.nat 0x2003 (q + 1) = 0 ∨ ps.any (fun p => (s.pav p).standsFor.isSome) then none
  else ps.find? (fun p => !s.excluded p && (s.pav p).state != 5)

/-- A built-in test of the Pavilions (codes 0x01–0x03 of R639) runs on Pavilion p. -/
def State.pavTested (s : State) (p : Nat) : Bool :=
  match s.perf.test with
  | some t => decide (1 ≤ t.1) && decide (t.1 ≤ 3) && bit t.2.1 p
  | none => false

/-- A Pavilion's STATE of R289 while the mode does not gate it. -/
def State.pavState (s : State) (p : Nat) : Nat :=
  if s.excluded p then 6
  else if (s.pav p).state = 5 then 5
  else if s.spareOf (p / 16) = some p then 3
  else if s.pavTested p then 2
  else (s.pav p).state

/-- The mode gates the Pavilions (R30). -/
def State.gated (s : State) : Bool :=
  !(s.mode.media || s.mode == .test || (match s.moving with | some m => m.1.media | none => false))

/-- The retirement window in ns (R288). -/
def State.window (s : State) : Nat := s.nat 0x2003 5 * 1000000
/-- Engine faults of an engine within the retirement window now, or since the last STARTING with a window of 0 (R289, R290). -/
def State.faultsNow (s : State) (e : Engine) : Nat :=
  (if s.window = 0 then e.faults else e.faults.filter (fun t => decide (s.now < t + s.window))).length

/-- OD 0x2100.(p + 1) (R289). -/
def State.pavWord (s : State) (p : Nat) : Nat :=
  let e := s.pav p
  let st := if s.gated then 7 else s.pavState p
  min (s.faultsNow e) 255 * 0x10000 + min e.berths.length 255 * 0x100 + st

/-- A working Pavilion: neither spare, starting, retired nor excluded (R203, R278). -/
def State.working (s : State) (p : Nat) : Bool := decide (s.pavState p ≤ 2)
/-- The working Pavilions of quarter q, ascending. -/
def State.workingPavs (s : State) (q : Nat) : List Nat :=
  ((List.range 16).map (fun k => 16 * q + k)).filter s.working
/-- The working entropy units of quarter q, ascending. -/
def State.workingEus (s : State) (q : Nat) : List Nat :=
  ((List.range 4).map (fun k => 4 * q + k)).filter (fun e => (s.eu e).state != 5)
/-- The next working entropy unit of the quarter after one, wrapping (R186); a band without one keeps none (R187). -/
def State.nextEu (s : State) (e : Nat) : Nat :=
  if euCount ≤ e then e else (([1, 2, 3].map (fun k => e / 4 * 4 + (e + k) % 4)).find? (fun x => (s.eu x).state != 5)).getD e

/-! Operand tokens (R265) -/

/-- The operand slots that a coach kind names (R262): band 0–4, seam 0, fetch 0, search 0–1, departure 0–1, decode
assist 0. -/
def needOf (kind : Nat) : Nat :=
  match kind with
  | 1 => 31 | 2 => 1 | 3 => 1 | 4 => 3 | 5 => 3 | 6 => 1 | _ => 0

/-- A token set on its way to a stall. [DEDUCED: log entry 70] -/
def Stall.token (x : Stall) (slot : Nat) : Stall := { x with tokens := setBit x.tokens slot }

/-- The ready list of a coach whose operands are complete (R266); fetch, search and departure coaches use none. -/
def State.listOf (s : State) (x : Stall) : Nat :=
  match x.kind with
  | 1 =>
    if x.runs ≠ 0 then (if x.state = 6 then 2 else 0)
    else if s.pavState x.berth = 5 ∨ s.pavState x.berth = 4 then 1
    else 3
  | 2 => 4
  | 6 => 5
  | 7 => if s.mode = .test then 7 else 6
  | _ => 0

/-- Whether a coach of this kind waits on a ready list (R266). -/
def listed (kind : Nat) : Bool := kind == 1 || kind == 2 || kind == 6 || kind == 7

/-- A stall whose operands are complete becomes ready (R265). -/
def State.settle (s : State) (x : Stall) : Stall :=
  if (x.state = 1 ∨ x.state = 2) ∧ Nat.land x.opmask (needOf x.kind) = needOf x.kind then
    { x with state := 3, list := s.listOf x, readyAt := s.now }
  else x

/-- OPERAND_TOKEN (R265): a token on its way to a stall reaches it, and a coach whose operands are complete moves
to its ready list. [DEDUCED: log entry 70] -/
def execOperandToken (stall slot : Nat) (s : State) : Host.Outcome State Fault Refusal :=
  if 49152 ≤ stall ∨ 5 ≤ slot then .fault .noSuchUnit
  else match s.stall stall with
    | none => .next s
    | some x =>
      if bit x.tokens slot then
        let y := { x with tokens := clrBit x.tokens slot, opmask := setBit x.opmask slot }
        .next (s.setStall stall (s.settle y))
      else .next s

/-! Dispatch (R266–R271) -/

/-- Whether Pavilion p keeps a berth (R267: one without is a relief Pavilion). -/
def State.relief (s : State) (p : Nat) : Bool := (s.pav p).berths.isEmpty

/-- The earliest instant at which a first run berthed on p can next become ready, PTP ns (R267). -/
def State.nextFirstRun (s : State) (p : Nat) : Option Nat :=
  let ts := (s.pav p).berths.filterMap (fun b =>
    let c := s.ch b.1
    if c.running then
      let g := s.cfg b.1
      let lines := ((g.s.mul (Frac.ofInt c.ready)).add g.a).add (Frac.ofInt (g.y0 + g.p : Nat))
      some (c.stamp + (g.ns lines).floor.toNat)
    else none)
  ts.foldl (fun a t => match a with | none => some t | some u => some (min u t)) none

/-- Four times the factor F of R201 for a channel's input format. -/
def Cfg.inF4 (g : Cfg) : Nat := if g.fmt.getD 0 0 = 1 then 6 else [6, 4, 3].getD (g.fmt.getD 1 0) 3
/-- The ceiling of a coach for the gap rule, ns (R202, R267, R276, R318): a self-test 4 µs, a decode-assist coach 800 cycles × F for
each 1,024 samples, in whose gaps it may pause, a seam coach one CTU, and a band its CTUs. [DESIGN CHOICE: log entry 109] -/
def State.coachNs (s : State) (x : Stall) : Nat :=
  let g := s.cfg x.chan
  match x.kind with
  | 7 => 4000
  | 6 => (Frac.mk' (800 * g.inF4 * 10) 64).ceil.toNat
  | 1 => (g.bandNs (g.tileW x.col)).ceil.toNat
  | _ => (g.bandNs 1).ceil.toNat

/-- The gap rule of R267. -/
def State.inGap (s : State) (p : Nat) (x : Stall) : Bool :=
  match s.nextFirstRun p with
  | none => true
  | some t => decide (s.now + s.coachNs x ≤ t)

/-- Whether Pavilion p may run a ready coach (R266, R267). [DEDUCED: log entry 68] -/
def State.mayRun (s : State) (p : Nat) (x : Stall) : Bool :=
  let relief := s.relief p
  (x.state == 3 || x.state == 6 && x.list == 2) && listed x.kind && x.quarter == p / 16 &&
    match x.list with
    | 0 => !x.failed.contains p
    | 1 => true
    | 2 => true
    | 3 => x.berth == p
    | 6 => x.berth == p && s.inGap p x
    | 7 => true
    | _ => !relief && s.inGap p x

/-- The order within a list: departure instant, channel, tile column (R266). [DEDUCED: log entry 68] -/
def Stall.before (x y : Stall) : Bool :=
  decide (x.list < y.list) || (x.list == y.list && (decide (x.depart < y.depart) || (x.depart == y.depart &&
    (decide (x.chan < y.chan) || (x.chan == y.chan && decide (x.col < y.col))))))

/-- The coach that Pavilion p takes when it falls free: the first it may run of the highest-priority list.
[DEDUCED: log entry 68] -/
def State.choose (s : State) (p : Nat) : Option (Nat × Stall) :=
  (s.mews.stalls.filter (fun kv => s.mayRun p kv.2)).foldl (fun a kv =>
    match a with
    | none => some kv
    | some b => if kv.2.before b.2 then some kv else some b) none

/-- Pavilion p may take a coach now. -/
def State.free_ (s : State) (p : Nat) : Bool := s.working p && (s.pav p).busy.isNone
/-- The Pavilions of quarter q in the order in which the rotating dispatcher looks at them (R268): from the one after the
Pavilion it last dispatched to, wrapping; from the first where it has dispatched to none. [DEDUCED: log entry 68] -/
def State.rotation (s : State) (q : Nat) : List Nat :=
  let last := tgetD s.mews.lastPav q (16 * q + 15)
  (List.range 16).map (fun i => 16 * q + (last + 1 + i) % 16)
/-- Pavilion p is the one that the dispatcher picks for coach k (R268): the first in its rotation of those that are free and
would take it. -/
def State.picked (s : State) (p k : Nat) : Bool :=
  (s.rotation (p / 16)).find? (fun r => s.free_ r && (s.choose r).map Prod.fst == some k) == some p

/-! Engine faults (R274–R277) -/

/-- Faults of an engine within the retirement window, one more at `now` (R276, R289). [DEDUCED: log entry 69] -/
def Engine.fault (e : Engine) (now window : Nat) : List Nat :=
  now :: (if window = 0 then e.faults else e.faults.filter (fun t => decide (now < t + window)))

/-- A first run that waits for a Pavilion now retired goes to list 1 (R266). -/
def Stall.berthLost (p : Nat) (x : Stall) : Stall :=
  if x.kind = 1 ∧ x.state = 3 ∧ x.list = 3 ∧ x.berth = p then { x with list := 1 } else x

/-- A Pavilion is retired with a cause (R276, R277, R280, R281): its quarter's spare starts, or with none the
device enters SAFE. [DEDUCED: log entry 69] -/
def State.retirePav (s : State) (p cause : Nat) : State :=
  let e := s.pav p
  let spare := s.spareOf (p / 16)
  let s0 := s.setPav p { e with state := 5, busy := none }
  let s1 := ({ s0 with mews := { s0.mews with stalls := s0.mews.stalls.map (fun kv => (kv.1, kv.2.berthLost p)) } } : State).log 2 p
    0xFF [cause, e.faults.length]
  let s2 := s1.bump 0x2000 9 0x2000 0x0D
  match spare with
  | some q => s2.setPav q { s2.pav q with state := 4, standsFor := some p, began := s.now }
  | none => s2.enterSafe 0x0C 2

/-- The sequences of a retired entropy unit dealt in turn, in the order in which R269 places them, to the working ones of the
quarter (R186); their bands that have still to run go with them. -/
def State.redealEus (s : State) (e : Nat) : State :=
  let left := s.workingEus (e / 4)
  let keys := s.mews.euOrder.filter (fun k => tget s.mews.euOf k == some e)
  let dealt := (keys.zipIdx).foldl (fun t ki => tset t ki.1 (left.getD (ki.2 % max 1 left.length) e)) s.mews.euOf
  let move := fun (x : Stall) => if x.kind == 1 && x.eu == e && decide (x.state ≤ 3) then
    { x with eu := tgetD dealt (x.chan * 64 + x.col) e } else x
  { s with mews := { s.mews with euOf := dealt, stalls := s.mews.stalls.map (fun kv => (kv.1, move kv.2)) } }

/-- An entropy unit is retired with a cause (R276, R277, R281): its bands go to the others of its quarter; where
none is left and a running channel uses one there, the device enters SAFE. [DEDUCED: log entry 69] -/
def State.retireEu (s : State) (e cause : Nat) : State :=
  let x := s.eu e
  let s1 := (s.setEu e { x with state := 5 }).log 2 (0x100 + e) 0xFF [cause, x.faults.length]
  let s2 := (s1.bump 0x2000 9 0x2000 0x0D).redealEus e
  if (s2.workingEus (e / 4)).isEmpty &&
      s2.runningChans.any (fun n => (s2.quartersOf n).contains (e / 4) && !(s2.cfg n).jxs) then
    s2.enterSafe 0x0C 2
  else s2

/-- The self-test stall of Pavilion p, if it runs or waits. [DEDUCED: log entry 69] -/
def State.selfTest (s : State) (p : Nat) : Option (Nat × Stall) :=
  s.mews.stalls.find? (fun kv => kv.2.kind == 7 && kv.2.berth == p)

/-- An engine fault is charged to a Pavilion (R275, R276): its count, its black-box entry, probation, and
retirement on a second fault within the window or a repeated SRAM word. -/
def State.chargePav (s : State) (p row word : Nat) (x : Stall) : State :=
  let e := s.pav p
  let fs := e.fault s.now s.window
  let again := decide (row = 1) && e.words.contains word
  let e1 := { e with faults := fs, busy := none, state := if e.state ≤ 2 then 2 else e.state, tests := 0,
                     words := if row = 1 then word :: e.words else e.words }
  let s1 := (s.setPav p e1).log 1 p x.chan [row, stallWord (some x)]
  if again then s1.retirePav p 3
  else if s.window ≠ 0 ∧ 2 ≤ fs.length then s1.retirePav p 2
  else if (s1.selfTest p).isSome then s1
  else s1.addStall { state := 3, kind := 7, list := 6, quarter := p / 16, berth := p, readyAt := s.now }

/-- An engine fault is charged to an entropy unit (R275, R276). -/
def State.chargeEu (s : State) (e row : Nat) (x : Stall) : State :=
  let u := s.eu e
  let fs := u.fault s.now s.window
  let s1 := (s.setEu e { u with faults := fs, state := if u.state ≤ 2 then 2 else u.state, tests := 0 }).log 1
    (0x100 + e) x.chan [row, stallWord (some x)]
  if s.window ≠ 0 ∧ 2 ≤ fs.length then s1.retireEu e 2 else s1

/-- The run of a band coach discarded (R275): the stall keeps its operands and goes to list 0, the units at fault
excluded. -/
def State.requeue (s : State) (k : Nat) (x : Stall) (row : Nat) : State :=
  let p := x.pav
  let y := { x with state := 3, list := if x.kind = 1 ∧ x.list ≠ 2 then 0 else x.list, readyAt := s.now,
                    failed := if row = 7 then x.failed else p :: x.failed,
                    eu := if row = 6 ∨ row = 7 then s.nextEu x.eu else x.eu }
  (s.setStall k y).setPav p { s.pav p with busy := none }

/-- An engine fault of row 1–7 of R274 in the run of a stall. A band that uses no entropy unit (R187) charges none.
[DEDUCED: log entry 69] -/
def State.engineFault (s : State) (k : Nat) (x : Stall) (row word : Nat) : State :=
  let s1 := (s.bump 0x2000 7 0x2000 0x0D).requeue k x row
  let s2 := if row = 7 then s1 else s1.chargePav x.pav row word x
  if (row = 6 ∨ row = 7) ∧ x.eu < euCount then s2.chargeEu x.eu row x else s2

/-- A single-bit error in the SRAM of the Pavilion that runs a coach: corrected and counted (R183, R620). -/
def State.sramCorrected (s : State) (p chan : Nat) : State :=
  let e := s.pav p
  (s.setPav p { e with corrected := e.corrected + 1 }).pavAdd p chan 6 1

/-- ENGINE_FAULT (R183, R274, R275): a detected fault of the Pavilion or entropy unit running a stall's coach, by its row of
R274; row 0 is a single-bit SRAM error, which is corrected, and the coach runs on. An entropy unit's fault (row 7) needs a
coach that uses one. -/
def execEngineFault (stall row word : Nat) (s : State) : Host.Outcome State Fault Refusal :=
  if 49152 ≤ stall ∨ 8 ≤ row ∨ sramWords ≤ word then .fault .noSuchUnit
  else match s.stall stall with
    | none => .next s
    | some x =>
      if x.state ≠ 4 ∨ row = 7 ∧ euCount ≤ x.eu then .next s
      else if row = 0 then .next (s.sramCorrected x.pav x.chan)
      else .next (s.engineFault stall x row word)

/-- Whether a probation whose self-tests have passed has also lasted its window (R276). -/
def State.windowOver (s : State) (e : Engine) : Bool :=
  s.window == 0 || decide (e.faults.headD 0 + s.window ≤ s.now)

/-- SELF_TEST_COMPLETE (R276): a probation self-test of Pavilion `pav` (64 + e for entropy unit e) ends. A failing
one retires the unit; the 64th passing one ends the self-tests, and with a window of 0 the probation. -/
def execSelfTestComplete (pav : Nat) (pass : Bool) (s : State) : Host.Outcome State Fault Refusal :=
  if pavCount + euCount ≤ pav then .fault .noSuchUnit
  else if pavCount ≤ pav then
    let e := s.eu (pav - pavCount)
    if e.state ≠ 2 then .next s
    else if !pass then .next (s.retireEu (pav - pavCount) 1)
    else .next (s.setEu (pav - pavCount) { e with
      tests := e.tests + 1, state := if e.tests + 1 < 64 then 2 else if s.window = 0 then 0 else 1 })
  else
    let e := s.pav pav
    if e.state ≠ 2 then .next s
    else
      let s1 := match s.selfTest pav with
        | some (k, _) => s.freeStall k
        | none => s
      let e := { e with busy := none }
      if !pass then .next ((s1.setPav pav e).retirePav pav 1)
      else
        let s2 := s1.setPav pav { e with
          tests := e.tests + 1, state := if e.tests + 1 < 64 then 2 else if s.window = 0 then 0 else 1 }
        .next (if e.tests + 1 < 64 then
          s2.addStall { state := 3, kind := 7, list := 6, quarter := pav / 16, berth := pav, readyAt := s.now }
        else s2)

/-- PROBATION_END (R276): a unit whose 64 self-tests have passed and whose probation has lasted the retirement
window without a fault returns to plain working. Units above 63 are entropy units. -/
def execProbationEnd (pav : Nat) (s : State) : Host.Outcome State Fault Refusal :=
  if pavCount + euCount ≤ pav then .fault .noSuchUnit
  else if pavCount ≤ pav then
    let e := s.eu (pav - pavCount)
    if e.state = 1 && s.windowOver e then .next (s.setEu (pav - pavCount) { e with state := 0, faults := [] })
    else .next s
  else
    let e := s.pav pav
    if e.state = 1 && s.windowOver e then .next (s.setPav pav { e with state := 0, faults := [] }) else .next s

/-- A table of objects as bytes. -/
def tableImage (t : Tab Val) : List Byte :=
  t.flatMap (fun kv => leBytes 4 kv.1 ++ (match kv.2 with | .num v => leInt 8 v | .oct b => leBytes 4 b.length ++ b))
/-- What a checkpoint's digest covers (R279). -/
def Checkpoint.body (k : Checkpoint) : List Byte := k.program ++ tableImage k.tables ++ k.stats
/-- A channel's checkpoint in quarter q, where it has one, verifies, and its program is the one of OD 0x4048.0A (R279, R280). -/
def State.ckptOk (s : State) (q n : Nat) : Bool :=
  match tget s.mews.checkpoints (n * 4 + q) with
  | some k => k.digest == Config.shake256 32 k.body && k.program == ((s.cfg n).pack.map Prod.fst).getD []
  | none => true
/-- What a spare that starts has loaded for the channels berthed on the retired Pavilion (R280). [DESIGN CHOICE: log entry 104] -/
def State.loadSpare (s : State) (q : Nat) (o e : Engine) : Engine :=
  match o.berths with
  | [] => e
  | b :: _ => { e with program := some (match tget s.mews.checkpoints (b.1 * 4 + q) with
                                        | some k => if s.ckptOk q b.1 then k.program else ((s.cfg b.1).pack.map Prod.fst).getD []
                                        | none => ((s.cfg b.1).pack.map Prod.fst).getD []),
                       tables := some b.1 }

/-- SPARE_READY (R280): a starting spare has loaded the checkpoints of the channels berthed on the retired Pavilion and takes its
berths. `digestOk` says that they read back whole; a checkpoint whose digest fails is replaced from the verified pack and
recorded. -/
def execSpareReady (pav : Nat) (digestOk : Bool) (s : State) : Host.Outcome State Fault Refusal :=
  if pavCount ≤ pav then .fault .noSuchUnit
  else
    let e := s.pav pav
    match e.state, e.standsFor with
    | 4, some old =>
      let o := s.pav old
      let whole := digestOk && ((o.berths.map (fun b => b.1)).eraseDups).all (s.ckptOk (pav / 16))
      let s1 := (s.setPav pav { s.loadSpare (pav / 16) o e with state := 0, berths := o.berths }).setPav old { o with berths := [] }
      let s2 : State := { s1 with mews := { s1.mews with stalls := s1.mews.stalls.map (fun kv =>
        (kv.1, if kv.2.kind = 1 ∧ kv.2.berth = old ∧ kv.2.state ≤ 3 then
          { kv.2 with berth := pav, list := if kv.2.list = 1 then 3 else kv.2.list } else kv.2)) } }
      let s3 := (s2.bump 0x2000 0x0A 0x2000 0x0D).log 3 pav 0xFF [old, s.now - e.began]
      .next (if whole then s3 else s3.log 5 (pav / 16) 0xFF [])
    | _, _ => .next s

/-- Occupancy of ready list l over the quarters, OD 0x2001.(l + 1) (R288). -/
def State.occupancy (s : State) (l : Nat) : Nat :=
  (s.mews.stalls.filter (fun kv => kv.2.state == 3 && listed kv.2.kind && kv.2.list == l)).length

/-- OD 0x2020 (R283, R288): the timetable image of 4 × 1,024 entries. -/
def State.timetableImage (s : State) : List Byte :=
  [0, 1, 2, 3].flatMap (fun k =>
    let b := (s.ttl k).flatMap (fun e =>
      leBytes 8 e.due ++ leBytes 1 e.kind ++ leBytes 1 k ++ leBytes 2 e.target ++ leBytes 4 e.ref)
    b.take 16384 ++ zeros (16384 - b.length))

end Sys2Proof.Machine
end

