-- ==== Sys2Proof/Machine/Links.lean ====
section
/-! DEFINITION. Links.lean: messages sent over Carriageway, and what a mirror pair does with each departure unit and at
each frame boundary (R446, R475–R478, R483–R486, R495, R496). -/

namespace Sys2Proof.Machine

/-- Own node number (R443). -/
def State.node (s : State) : Nat := s.nat 0x1300 1

/-- An event of class 0x0F (R496). -/
def State.pairEvent (s : State) (what chan value : Nat) : State :=
  s.event 15 s.now (leBytes 1 15 ++ leBytes 1 what ++ leBytes 1 chan ++ leBytes 1 s.pair.state ++
    leBytes 4 (stamp32 s.now) ++ leBytes 8 value)

/-- A pair counter of OD 0x1401.05–.0C (R495). -/
def State.pairBump (s : State) (j : Nat) : State := s.bump 0x1401 j 0x1401 0x0D

/-- A change of the pair state (R480): OD 0x1401.01, and an event whose WHAT and channel are given. -/
def State.toPair (s : State) (state what : Nat) : State :=
  if s.pair.state = state then s
  else
    let s1 : State := { s with pair := { s.pair with state := state } }
    (s1.put 0x1401 1 state).pairEvent what 0xFF 0

/-- A channel's pair context. -/
def State.pc (s : State) (n : Nat) : PairChan := tgetD s.pair.chans n {}
/-- The machine with a channel's pair context changed. -/
def State.setPc (s : State) (n : Nat) (p : PairChan) : State :=
  { s with pair := { s.pair with chans := tset s.pair.chans n p } }

/-- A mode in which the departure gate sends (R471). -/
def Mode.sending : Mode → Bool
  | .encode => true | .transcode => true | .span => true | .hold => true | _ => false

/-- The channel enters REJOINING at a mismatch (R483): the checkpoint of its latest epoch is asked for. A mismatch
of a channel that is already REJOINING starts its refresh period over (R484). -/
def State.rejoin (s : State) (n e : Nat) : State :=
  let p := s.pc n
  if p.rejoining then s.setPc n { p with mismatch := e, from_ := none }
  else
    let s0 : State := { s with pair := { s.pair with holdFrom := none, handover := none } }
    let s1 := (s0.put 0x1401 4 0).setPc n { rejoining := true, mismatch := e }
    ((s1.put 0x1402 (n + 1) 2).pairEvent 7 n e).say 0x10 0x42 [n, e]

/-- OD 0x1402.(n + 1) (R482, R495). -/
def State.pairChanState (s : State) (n : Nat) : Nat :=
  if s.pair.state = 0 ∨ !(s.ch n).running then 0
  else if (s.pc n).rejoining then 2
  else if s.pair.link && s.pair.live && s.pair.state != 1 && s.pair.state != 5 then 1
  else 3

/-- A record's place (R476). -/
def DigestRec.at_ (r : DigestRec) (e chan type row unit : Nat) : Bool :=
  r.epoch == e && r.chan == chan && r.type == type && r.row == row && r.unit == unit

/-- The peer's record of a unit, if it has come (R477). -/
def State.peerRecord (s : State) (e chan type row unit : Nat) : Option DigestRec :=
  s.pair.records.find? (fun r => DigestRec.at_ r e chan type row unit)

/-- A record used. -/
def State.useRecord (s : State) (e chan type row unit : Nat) : State :=
  { s with pair := { s.pair with records := s.pair.records.filter (fun r => !DigestRec.at_ r e chan type row unit) } }

/-- Whether a unit is sent although it was not compared: no peer is left to send it (R488, R492). [DEDUCED: log entry 87] -/
def State.soleSender (s : State) : Bool :=
  !s.pair.live && (!s.pair.link || s.cluster.role == 2)

/-- The pair link is up (R481, R487): PAIRID goes out, and a pair that waits for its link forms. -/
def State.pairLinkUp (s : State) : State :=
  let s1 : State := { s with pair := { s.pair with link := true, beat := s.now, agreed := false } }
  let s2 := (s1.pairEvent 6 0xFF 0).say 0x10 0x40 [b2n s.pair.home]
  if s2.pair.state = 0 then s2.toPair 1 6 else s2

/-- What the departure gate does with one unit, fixed part or audio access unit (R477, R488, R492): whether it is sent,
and the counters and the REJOINING that follow. `n` is the channel that rejoins, none for audio. [DEDUCED: log entry 87] -/
def State.gate (s : State) (n : Option Nat) (e chan type row unit : Nat) : Bool × State :=
  let rec_ := s.peerRecord e chan type row unit
  let rj := fun (t : State) => match n with | some k => t.rejoin k e | none => t
  match s.pair.state with
  | 0 => (true, s)
  | 1 => (false, s.pairBump 8)
  | 5 => if s.soleSender then (true, s.pairBump 9) else (false, s.pairBump 8)
  | 3 =>
    match rec_ with
    | some r =>
      let s1 := (s.useRecord e chan type row unit).pairBump 5
      if bit r.flags 1 then (true, s1)
      else if r.same then (true, s1.pairBump 6)
      else (false, rj ((s1.pairBump 7).pairBump 8))
    | none => if s.soleSender then (true, s.pairBump 9) else (false, (s.pairBump 10).pairBump 8)
  | _ =>
    match rec_ with
    | some r =>
      let s1 := (s.useRecord e chan type row unit).pairBump 5
      if bit r.flags 1 then (true, s1)
      else if r.same then (true, s1.pairBump 6)
      else
        let s2 : State := { s1.pairBump 7 with pair := { (s1.pairBump 7).pair with handover := none } }
        (true, match n with | some k => s2.setPc k { s2.pc k with mismatch := e } | none => s2)
    | none => (true, s.pairBump 9)

/-- Whether the output policy of HOLD or SAFE is sent by this unit (R491); nothing is sent after a loss of lock until
the root is LOCKED (R541). -/
def State.policySends (s : State) : Bool :=
  if s.clk.stopped then false
  else if s.pair.state = 0 then true
  else if s.mode = .hold then s.pair.drawbar
  else !s.pair.live || !(Mode.ofCode s.pair.peerMode).sending

/-- The digest record of data that has become final, sent to the peer (R476). -/
def State.sendDigest (s : State) (e chan type row unit flags size : Nat) : State :=
  if s.pair.state = 0 ∨ !s.pair.link then s else s.say 0x10 0x41 [e, chan, type, row, unit, flags, size]

/-- Whether the picture of an epoch begins a refresh period (R216). -/
def Chan.periodStart (c : Chan) (g : Cfg) (e : Nat) : Bool :=
  let k := tgetD c.kinds e 1
  if g.gdr ≠ 0 then k / 2 == 0 else bit k 0

/-- A REJOINING channel at the departure of the first row of a picture (R484, R486): at a period boundary after the
installation, a whole matched period ends the rejoin; otherwise the period begins anew. -/
def State.rejoinPeriod (s : State) (n e : Nat) (g : Cfg) : State :=
  let p := s.pc n
  if !p.rejoining ∨ !p.installed ∨ !(s.ch n).periodStart g e then s
  else match p.from_ with
    | some _ =>
      ((s.setPc n {}).put 0x1402 (n + 1) 1).pairEvent 8 n e
    | none => s.setPc n { p with from_ := some e, periods := p.periods + 1 }

/-- The refresh period (R216). -/
def Cfg.refreshPeriod (g : Cfg) : Nat := if g.gdr ≠ 0 then g.gdr else g.keyInt
/-- The refresh period of a channel in ns (R216); none where key pictures have no period. -/
def Cfg.refreshNs (g : Cfg) : Option Nat :=
  let p := g.refreshPeriod
  if p = 0 then none else some ((g.period.mul (Frac.ofInt p)).ceil.toNat)

/-- Whether no running channel has a longer refresh period than channel n (R493). -/
def State.longestPeriod (s : State) (n : Nat) : Bool :=
  match (s.cfg n).refreshNs with
  | none => false
  | some p => s.runningChans.all (fun k => match (s.cfg k).refreshNs with | none => false | some q => decide (q ≤ p))

/-- The hold-off of R493 at a refresh-period boundary of the channel with the longest refresh period: its progress in
OD 0x1401.04. The home unit must be SECONDARY with every running channel MATCHED. -/
def State.holdOff (s : State) : State :=
  let ok := s.pair.home && s.pair.state == 3 && s.pair.link && s.runningChans.all (fun n => s.pairChanState n == 1)
  if !ok then { (s.put 0x1401 4 0) with pair := { s.pair with holdFrom := none } }
  else match s.pair.holdFrom with
    | none => { s with pair := { s.pair with holdFrom := some s.now } }
    | some _ => s.put 0x1401 4 (min 255 (s.nat 0x1401 4 + 1) : Nat)

/-- A pair member at a frame boundary of channel n (R493, R495). -/
def State.pairBoundary (s : State) (n e : Nat) : State :=
  if s.pair.state = 0 then s
  else
    let s1 := s.put 0x1402 (n + 1) (s.pairChanState n)
    if s1.longestPeriod n && (s1.ch n).periodStart (s1.cfg n) e then s1.holdOff else s1

end Sys2Proof.Machine
end

