-- ==== Sys2Proof/Machine/Coding.lean ====
section
/-! DEFINITION. Coding.lean: what an access unit carries outside its bands, and the tools, order values and buffer model that
its syntax states (R194, R206–R214, R216–R223, R241, R242, R245). -/

namespace Sys2Proof.Machine

/-- An index of per-row tables: epoch × 65,536 + row. -/
def rowKey (e r : Nat) : Nat := e * 65536 + r
/-- An index of per-band tables: (epoch × 65,536 + CTU row) × 64 + tile column. -/
def bandKey (e r i : Nat) : Nat := rowKey e r * 64 + i

/-! Picture kinds and order (R214–R219) -/

/-- A random-access point (R215, R218): a key picture, or a phase-0 picture of gradual refresh outside AV1. -/
def Cfg.access (g : Cfg) (key : Bool) (phase : Nat) : Bool := key || (g.gdr != 0 && phase == 0 && g.codec != 3)
/-- The places in which parameter sets are repeated (R220): key pictures and phase-0 pictures, or every access unit. -/
def Cfg.repeats (g : Cfg) (key : Bool) (phase : Nat) : Bool := g.info.always || key || (g.gdr != 0 && phase == 0)

/-- Picture order values of picture `e` whose last key picture is `k` (R214). -/
def orderOf (e k : Nat) : PicOrder :=
  { poc := e - k, frameNum := (e - k) % 65536, idr := k % 65536, hint := e % 128 }
/-- The pictures that picture `e` may refer to, latest first (R214): as many of the most recent ones as the reference count
sets, none from before the last key picture `k`. -/
def Cfg.refsOf (g : Cfg) (e k : Nat) (key : Bool) : List Nat :=
  if key || g.jxs then [] else (List.range (min g.refs (e - k))).map (fun j => e - 1 - j)

/-! Tools (R209–R213, R218) -/

/-- What a sequence's parameter sets say of its tools. -/
inductive Tool where
  | ctu | smallestBlock | multiDepth | largestBinary | largestTernary | separateTrees
  | intraModes | wideAngle | multiRefLine | cclm | lfnst | isp | mip | strongSmoothing | constrainedIntra | hierarchyIntra
  | hierarchyInter | amp
  | lists | amvr | mmvd | hmvp | temporalMvp | affine | sbTmvp | gpm | ciip | bcw | dmvr | bdof | prof | mergeCandidates
  | weighted
  | largestTransform | smallestTransform | implicitMts | explicitMts | sbt | jccr | transformSkip | dependentQuant
  | signHiding | scalingLists | qpGroup | chromaQpOffset | pcm | lossless | rangeExtensions
  | deblocking | sao | alf | ccalf | lmcs | palette | ibc | act | bdpcm
  | layers | temporalId | subpictures | resampling | virtualBoundaries | wpp | acrossTiles | longTerm
  | superblock | abPartitions | angleDelta | cfl | edgeFilter | filterIntra | referenceSelect | switchable | dualFilter
  | highPrecision | refFrameMvs | compound | obmc | warped | skipMode | deltaQ | deltaLf | cdef | restoration | superres
  | filmGrain | cdfUpdate | primaryRef | obuFrame | showExisting | errorResilient | hintBits
  | frameOnly | sliceGroups | transform8 | cabac | waveletH | waveletV | sliceHeight | reversibleColour
deriving DecidableEq, Repr, Inhabited

/-- The sequence-level tools of a channel's streams with their settings, the same for every preset (R209–R213, R218); 0 is
off. -/
def Cfg.tools (g : Cfg) : List (Tool × Nat) :=
  let mvp := b2n (g.gdr == 0)
  match g.codec with
  | 1 => [(.ctu, g.ctu), (.smallestBlock, 8), (.multiDepth, 3), (.largestBinary, 64), (.largestTernary, 32),
      (.separateTrees, 1), (.intraModes, 67), (.wideAngle, 1), (.multiRefLine, 1), (.cclm, 1), (.lfnst, 1), (.isp, 0),
      (.mip, 0), (.lists, 1), (.amvr, 1), (.mmvd, 1), (.hmvp, 1), (.temporalMvp, mvp), (.affine, 0), (.sbTmvp, 0),
      (.gpm, 0), (.ciip, 0), (.bcw, 0), (.dmvr, 0), (.bdof, 0), (.prof, 0),
      (.largestTransform, if g.ctu = 32 then 32 else 64), (.implicitMts, 1), (.explicitMts, 0), (.sbt, 1), (.jccr, 1),
      (.transformSkip, 8), (.dependentQuant, 1), (.signHiding, 0), (.scalingLists, 0), (.deblocking, 1), (.sao, 1),
      (.alf, 1), (.ccalf, 1), (.lmcs, 0), (.palette, 0), (.ibc, 0), (.act, 0), (.bdpcm, 0), (.layers, 1), (.temporalId, 0),
      (.subpictures, 0), (.resampling, 0), (.virtualBoundaries, 0), (.wpp, 0), (.acrossTiles, 1), (.longTerm, 0)]
  | 2 => [(.ctu, g.ctu), (.smallestBlock, 8), (.smallestTransform, 4), (.largestTransform, 32), (.hierarchyIntra, 1),
      (.hierarchyInter, 1), (.amp, 1), (.intraModes, 35), (.strongSmoothing, 1), (.constrainedIntra, 0), (.lists, 1),
      (.mergeCandidates, 5), (.temporalMvp, mvp), (.weighted, 0), (.transformSkip, 4), (.signHiding, 1), (.qpGroup, 16),
      (.chromaQpOffset, 0), (.scalingLists, 0), (.pcm, 0), (.lossless, 0), (.rangeExtensions, 0), (.deblocking, 1), (.sao, 1),
      (.acrossTiles, 1), (.wpp, 0), (.temporalId, 0), (.longTerm, 0)]
  | 3 => [(.superblock, g.ctu), (.abPartitions, 0), (.angleDelta, 1), (.cfl, 1), (.edgeFilter, 1), (.filterIntra, 0),
      (.palette, 0), (.ibc, 0), (.referenceSelect, 0), (.switchable, 1), (.dualFilter, 1), (.highPrecision, 1),
      (.refFrameMvs, mvp), (.compound, 0), (.obmc, 0), (.warped, 0), (.skipMode, 0), (.smallestTransform, 4),
      (.largestTransform, 64), (.deltaQ, 1), (.deltaLf, 0), (.deblocking, 1), (.cdef, 1), (.restoration, 1), (.superres, 0),
      (.filmGrain, 0), (.cdfUpdate, 1), (.primaryRef, mvp), (.obuFrame, 0), (.showExisting, 0), (.errorResilient, 0),
      (.hintBits, 7)]
  | 4 => [(.frameOnly, 1), (.sliceGroups, 1), (.constrainedIntra, 0), (.lists, 1), (.weighted, 0), (.transform8, 1),
      (.scalingLists, 0), (.pcm, 0), (.cabac, 1), (.deblocking, 1), (.longTerm, 0)]
  | _ => [(.waveletH, 5), (.waveletV, 1), (.sliceHeight, 16), (.reversibleColour, b2n (g.omodel == 1))]

/-! Floor form (R247, R248) -/

/-- What the floor form of a CTU writes (R247). -/
def floorTools (codec : Nat) (intra : Bool) : List FloorTool :=
  match codec, intra with
  | 1, false => [.largestCu, .skipOrAmvp, .predictorZero, .noResidual, .alfOff, .saoLeft]
  | 1, true => [.largestCu, .dcMode, .lineZero, .lfnstZero, .chromaDm, .lumaDc, .chromaZero]
  | 2, false => [.largestCu, .skipOrAmvp, .predictorZero, .noResidual, .saoLeft]
  | 2, true => [.largestCu, .dcMode, .chromaDm, .lumaDc, .chromaZero]
  | 3, false => [.partitionNone, .nearOrNew, .skip, .filtersAsLast]
  | 3, true => [.partitionNone, .dcMode, .chromaDc, .lumaDc]
  | 4, false => [.pSkipOrL0, .noResidual]
  | 4, true => [.intra16, .dcMode, .lumaDc, .chromaZero]
  | _, _ => [.noBitPlanes]
/-- The QP or qindex of floor form (R247). -/
def floorQp (codec : Nat) : Option Nat :=
  match codec with
  | 1 => some 63 | 2 => some 51 | 3 => some 255 | 4 => some 51 | _ => none
/-- Whether CTU column `x` of a picture takes intra floor (R247): a key picture, no references, or the refresh column. -/
def Cfg.floorIntra (g : Cfg) (key : Bool) (phase x : Nat) : Bool :=
  key || g.refs == 0 || (decide ((g.refreshCols phase).1 ≤ x) && decide (x < (g.refreshCols phase).2))
/-- The floor forms of the CTUs of a band (R247): an inter floor takes the motion field's first vector of the CTU's first block
toward the nearest reference. -/
def Cfg.floorsOf (g : Cfg) (key : Bool) (phase r i : Nat) (field : List Motion) : List FloorForm :=
  (List.range (g.tileW i)).map (fun k =>
    let x := g.tileX i + k
    let intra := g.floorIntra key phase x
    let first := field.find? (fun m => m.bx == x * g.ctu / 16 && m.byy == r * g.ctu / 16 && m.ref == 0)
    { intra := intra, vector := if intra || g.jxs then none else first.map (fun m => (m.x, m.y)), qp := floorQp g.codec,
      tools := floorTools g.codec intra, reserve := if intra then g.intraFloor else g.interFloor })

/-! Colour, sizes and levels (R194, R206–R208) -/

/-- Transfer, primaries, matrix, range flag and chroma location as R208 signals them. -/
def Cfg.colour (g : Cfg) : List Nat :=
  let bt := if g.ofmt.getD 4 0 = 0 then 1 else 9
  [match g.ofmt.getD 5 0 with | 0 => 1 | 1 => 16 | _ => 18, bt, if g.omodel = 1 then 0 else bt, g.ofmt.getD 3 0] ++
    (if g.osub = 2 then [if g.codec = 3 then 1 else 0] else [])
/-- Coded size and the window that restores the output size (R207). -/
def Cfg.window (g : Cfg) : List Nat := [g.cw, g.chh, g.ow, g.oh]
/-- The division into tiles as the stream writes it (R194): widths and heights in CTUs. -/
def Cfg.division (g : Cfg) : List Nat :=
  (List.range g.tcols).map g.tileW ++
    (if g.codec = 3 then (List.range g.drows).map g.rowsIn else (List.range g.trows).map (fun j => g.tileY (j + 1) - g.tileY j))

/-- The level that the host sets; 0 chooses automatically, as JPEG XS always does (R206). -/
def Cfg.levelSet (g : Cfg) : Nat := if g.jxs then 0 else g.level
/-- The level and tier signalled (R206): the host's level with its tier there, or the lowest that fits; where none fits, HEVC
8.5, VVC 15.5 or seq_level_idx 31 in High tier. AVC and JPEG XS have no tier. [PRESUMED: log entry 103] -/
def Cfg.levelTier (g : Cfg) : Nat × Nat :=
  let tiered := g.codec == 1 || g.codec == 2 || g.codec == 3
  let lt := if g.levelSet ≠ 0 then (g.levelSet, (Config.tierAt g.fixedKey g.levelSet).getD 0)
    else match Config.levelOf g.fixedKey, g.codec with
      | some x, _ => x
      | none, 1 => (255, 1)
      | none, 2 => (255, 1)
      | none, 3 => (31, 1)
      | none, k => (Config.levelElse k, 0)
  (lt.1, if tiered then lt.2 else 0)

/-! The buffer model (R242) -/

/-- A whole number of 90 kHz ticks nearest to a time in ns, halves up. -/
def ticks90 (ns : Frac) : Nat := (ns.mul (Frac.mk' 9 100000)).round.toNat
/-- The receiver's buffer as the stream states it (R242). The CPB is Rp over one frame period, rounded up. [DEDUCED: log entry 116] -/
def Cfg.bufferModel (g : Cfg) : BufferModel :=
  let pair := fun (x : Frac) => (x.num.toNat, x.den)
  let row := g.ns g.sd
  let units := g.codec == 1 || g.codec == 2
  { rate := g.rp, cbr := g.filled,
    size := if g.jxs then g.q.toNat else ceilDiv (g.rp * g.den) g.num,
    removal := pair g.period, units := if units then g.drows * g.unitsPerRow else 0,
    increment := if units then pair row else (0, 1),
    decoderDelay := if g.codec = 3 then ticks90 g.period else 0,
    encoderDelay := if g.codec = 3 then ticks90 row else 0 }
/-- The values of the buffer model as numbers. -/
def bufferData (b : BufferModel) : List Nat :=
  [b.rate, b2n b.cbr, b.size, b.removal.1, b.removal.2, b.units, b.increment.1, b.increment.2, b.decoderDelay, b.encoderDelay]

/-! Timecode and ancillary data (R221–R223, R353, R418) -/

/-- k0 of R353: the index of the alignment point nearest to the cadence origin. -/
def Chan.k0 (c : Chan) : Nat :=
  (2 * c.origin * c.rateNum + c.rateDen * 1000000000) / (2 * c.rateDen * 1000000000)
/-- K of R353. -/
def Chan.media (c : Chan) (e : Nat) : Nat := c.k0 + e

/-- Pictures within a frame of SMPTE ST 12-1 (R223): m. -/
def Cfg.perFrame (g : Cfg) : Nat := if g.num ≤ 30 * g.den then 1 else if g.num ≤ 60 * g.den then 2 else 4
/-- The frames field of R223: of a frame number of ST 12-1, for the picture with media index k. [DEDUCED: log entry 116] -/
def Cfg.framesField (g : Cfg) (frame k : Nat) : Nat := frame * g.perFrame + k % g.perFrame
/-- The timecode that a picture carries (R221, R223): hours, minutes, seconds, frames, flags; none where the setting or its
source is missing. `line` is the timecode of the picture's line 0. -/
def Cfg.timecode (g : Cfg) (line : List Byte) (k stamp utc : Nat) : Option (List Nat) :=
  let t := line.map BitVec.toNat
  match g.info.source with
  | 1 => if t = [] then none else some (t.take 3 ++ [g.framesField (t.getD 3 0) k, t.getD 4 0 % 2])
  | 2 =>
    let c := Config.timecodeOf stamp utc g.num (g.den * g.perFrame) g.info.drop
    some ((List.range 3).map (fun j => c.getD j 0) ++ [g.framesField (c.getD 3 0) k, b2n g.info.drop])
  | _ => none

/-- The packets of a line's ancillary block (R418). -/
def ancPackets : List Byte → Nat → List AncPacket
  | _, 0 => []
  | b, fuel + 1 =>
    if b.length < 5 then []
    else
      let dc := (b.getD 4 0).toNat
      ⟨leNat (b.take 2), (b.getD 2 0).toNat, (b.getD 3 0).toNat, ((b.drop 5).take dc).map BitVec.toNat⟩ ::
        ancPackets (b.drop (ceilDiv (5 + dc) 4 * 4)) fuel
/-- A packet of captions: CEA-708 captions by their DID and SDID of SMPTE ST 334. [PRESUMED: log entry 103] -/
def isCaption (p : AncPacket) : Bool := p.did == 0x61 && p.sdid == 1

/-- The head of a Druthal T.35 payload of a kind (R222). -/
def t35 (kind : Nat) : List Nat := [0xB5, 0x0D, 0x48, kind]
/-- The T.35 payload of an ancillary packet (R222). -/
def ancPayload (p : AncPacket) : List Nat :=
  t35 2 ++ [p.line / 256, p.line % 256, p.did, p.sdid, p.udw.length % 256] ++ p.udw
/-- The cc_data of a caption packet in the T.35 "GA94" form of ATSC A/53 (R221): country and provider, "GA94", and the packet's
words. [PRESUMED: log entry 103] -/
def ga94 (p : AncPacket) : List Nat := [0xB5, 0x00, 0x31, 0x47, 0x41, 0x39, 0x34, 0x03] ++ p.udw

/-! The elements of an access unit (R220, R221, R242, R245) -/

/-- The number of an element kind. -/
def kindCode (k : ElementKind) : Nat :=
  match k with
  | .delimiter => 0 | .parameters => 1 | .buffering => 2 | .timing => 3 | .mastering => 4 | .lightLevel => 5
  | .timecode => 6 | .captions => 7 | .ancillary => 8 | .recovery => 9 | .header => 10 | .filters => 11 | .hash => 12

/-- The kinds that precede the first band, in order. -/
def frontKinds : List ElementKind :=
  [.delimiter, .parameters, .buffering, .timing, .mastering, .lightLevel, .timecode, .captions, .ancillary, .recovery,
   .header, .filters]
/-- The kinds that can follow the last band: the hash, and packets of lines that came after row 0's budget was set.
[DESIGN CHOICE: log entry 115] -/
def backKinds : List ElementKind := [.captions, .ancillary, .hash]

/-- Whether an access unit of a picture kind may carry elements of a kind (R215, R218, R220, R221, R242). JPEG XS has its
picture header alone. -/
def Cfg.carries (g : Cfg) (k : ElementKind) (key : Bool) (phase : Nat) : Bool :=
  let sei := g.codec == 1 || g.codec == 2 || g.codec == 4
  let any := sei || g.codec == 3
  match k with
  | .delimiter => any
  | .parameters => any && g.repeats key phase
  | .buffering => sei && g.access key phase
  | .timing => sei
  | .mastering => any && g.info.mastering.isSome && g.access key phase
  | .lightLevel => any && g.info.light.isSome && g.access key phase
  | .timecode => any && g.codec != 4 && g.info.source != 0
  | .captions => any && bit g.info.carry 0
  | .ancillary => any && bit g.info.carry 1
  | .recovery => (g.codec == 2 || g.codec == 4) && g.gdr != 0 && phase == 0 && !key
  | .header => !(g.codec == 2 || g.codec == 4)
  | .filters => g.codec == 1
  | .hash => (g.codec == 1 || g.codec == 2) && g.info.hash != 0

/-- The mastering primaries in the order that the codec's syntax requires (R227): the SEI messages take green, blue, red, the
AV1 metadata red, green, blue. [PRESUMED: log entry 103] -/
def Cfg.primaries (g : Cfg) (l : List Nat) : List Nat :=
  if g.codec = 3 then l else (l.drop 2).take 4 ++ l.take 2 ++ l.drop 6

/-- What a picture hands to its elements: its kind and phase, order values, timecode and ancillary packets. -/
structure Side where
  /-- R215. key picture -/
  key : Bool
  /-- R217. refresh phase -/
  phase : Nat
  /-- R214. order values -/
  order : PicOrder
  /-- R223. timecode -/
  timecode : Option (List Nat)
  /-- R221. packets -/
  packets : List AncPacket
deriving DecidableEq, Repr

/-- The data of the elements of one kind of a picture. -/
def Cfg.elementData (g : Cfg) (x : Side) (k : ElementKind) : List (List Nat) :=
  let order := [b2n x.key, x.order.poc % 65536, x.order.frameNum, x.order.idr, x.order.hint]
  let lt := g.levelTier
  match k with
  | .delimiter => [[]]
  | .parameters => [[Config.profileIdc g.codec g.profile, lt.1, lt.2] ++ g.window ++ g.ofmt ++ g.colour ++ g.division ++
      g.tools.map Prod.snd ++ [g.refs, g.num, g.den] ++ bufferData g.bufferModel]
  | .buffering => [[g.bufferModel.removal.1, g.bufferModel.removal.2]]
  | .timing => [[g.bufferModel.units, g.bufferModel.increment.1, g.bufferModel.increment.2] ++
      (if g.codec = 4 then x.timecode.getD [] else [])]
  | .mastering => (g.info.mastering.map g.primaries).toList
  | .lightLevel => (g.info.light.map (fun l => [l.1, l.2])).toList
  | .timecode => (x.timecode.map (fun t => if g.codec = 1 then t35 1 ++ t else t)).toList
  | .captions => (x.packets.filter isCaption).map ga94
  | .ancillary => (x.packets.filter (fun p => !isCaption p)).map ancPayload
  | .recovery => [[g.gdr - 1]]
  | .header => [order ++ (if g.codec = 1 ∧ g.gdr ≠ 0 ∧ x.phase = 0 ∧ !x.key then [g.gdr - 1] else [])]
  | .filters => [[]]
  | .hash => [[g.info.hash]]

/-- The elements of some kinds that a picture carries. -/
def Cfg.elementsOf (g : Cfg) (x : Side) (ks : List ElementKind) : List Element :=
  (ks.filter (fun k => g.carries k x.key x.phase)).flatMap (fun k => (g.elementData x k).map (fun d => ⟨k, d⟩))
/-- The elements that precede a picture's bands, and those that follow them: `late` are the packets that follow (R221, R250).
[DESIGN CHOICE: log entry 115] -/
def Cfg.elements (g : Cfg) (x : Side) (late : List AncPacket) : List Element × List Element :=
  (g.elementsOf x frontKinds, g.elementsOf { x with packets := late } backKinds)

/-- The most bytes that elements of a kind take in one access unit (R241). -/
def Cfg.most (g : Cfg) (k : ElementKind) : Nat :=
  Config.elementMost g.codec (kindCode k) (g.fixedKey ++ [g.info.hash, g.info.source, g.info.carry, g.info.allow * g.h])
/-- The sizes in bytes of elements in order; those of a kind take together at most what R241 counts for it. -/
def Cfg.elementSizes (g : Cfg) (es : List Element) : List Nat :=
  (es.foldl (fun (a : List Nat × List (ElementKind × Nat)) e =>
    let used := ((a.2.filter (fun x => x.1 == e.kind)).map Prod.snd).sum
    let z := min (Config.elementBytes g.codec (kindCode e.kind) e.data) (g.most e.kind - used)
    (a.1 ++ [z], (e.kind, z) :: a.2)) ([], [])).1
/-- The exact size of a picture's fixed part (R245): the bits before its bands and after them. -/
def Cfg.fixedBits (g : Cfg) (es : List Element × List Element) : Nat × Nat :=
  (8 * (g.elementSizes es.1).sum, 8 * (g.elementSizes es.2).sum)
/-- The largest fixed part of a picture kind (R241): bits in row 0, bits in the last row, and bits in all. A packet is in one
of the two rows. An inter picture is taken at phase 0, where it carries most. -/
def Cfg.fixedMax (g : Cfg) (key : Bool) : Nat × Nat × Nat :=
  let sum := fun (ks : List ElementKind) => 8 * ((ks.filter (fun k => g.carries k key 0)).map g.most).sum
  (sum frontKinds, sum backKinds, sum (frontKinds ++ [.hash]))

end Sys2Proof.Machine
end

