-- ==== Sys2Proof/Machine/Lookout.lean ====
section
/-! DEFINITION. Lookout.lean: the hierarchical motion search, its limits and the reference windows (R188–R193, R217, R246). -/

namespace Sys2Proof.Machine

/-- A list sorted by an order, equal elements in the order in which they stand. -/
def isort {α : Type} (lt : α → α → Bool) : List α → List α
  | [] => []
  | x :: r =>
    let rec ins (x : α) : List α → List α
      | [] => [x]
      | y :: l => if lt y x then y :: ins x l else x :: y :: l
    ins x (isort lt r)

/-- A vector. -/
abbrev Vec := Int × Int

/-! Samples -/

/-- A coordinate brought inside a picture of `n` samples: the edge is repeated. -/
def inside (n : Nat) (x : Int) : Nat := min (n - 1) x.toNat
/-- The sample of a plane of a picture `w` × `h` whose own columns from `x0` on stand in `line`; `far` gives the others.
[DEDUCED: log entry 102] -/
def planeAt (w h x0 : Nat) (line : Nat → List Nat) (far : Nat → Nat → Nat) (x y : Int) : Nat :=
  let a := inside w x
  let b := inside h y
  if x0 ≤ a then ((line b)[a - x0]?).getD (far a b) else far a b

/-- The own luma columns of a picture under some settings: those of the tile columns `own`. -/
def Cfg.ownCols (g : Cfg) (own : Nat × Nat) : Nat × Nat :=
  (min g.ow (g.tileX own.1 * g.ctu), min g.ow (g.tileX own.2 * g.ctu))
/-- Half of a size, rounded up (R138). -/
def halfUp (n : Nat) : Nat := (n + 1) / 2

/-- A luma sample of a picture at a search level (R188): 0 the source at full resolution, 1 its 1/4-area and 2 its 1/16-area
version. `far level x y` gives a sample that another member holds. -/
def Chan.sourceAt (c : Chan) (g : Cfg) (own : Nat × Nat) (e level : Nat) (far : Nat → Nat → Nat → Nat) (x y : Int) : Nat :=
  let x0 := (g.ownCols own).1
  match level with
  | 0 => planeAt g.ow g.oh x0 (fun l => ((tget c.ring (rowKey e l)).getD []).getD 0 []) (far 0) x y
  | 1 => planeAt (halfUp g.ow) (halfUp g.oh) (x0 / 2) (fun l => (tget c.half (rowKey e l)).getD []) (far 1) x y
  | _ => planeAt (halfUp (halfUp g.ow)) (halfUp (halfUp g.oh)) (x0 / 4) (fun l => (tget c.quarter (rowKey e l)).getD [])
      (far 2) x y

/-- The tile column that holds a CTU column (R194). -/
def Cfg.tileOf (g : Cfg) (col : Nat) : Nat := ((List.range g.tcols).filter (fun i => decide (g.tileX i ≤ col))).length - 1
/-- Horizontal and vertical subsampling of a plane of the coded picture. -/
def Cfg.planeDiv (g : Cfg) (p : Nat) : Nat × Nat :=
  if p = 0 ∨ g.omodel = 1 then (1, 1) else (if g.osub = 0 then 1 else 2, if g.osub = 2 then 2 else 1)
/-- A sample of a plane of a reconstructed picture (R199): the edge of the coded picture is repeated beyond it. -/
def Chan.reconAt (c : Chan) (g : Cfg) (own : Nat × Nat) (e p : Nat) (far : Nat → Nat → Nat → Nat) (x y : Int) : Nat :=
  let d := g.planeDiv p
  let a := inside (g.cw / d.1) x
  let b := inside (g.chh / d.2) y
  let i := g.tileOf (a * d.1 / g.ctu)
  let r := b * d.2 / g.ctu
  if own.1 ≤ i ∧ i < own.2 then
    let band := (tget c.recon (bandKey e r i)).getD []
    ((band.getD p []).getD (b - r * g.ctu / d.2) []).getD (a - g.tileX i * g.ctu / d.1) 0
  else far (3 + p) a b

/-- The sum of absolute differences of the n × n block at (x, y) against a reference displaced by a vector (R188). -/
def sadOf (cur ref : Int → Int → Nat) (n : Nat) (x y : Int) (v : Vec) : Nat :=
  ((List.range n).map (fun (j : Nat) => ((List.range n).map (fun (i : Nat) =>
    ((cur (x + i) (y + j) : Int) - ref (x + i + v.1) (y + j + v.2)).natAbs)).sum)).sum

/-! Search (R188) -/

/-- |x| + |y|. -/
def vecSize (v : Vec) : Nat := v.1.natAbs + v.2.natAbs
/-- The displacements of an exhaustive search of ±rx × ±ry, in raster order. [DEDUCED: log entry 102] -/
def offsets (rx ry : Nat) : List Vec :=
  (List.range (2 * ry + 1)).flatMap (fun (j : Nat) => (List.range (2 * rx + 1)).map (fun (i : Nat) =>
    ((i : Int) - rx, (j : Int) - ry)))
/-- A found vector with its cost put among the best `k` (R188): behind those that cost less, or as much with |x| + |y| no
larger; a vector that stands there already is not put again. -/
def keepBest (k : Nat) (best : List (Vec × Nat)) (v : Vec × Nat) : List (Vec × Nat) :=
  if best.any (fun b => b.1 == v.1) then best
  else
    let ahead := fun (b : Vec × Nat) => decide (b.2 < v.2) || b.2 == v.2 && decide (vecSize b.1 ≤ vecSize v.1)
    (best.filter ahead ++ v :: best.filter (fun b => !ahead b)).take k
/-- The best `k` of some vectors, in the order in which they are found, with their costs. -/
def bestOf (k : Nat) (cost : Vec → Nat) (vs : List Vec) : List (Vec × Nat) :=
  (vs.foldl (fun l v => if l.2.contains v then l else (keepBest k l.1 (v, cost v), v :: l.2)) ([], [])).1

/-- A number inside ±m. -/
def within (m : Nat) (x : Int) : Int := max (-(m : Int)) (min (m : Int) x)
/-- The sum of two vectors. -/
def vecAdd (a b : Vec) : Vec := (a.1 + b.1, a.2 + b.2)
/-- A vector doubled. -/
def vecTwice (a : Vec) : Vec := (2 * a.1, 2 * a.2)

/-- The key of a level-2 block in `Chan.coarse`. -/
def coarseKey (e j by_ bx : Nat) : Nat := ((e * 8 + j) * 2048 + by_) * 2048 + bx
/-- The best level-2 vector of a block, where it has one. -/
def Chan.coarseAt (c : Chan) (e j by_ bx : Nat) : Option Vec := (tget c.coarse (coarseKey e j by_ bx)).bind List.head?
/-- The median of numbers, the lower of the two in the middle; none of no numbers. [DESIGN CHOICE: log entry 117] -/
def medianOf (l : List Int) : Option Int := (isort (fun (a b : Int) => decide (a < b)) l)[(l.length - 1) / 2]?
/-- The median of a picture's level-2 field toward a reference, of its blocks' best vectors (R188). -/
def Chan.medianAt (c : Chan) (e j : Nat) : Option Vec :=
  let vs := (c.coarse.filter (fun kv => kv.1 / 4194304 == e * 8 + j)).filterMap (fun kv => kv.2.head?)
  match medianOf (vs.map Prod.fst), medianOf (vs.map Prod.snd) with
  | some x, some y => some (x, y)
  | _, _ => none
/-- The distinct predictors of a level-2 block, in order (R188). -/
def Chan.predictors (c : Chan) (e j by_ bx : Nat) : List Vec :=
  let before := fun (b a : Nat) => if e = 0 then none else c.coarseAt (e - 1) j b a
  let left := if bx = 0 then none else c.coarseAt e j by_ (bx - 1)
  let above := if by_ = 0 then none else c.coarseAt e j (by_ - 1) bx
  let right := if by_ = 0 then none else c.coarseAt e j (by_ - 1) (bx + 1)
  let mid := if e = 0 then none else c.medianAt (e - 1) j
  ([some (0, 0), before by_ bx, left, above, right, before (by_ + 1) bx, mid].filterMap id).eraseDups

/-- The four vectors kept of a level-2 block (R188). -/
def level2 (cur ref : Int → Int → Nat) (bx by_ : Nat) (preds : List Vec) : List Vec :=
  let vs := preds.flatMap (fun p => (offsets 8 4).map (fun o =>
    let v := vecAdd p o
    (within 256 v.1, within 128 v.2)))
  (bestOf 4 (sadOf cur ref 8 (8 * bx) (8 * by_)) vs).map Prod.fst

/-- Level 2 of the blocks of a CTU row, in raster order, toward each reference (R188). -/
def Chan.searchRow (c : Chan) (g : Cfg) (own : Nat × Nat) (e r : Nat) (refs : List Nat)
    (far : Nat → Nat → Nat → Nat → Nat) : Chan :=
  let cols := g.ownCols own
  let rows := (List.range (max 1 (g.ctu / 32))).map (fun k => r * g.ctu / 32 + k)
  let xs := (List.range (ceilDiv cols.2 32 - cols.1 / 32)).map (cols.1 / 32 + ·)
  ((rows.filter (fun b => decide (32 * b < g.chh))).flatMap (fun b => xs.map (fun x => (b, x)))).foldl (fun d bx =>
    refs.zipIdx.foldl (fun d ej =>
      let v := level2 (d.sourceAt g own e 2 (far e)) (d.sourceAt g own ej.1 2 (far ej.1)) bx.2 bx.1
        (d.predictors e ej.2 bx.1 bx.2)
      { d with coarse := tset d.coarse (coarseKey e ej.2 bx.1 bx.2) v }) d) c

/-! Limits (R192, R217, R246) -/

/-- The first luma column and the first luma line of a reference that a 16×16 block may not use; none where nothing limits
it. -/
structure Limit where
  /-- R217. column -/
  right : Option Nat
  /-- R192. line -/
  bottom : Option Nat
deriving DecidableEq, Repr

/-- The CTU columns of the refresh column of a picture that has one (R217). -/
def Cfg.column (g : Cfg) (key : Bool) (phase : Nat) : Option (Nat × Nat) :=
  if g.gdr = 0 ∨ key then none else some (g.refreshCols phase)
/-- What limits the references of the block at luma column `x` of CTU row `r`; none where it has no vector toward the
reference: in the refresh column (R193), and in the clean area where the reference is of an earlier period (R217). `kind` is
the reference's phase × 2, plus 1 for a key picture. -/
def Cfg.bounds (g : Cfg) (e r x phase er kind : Nat) : Option Limit :=
  let bottom := if er + 1 = e then some ((r + g.reach + 1).toNat * g.ctu) else none
  match g.column false phase with
  | none => some ⟨none, bottom⟩
  | some col =>
    let t := x / g.ctu
    if col.2 ≤ t then some ⟨none, bottom⟩
    else if col.1 ≤ t then none
    else
      let q := kind / 2
      if kind % 2 = 0 ∧ q < phase ∧ e - er = phase - q then some ⟨some ((g.refreshCols q).2 * g.ctu - 16), bottom⟩ else none

/-- A vector in units of `k` luma samples clamped so that the block at (x, y) keeps inside the limits (R192, R246).
[DEDUCED: log entry 102] -/
def Limit.clamp (l : Limit) (k : Nat) (x y : Nat) (v : Vec) : Vec :=
  let most := fun (lim at_ : Nat) => (((lim : Int) - 16 - at_) / k : Int)
  (match l.right with | some n => min v.1 (most n x) | none => v.1,
   match l.bottom with | some n => min v.2 (most n y) | none => v.2)

/-! Levels 1 and 0 -/

/-- The 16×16 luma blocks of a band, in raster order: column and row (R190). -/
def Cfg.blocks (g : Cfg) (r i : Nat) : List (Nat × Nat) :=
  let x0 := g.tileX i * g.ctu / 16
  let x1 := min (ceilDiv g.cw 16) (g.tileX (i + 1) * g.ctu / 16)
  let y0 := r * g.ctu / 16
  let y1 := min (ceilDiv g.chh 16) ((r + 1) * g.ctu / 16)
  (List.range (y1 - y0)).flatMap (fun j => (List.range (x1 - x0)).map (fun k => (x0 + k, y0 + j)))

/-- The level-1 vectors of a band (R188, R192, R246): of each block and reference, two around the four doubled level-2 vectors
of the covering block. -/
def Chan.seedsOf (c : Chan) (g : Cfg) (own : Nat × Nat) (e r i phase : Nat) (refs : List Nat)
    (far : Nat → Nat → Nat → Nat → Nat) : List Seed :=
  (g.blocks r i).flatMap (fun b => refs.zipIdx.flatMap (fun ej =>
    match g.bounds e r (16 * b.1) phase ej.1 (tgetD c.kinds ej.1 1) with
    | none => []
    | some lim =>
      let from2 := tgetD c.coarse (coarseKey e ej.2 (b.2 / 2) (b.1 / 2)) []
      let vs := from2.flatMap (fun v => (offsets 4 4).map (fun o =>
        lim.clamp 2 (16 * b.1) (16 * b.2) (vecAdd (vecTwice v) o)))
      (bestOf 2 (sadOf (c.sourceAt g own e 1 (far e)) (c.sourceAt g own ej.1 1 (far ej.1)) 8 (8 * b.1) (8 * b.2)) vs).map
        (fun v => ⟨b.1, b.2, ej.2, v.1.1, v.1.2⟩)))

/-- The reference windows of a band (R191, R192): each level-1 vector's block, displaced and extended by 8 samples, cut at the
limits. [DEDUCED: log entry 102] -/
def Chan.windowsOf (c : Chan) (g : Cfg) (e r phase : Nat) (refs : List Nat) (seeds : List Seed) : List Window :=
  seeds.filterMap (fun s =>
    let er := refs.getD s.ref 0
    (g.bounds e r (16 * s.bx) phase er (tgetD c.kinds er 1)).map (fun lim =>
      let x : Int := 16 * s.bx + 2 * s.x
      let y : Int := 16 * s.byy + 2 * s.y
      { epoch := er, x0 := x - 8, y0 := y - 8,
        x1 := match lim.right with | some n => min (x + 24) n | none => x + 24,
        y1 := match lim.bottom with | some n => min (y + 24) n | none => y + 24 }))

/-- The motion field of a band (R188, R190, R246): of each block and reference, the two best of ±2 × ±2 around its doubled
level-1 vectors, against the reconstruction. -/
def Chan.fieldOf (c : Chan) (g : Cfg) (own : Nat × Nat) (e r i phase : Nat) (refs : List Nat) (seeds : List Seed)
    (far : Nat → Nat → Nat → Nat → Nat) : List Motion :=
  (g.blocks r i).flatMap (fun b => refs.zipIdx.flatMap (fun ej =>
    let mine := seeds.filter (fun s => s.bx == b.1 && s.byy == b.2 && s.ref == ej.2)
    match g.bounds e r (16 * b.1) phase ej.1 (tgetD c.kinds ej.1 1) with
    | none => []
    | some lim =>
      let vs := mine.flatMap (fun s => (offsets 2 2).map (fun o =>
        lim.clamp 1 (16 * b.1) (16 * b.2) (vecAdd (2 * s.x, 2 * s.y) o)))
      (bestOf 2 (sadOf (c.sourceAt g own e 0 (far e)) (c.reconAt g own ej.1 0 (far ej.1)) 16 (16 * b.1) (16 * b.2)) vs).map
        (fun v => ⟨b.1, b.2, ej.2, v.1.1, v.1.2, v.2⟩)))

/-- The samples of a reference window, with the co-sited chroma (R191). -/
def Chan.windowSamples (c : Chan) (g : Cfg) (own : Nat × Nat) (w : Window) (far : Nat → Nat → Nat → Nat → Nat) : Planes :=
  (List.range 3).map (fun p =>
    let d := g.planeDiv p
    let y0 : Int := w.y0 / d.2
    let x0 : Int := w.x0 / d.1
    (List.range ((w.y1 - w.y0).toNat / d.2)).map (fun (j : Nat) => (List.range ((w.x1 - w.x0).toNat / d.1)).map (fun (k : Nat) =>
      c.reconAt g own w.epoch p (far w.epoch) (x0 + k) (y0 + j))))

end Sys2Proof.Machine
end

