-- ==== Sys2Proof/Machine/Surface.lean ====
section
/-! DEFINITION. Surface.lean: surface descriptors, plane layout and the surface compression format
(R157, R158, R167, R174–R178). -/

namespace Sys2Proof.Machine

/-- A byte of device DRAM: what was written there, or its power-on byte. [DESIGN CHOICE: log entry 13] -/
def memByte (mem : Tab Byte) (a : Nat) : Byte := (tget mem a).getD (Config.dramByte a)
/-- `n` bytes of device DRAM. [DESIGN CHOICE: log entry 13] -/
def memBytes (mem : Tab Byte) (a n : Nat) : List Byte := (List.range n).map (fun k => memByte mem (a + k))

/-- A surface descriptor (R157). -/
structure Surf where
  /-- R157. BASE -/
  base : Nat
  /-- R157. WIDTH -/
  w : Nat
  /-- R157. HEIGHT -/
  h : Nat
  /-- R157. FORMAT -/
  fmt : Nat
  /-- R157. DEPTH -/
  depth : Nat
  /-- R157. ADEPTH -/
  adepth : Nat
  /-- R157. STORAGE -/
  storage : Nat
  /-- R157. PITCH -/
  pitch : Nat
  /-- R157. RANGE -/
  range : Nat
  /-- R157. bytes 21–31 -/
  rsvd : Nat
deriving DecidableEq, Repr, Inhabited

/-- The fields of 32 descriptor bytes (R157). -/
def surfOf (b : List Byte) : Surf :=
  let f := fun i n => leNat ((b.drop i).take n)
  ⟨f 0 8, f 8 2, f 10 2, f 12 1, f 13 1, f 14 1, f 15 1, f 16 4, f 20 1, f 21 11⟩

/-- The descriptor describes no surface (R157). -/
def Surf.empty (u : Surf) : Bool := u.w == 0 || u.h == 0
/-- Subsampling: 0 4:4:4, 1 4:2:2, 2 4:2:0. -/
def Surf.sub (u : Surf) : Nat := u.fmt % 4
/-- R'G'B' planes. -/
def Surf.rgb (u : Surf) : Bool := bit u.fmt 2
/-- An alpha plane is present. -/
def Surf.alpha (u : Surf) : Bool := bit u.fmt 3
/-- The number of planes. -/
def Surf.planes (u : Surf) : Nat := if u.alpha then 4 else 3
/-- Width of plane p (R158). -/
def Surf.pw (u : Surf) (p : Nat) : Nat := if (p = 1 ∨ p = 2) ∧ u.sub ≠ 0 then ceilDiv u.w 2 else u.w
/-- Height of plane p (R158). -/
def Surf.ph (u : Surf) (p : Nat) : Nat := if (p = 1 ∨ p = 2) ∧ u.sub = 2 then ceilDiv u.h 2 else u.h
/-- Depth of plane p. -/
def Surf.pd (u : Surf) (p : Nat) : Nat := if p = 3 then u.adepth else u.depth
/-- Bytes of one sample in linear storage (R158). -/
def sampleBytes (depth : Nat) : Nat := if depth = 8 then 1 else 2
/-- A number rounded up to a multiple of 256. -/
def up256 (n : Nat) : Nat := ceilDiv n 256 * 256
/-- Tiles across plane p. -/
def Surf.tw (u : Surf) (p : Nat) : Nat := ceilDiv (u.pw p) 32
/-- Tiles down plane p. -/
def Surf.th (u : Surf) (p : Nat) : Nat := ceilDiv (u.ph p) 8
/-- Bytes of the header array of compressed plane p. -/
def Surf.headBytes (u : Surf) (p : Nat) : Nat := up256 (4 * u.tw p * u.th p)
/-- Granules of the payload area of compressed plane p: every tile in raw form. -/
def Surf.granules (u : Surf) (p : Nat) : Nat := u.tw p * u.th p * u.pd p
/-- Bytes that plane p takes (R158). -/
def Surf.planeBytes (u : Surf) (p : Nat) : Nat :=
  if u.storage = 0 then up256 (u.pitch * u.ph p) else up256 (u.headBytes p + 32 * u.granules p)
/-- The offset of plane p from BASE. -/
def Surf.planeAt (u : Surf) (p : Nat) : Nat := ((List.range p).map u.planeBytes).sum
/-- Bytes of the whole surface. -/
def Surf.bytes (u : Surf) : Nat := u.planeAt u.planes

/-- The conditions of R157 on the fields themselves. -/
def Surf.ok (u : Surf) : Bool :=
  u.empty ||
  (u.base % 256 == 0 && decide (u.w ≤ 8192) && decide (u.h ≤ 8192) && decide (u.sub ≤ 2) &&
   (!u.rgb || u.sub == 0) && decide (u.fmt < 16) &&
   [8, 10, 12, 16].contains u.depth && (if u.alpha then [8, 10, 12, 16].contains u.adepth else u.adepth == 0) &&
   decide (u.storage ≤ 1) &&
   (if u.storage = 0 then u.pitch % 256 == 0 && decide (u.w * sampleBytes u.depth ≤ u.pitch) else u.pitch == 0) &&
   decide (u.range ≤ 1) && u.rsvd == 0)

/-- Raw bytes per pixel of the surface (R166): its planes' samples at their depths. -/
def Surf.rawBytes (u : Surf) : Frac :=
  (Frac.mk' (u.depth * (match u.sub with | 0 => 6 | 1 => 4 | _ => 3)) 16).add (Frac.mk' u.adepth 8)

/-! The compression format (R174–R178) -/

/-- The bits of bytes, most significant first (R175). -/
def bitsOf (b : List Byte) : List Bool := b.flatMap (fun x => [7, 6, 5, 4, 3, 2, 1, 0].map (fun k => x.getLsbD k))
/-- `n` bits of a stream as a number, and the rest; none when the stream ends. -/
def takeBits : Nat → List Bool → Option (Nat × List Bool)
  | 0, l => some (0, l)
  | _ + 1, [] => none
  | n + 1, b :: l => (takeBits n l).map (fun r => (b2n b * 2 ^ n + r.1, r.2))

/-- The number of one-bits before the next zero-bit, at most 16 (R177). -/
def takeUnary : Nat → List Bool → Option (Nat × List Bool)
  | 0, l => some (0, l)
  | _ + 1, [] => none
  | _ + 1, false :: l => some (0, l)
  | n + 1, true :: l => (takeUnary n l).map (fun r => (r.1 + 1, r.2))

/-- The Rice parameter for A and N: the smallest k with N·2^k ≥ A, at most B − 1 (R177). -/
def riceK (a n : Nat) : Nat → Nat
  | 0 => 0
  | f + 1 => if a ≤ n then 0 else riceK a (2 * n) f + 1

/-- One Rice code of R177: the residual and the rest of the stream. -/
def riceCode (b a n : Nat) (l : List Bool) : Option (Nat × List Bool) :=
  let k := riceK a n (b - 1)
  match takeUnary 16 l with
  | none => none
  | some (q, r) =>
    if q < 16 then (takeBits k r).map (fun x => (q * 2 ^ k + x.1, x.2))
    else takeBits b r

/-- The prediction of the sample at (x, y) from the samples before it in raster order (R176). -/
def predict (done : List Nat) (x y : Nat) : Int :=
  let g := fun i => ((done.getD i 0 : Nat) : Int)
  let i := y * 32 + x
  if y = 0 then g (i - 1)
  else if x = 0 then g (i - 32)
  else
    let a := g (i - 1); let b := g (i - 32); let c := g (i - 33)
    if max a b ≤ c then min a b else if c ≤ min a b then max a b else a + b - c

/-- The residual that a code m stands for (R176). -/
def unmap (m : Nat) : Int := if m % 2 = 0 then (m / 2 : Nat) else -((m + 1) / 2 : Nat)

/-- The samples after the first of a predicted tile, `f` of them still to come (R176, R177). -/
def riceTile (b : Nat) : Nat → Nat → Nat → List Nat → List Bool → Option (List Nat)
  | 0, _, _, done, _ => some done
  | f + 1, a, n, done, l =>
    match riceCode b a n l with
    | none => none
    | some (m, r) =>
      let i := done.length
      let s := ((predict done (i % 32) (i / 32) + unmap m) % ((2 ^ b : Nat) : Int)).toNat
      let a1 := a + m
      let n1 := n + 1
      if n1 = 16 then riceTile b f (a1 / 2) 8 (done ++ [s]) r else riceTile b f a1 n1 (done ++ [s]) r

/-- A tile's 256 samples from its header and its plane's payload area of `area` granules; none when the tile is
malformed (R174, R178). `payload o n` gives n bytes at offset o of the area. -/
def tileSamples (depth area head : Nat) (payload : Nat → Nat → List Byte) : Option (List Nat) :=
  let mode := head / 0x40000000
  let gran := head / 0x2000000 % 32
  let off := head % 0x2000000
  if mode = 1 then
    if gran = 0 ∧ head / 0x10000 % 512 = 0 then some (List.replicate 256 (head % 0x10000)) else none
  else if mode = 3 then none
  else if gran = 0 ∨ depth < gran ∨ area < off + gran then none
  else
    let l := bitsOf (payload (32 * off) (32 * gran))
    if mode = 0 then
      if gran = depth then
        ((List.range 256).map (fun i => ((takeBits depth (l.drop (i * depth))).map Prod.fst).getD 0))
      else none
    else match takeBits depth l with
      | none => none
      | some (s, r) => riceTile depth 255 4 1 [s] r

/-- `n` bits of a number, most significant first (R175). -/
def numBits : Nat → Nat → List Bool
  | 0, _ => []
  | n + 1, v => v.testBit n :: numBits n v
/-- Bytes of a stream of bits, the last completed with zeros (R175). -/
def packBits : List Bool → Nat → List Byte
  | _, 0 => []
  | l, n + 1 =>
    BitVec.ofNat 8 ((List.range 8).foldl (fun a k => 2 * a + b2n (l.getD k false)) 0) :: packBits (l.drop 8) n
/-- The code m of a residual (R176). -/
def mapResidual (depth s : Nat) (pred : Int) : Nat :=
  let half : Int := (2 ^ (depth - 1) : Nat)
  let e := ((s : Int) - pred + half) % ((2 ^ depth : Nat) : Int) - half
  if 0 ≤ e then (2 * e).toNat else (-2 * e - 1).toNat
/-- The bits of one Rice code (R177). -/
def riceBits (b a n m : Nat) : List Bool :=
  let k := riceK a n (b - 1)
  if m / 2 ^ k < 16 then List.replicate (m / 2 ^ k) true ++ [false] ++ numBits k m
  else List.replicate 16 true ++ numBits b m
/-- The Rice codes of the samples from the `i`-th on (R176, R177). -/
def riceStream (b : Nat) (ss : List Nat) : Nat → Nat → Nat → Nat → List Bool
  | 0, _, _, _ => []
  | f + 1, i, a, n =>
    let m := mapResidual b (ss.getD i 0) (predict (ss.take i) (i % 32) (i / 32))
    riceBits b a n m ++ (if n + 1 = 16 then riceStream b ss f (i + 1) ((a + m) / 2) 8 else riceStream b ss f (i + 1) (a + m) (n + 1))
/-- A reference tile as the device writes it (R174–R178): its header with the OFFSET given, and its payload. Mode 2 where its
stream fits in fewer than B granules; otherwise mode 1 where every sample is equal, and mode 0 where not.
[DEDUCED: log entry 101] -/
def encodeTile (depth offset : Nat) (ss : List Nat) : Nat × List Byte :=
  let l := numBits depth (ss.headD 0) ++ riceStream depth ss 255 1 4 1
  let gran := ceilDiv l.length 256
  if gran < depth then (2 * 0x40000000 + gran * 0x2000000 + offset, packBits l (32 * gran))
  else if ss.all (fun v => v == ss.headD 0) then (0x40000000 + ss.headD 0, [])
  else (depth * 0x2000000 + offset, packBits (ss.flatMap (numBits depth)) (32 * depth))

/-- A tile of plane p of a compressed surface. -/
def Surf.tile (u : Surf) (mem : Tab Byte) (p tx ty : Nat) : Option (List Nat) :=
  let at_ := u.base + u.planeAt p
  let head := leNat (memBytes mem (at_ + 4 * (ty * u.tw p + tx)) 4)
  tileSamples (u.pd p) (u.granules p) head (fun o n => memBytes mem (at_ + u.headBytes p + o) n)

/-- The sample of plane p at (x, y); none where its tile is malformed (R158, R167). -/
def Surf.sample (u : Surf) (mem : Tab Byte) (p x y : Nat) : Option Nat :=
  if u.storage = 0 then
    let n := sampleBytes (u.pd p)
    some (leNat (memBytes mem (u.base + u.planeAt p + y * u.pitch + n * x) n) % 2 ^ u.pd p)
  else (u.tile mem p (x / 32) (y / 8)).map (fun l => l.getD (y % 8 * 32 + x % 32) 0)

/-- Malformed tiles of every plane among the tiles that cover a window of the surface (R167). -/
def Surf.malformed (u : Surf) (mem : Tab Byte) (x y w h : Nat) : Nat :=
  if u.storage = 0 ∨ u.empty = true ∨ w = 0 ∨ h = 0 then 0
  else ((List.range u.planes).map (fun p =>
    let sx := if u.pw p = u.w then 1 else 2
    let sy := if u.ph p = u.h then 1 else 2
    let x1 := x / sx / 32; let x2 := (x + w - 1) / sx / 32
    let y1 := y / sy / 8; let y2 := (y + h - 1) / sy / 8
    ((List.range (y2 + 1 - y1)).flatMap (fun b => (List.range (x2 + 1 - x1)).map (fun a =>
      b2n ((u.tile mem p (x1 + a) (y1 + b)).isNone)))).sum)).sum

end Sys2Proof.Machine
end

