-- ==== Sys2Proof/Machine/Pixel.lean ====
section
/-! DEFINITION. Pixel.lean: the pixel arithmetic of the Pergola, stage by stage (R134–R167). Samples are whole
numbers; a colour pixel is a list of three. -/

namespace Sys2Proof.Machine

/-- Clips to 16 bits. -/
def clip16 (v : Int) : Int := clampInt 0 65535 v

/-! Stage 1: format conversion -/

/-- `off` of R140. -/
def rangeOff (range depth : Nat) : Int := if range = 1 then 0 else (16 * 2 ^ (depth - 8) : Nat)
/-- `span` of R140; `chroma` for Cb and Cr. -/
def rangeSpan (range depth : Nat) (chroma : Bool) : Int :=
  if range = 1 then (2 ^ depth - 1 : Nat) else ((if chroma then 224 else 219) * 2 ^ (depth - 8) : Nat)
/-- A sample normalised to 16 bits (R140). -/
def norm16 (range depth : Nat) (chroma : Bool) (x : Int) : Int :=
  let sp := rangeSpan range depth chroma
  clip16 (((x - rangeOff range depth) * 65535 + sp / 2) / sp)

/-- Chroma of an odd column from its four neighbours (R141). -/
def chromaOdd (a b c d : Int) : Int := clip16 ((-2 * a + 18 * b + 18 * c - 2 * d + 16) / 32)
/-- A chroma sample at luma column x of a row whose chroma samples are `c j`, j below n (R141). -/
def chromaAt (c : Nat → Int) (n x : Nat) : Int :=
  let e := fun (j : Int) => c (clampInt 0 ((n : Int) - 1) j).toNat
  let j := ((x / 2 : Nat) : Int)
  if x % 2 = 0 then e j else chromaOdd (e (j - 1)) (e j) (e (j + 1)) (e (j + 2))
/-- Chroma of luma line y between chroma rows i − 1, i and i + 1 (R141). -/
def chromaLine (row : Nat → Int) (n y : Nat) : Int :=
  let e := fun (i : Int) => row (clampInt 0 ((n : Int) - 1) i).toNat
  let i := ((y / 2 : Nat) : Int)
  if y % 2 = 0 then (e (i - 1) + 3 * e i + 2) / 4 else (3 * e i + e (i + 1) + 2) / 4

/-- Chroma at full resolution for a plane of `cw`×`chh` chroma samples (R141); for 4:2:0 columns are interpolated before
lines. [DESIGN CHOICE: log entry 100] -/
def chromaFull (sub cw chh : Nat) (c : Nat → Nat → Int) (x y : Nat) : Int :=
  match sub with
  | 0 => c x y
  | 1 => chromaAt (fun j => c j y) cw x
  | _ => chromaLine (fun i => chromaAt (fun j => c j i) cw x) chh y

/-- The coefficients cR, gB, gR and bB of R142 by colorimetry. -/
def yuvCoef (colr : Nat) : Int × Int × Int × Int :=
  if colr = 0 then (12901, 1535, 3835, 15201) else (12080, 1348, 4681, 15412)
/-- Y'CbCr to R'G'B' (R142). -/
def toRgb (colr : Nat) (y cb cr : Int) : List Int :=
  let k := yuvCoef colr
  let b := cb - 32768; let r := cr - 32768
  [clip16 (y + (k.1 * r + 4096) / 8192), clip16 (y + (-k.2.1 * b - k.2.2.1 * r + 4096) / 8192),
   clip16 (y + (k.2.2.2 * b + 4096) / 8192)]

/-- The samples of line y of an input picture by component and column, at the line's own resolution (R418). -/
def lineSample (model sub : Nat) (line : List Nat) (y comp x : Nat) : Int :=
  let g := fun i => ((line.getD i 0 : Nat) : Int)
  if model = 1 ∨ sub = 0 then g (3 * x + comp)
  else if sub = 2 ∧ y % 2 = 1 then g x
  else match comp with
    | 0 => g (2 * x + 1)
    | 1 => g (4 * x)
    | _ => g (4 * x + 2)

/-- A pixel of an input picture as R'G'B' in 16 bits (R140–R142). `line y` gives the samples of line y; `fmt` is
colour model, subsampling, depth, range and colorimetry. -/
def inputPixel (fmt : List Nat) (w h : Nat) (line : Nat → List Nat) (x y : Nat) : List Int :=
  let model := fmt.getD 0 0; let sub := fmt.getD 1 0; let depth := fmt.getD 2 8; let range := fmt.getD 3 0
  let colr := fmt.getD 4 0
  if model = 1 then
    [0, 1, 2].map (fun c => norm16 range depth false (lineSample 1 0 (line y) y c x))
  else
    let cw := if sub = 0 then w else ceilDiv w 2
    let chh := if sub = 2 then ceilDiv h 2 else h
    let ch := fun comp => chromaFull sub cw chh (fun j i =>
      let yy := if sub = 2 then 2 * i else i
      norm16 range depth true (lineSample model sub (line yy) yy comp j)) x y
    toRgb colr (norm16 range depth false (lineSample model sub (line y) y 0 x)) (ch 1) (ch 2)

/-! Stage 2: polyphase scaling (R144–R146) -/

/-- A coefficient of a kernel held as 1,024 bytes (R145). -/
def kernelCoef (k : List Byte) (phase t : Nat) : Int :=
  let v := leNat ((k.drop (2 * (8 * phase + t))).take 2)
  if v < 32768 then v else (v : Int) - 65536
/-- One scaled sample (R144): source of `s` samples to a destination of `d`, sample i. -/
def scale1 (k : List Byte) (taps s d i : Nat) (src : Nat → Int) : Int :=
  let p := scalePos s d i
  let n := p / 65536
  let phase := (p / 1024 % 64).toNat
  let sum := ((List.range taps).map (fun (t : Nat) =>
    let j := clampInt 0 ((s : Int) - 1) (n - (taps / 2 : Nat) + 1 + (t : Int))
    kernelCoef k phase t * src j.toNat)).foldl (· + ·) 0
  (sum + 512) / 1024
/-- A window scaled horizontally first and then vertically (R144), each result clipped to 0–`top`. -/
def scale2 (hk vk : List Byte) (ht vt sw sh dw dh : Nat) (top : Int) (src : Nat → Nat → Int) (x y : Nat) : Int :=
  clampInt 0 top (scale1 vk vt sh dh y (fun j =>
    clampInt 0 top (scale1 hk ht sw dw x (fun i => src i j))))

/-! Stage 3: tone and gamut mapping (R150–R154) -/

/-- A U16 of a table. -/
def tab16 (t : List Byte) (i : Nat) : Int := (leNat ((t.drop (2 * i)).take 2) : Nat)
/-- A shaper or output LUT applied to component c (R150). -/
def lut1 (t : List Byte) (c : Nat) (x : Int) : Int :=
  let i := (x / 16).toNat; let f := x % 16
  (tab16 t (4097 * c + i) * (16 - f) + tab16 t (4097 * c + i + 1) * f + 8) / 16
/-- An I16 of a table. -/
def tabI16 (t : List Byte) (i : Nat) : Int :=
  let v := tab16 t i
  if v < 32768 then v else v - 65536
/-- The 3×3 matrix (R151). -/
def matrix3 (m : List Byte) (v : List Int) : List Int :=
  [0, 1, 2].map (fun j =>
    clip16 ((tabI16 m (3 * j) * v.getD 0 0 + tabI16 m (3 * j + 1) * v.getD 1 0 + tabI16 m (3 * j + 2) * v.getD 2 0 +
      4096) / 8192 + tabI16 m (9 + j)))
/-- The axes in the order of their fractions, greatest first, ties in the order R, G, B (R152). -/
def axisOrder (f : List Int) : List Nat :=
  let r := f.getD 0 0; let g := f.getD 1 0; let b := f.getD 2 0
  if g ≤ r ∧ b ≤ r then (if b ≤ g then [0, 1, 2] else [0, 2, 1])
  else if b ≤ g then (if b ≤ r then [1, 0, 2] else [1, 2, 0])
  else (if g ≤ r then [2, 0, 1] else [2, 1, 0])
/-- Tetrahedral interpolation in the 3D LUT (R152). -/
def lut3 (t : List Byte) (v : List Int) : List Int :=
  let g := v.map (fun x => (x * 32 / 65536).toNat)
  let f := v.map (fun x => x * 32 % 65536)
  let o := axisOrder f
  let step := fun (n : Nat) => (List.range 3).map (fun a => g.getD a 0 + (if (o.take n).contains a then 1 else 0))
  let ent := fun (q : List Nat) (c : Nat) =>
    tab16 t (3 * ((q.getD 0 0 * 33 + q.getD 1 0) * 33 + q.getD 2 0) + c)
  let fa := f.getD (o.getD 0 0) 0; let fb := f.getD (o.getD 1 0) 0; let fc := f.getD (o.getD 2 0) 0
  (List.range 3).map (fun c =>
    (ent (step 0) c * (65536 - fa) + ent (step 1) c * (fa - fb) + ent (step 2) c * (fb - fc) +
      ent (step 3) c * fc + 32768) / 65536)

/-- The tables of a video conversion (R153): none for bypass. -/
structure Conv where
  /-- R150. shaper LUT -/
  shaper : List Byte
  /-- R151. matrix -/
  mat : List Byte
  /-- R152. 3D LUT; none in a layer path -/
  cube : Option (List Byte)
  /-- R150. output LUT -/
  out : List Byte
deriving DecidableEq, Repr

/-- A pixel through the tables in fixed order (R150–R152, R159). -/
def Conv.map (k : Conv) (v : List Int) : List Int :=
  let a := matrix3 k.mat ((List.range 3).map (fun c => lut1 k.shaper c (v.getD c 0)))
  let b := match k.cube with
    | some t => lut3 t a
    | none => a
  (List.range 3).map (fun c => lut1 k.out c (b.getD c 0))

/-! Stage 4: layers (R159–R161) -/

/-- The alpha sample at 10 bits (R159). -/
def alpha10 (depth : Nat) (a : Int) : Int :=
  match depth with
  | 8 => a * 4 + a / 64
  | 10 => a
  | 12 => min ((a + 2) / 4) 1023
  | _ => min ((a + 32) / 64) 1023

/-- One component blended (R161). -/
def blend (premult : Bool) (aL ap src dst : Int) : Int :=
  let wL := aL + aL / 512
  let ac := (ap * wL + 512) / 1024
  let w := ac + ac / 512
  if premult then min ((src * wL + 512) / 1024 + (dst * (1024 - w) + 512) / 1024) 65535
  else (src * w + dst * (1024 - w) + 512) / 1024

/-- One layer in force (R157–R163). -/
structure Layer where
  /-- R157. surface -/
  surf : Surf
  /-- R163. source x, y, width, height -/
  src : List Nat
  /-- R160. destination X -/
  dx : Int
  /-- R160. destination Y -/
  dy : Int
  /-- R160. destination width -/
  dw : Nat
  /-- R160. destination height -/
  dh : Nat
  /-- R147. horizontal taps -/
  ht : Nat
  /-- R147. vertical taps -/
  vt : Nat
  /-- R145. kernels in force -/
  hk : List Byte
  /-- R145. kernels in force -/
  vk : List Byte
  /-- R161. premultiplied -/
  premult : Bool
  /-- R161. layer alpha -/
  alpha : Nat
  /-- R159. colour path; none for bypass -/
  conv : Option Conv
  /-- R671. colorimetry that its surface's Y'CbCr is converted with -/
  colr : Nat
deriving DecidableEq, Repr

/-- The layer is enabled (R163). -/
def Layer.on (l : Layer) : Bool :=
  !(l.src.getD 2 0 == 0 || l.src.getD 3 0 == 0 || l.dw == 0 || l.dh == 0)

/-- The layer's R'G'B' and alpha at a point of its source window (R159, R167): a malformed tile is transparent. -/
def Layer.source (l : Layer) (mem : Tab Byte) (x y : Nat) : List Int × Int :=
  let u := l.surf
  let X := l.src.getD 0 0 + x; let Y := l.src.getD 1 0 + y
  let bad := fun (p : Nat) => (u.sample mem p (X * u.pw p / u.w) (Y * u.ph p / u.h)).isNone
  if (List.range u.planes).any bad then ([0, 0, 0], 0)
  else
    let g := fun p x y => (((u.sample mem p x y).getD 0 : Nat) : Int)
    let a := if u.alpha then alpha10 u.adepth (g 3 X Y) else 1023
    if u.rgb then ([0, 1, 2].map (fun c => norm16 u.range u.depth false (g c X Y)), a)
    else
      let ch := fun p => chromaFull u.sub (u.pw 1) (u.ph 1) (fun j i => norm16 u.range u.depth true (g p j i)) X Y
      (toRgb l.colr (norm16 u.range u.depth false (g 0 X Y)) (ch 1) (ch 2), a)

/-- A layer blended over a pixel of the output picture (R160, R161). -/
def Layer.overlay (l : Layer) (mem : Tab Byte) (x y : Nat) (dst : List Int) : List Int :=
  let i := (x : Int) - l.dx; let j := (y : Int) - l.dy
  if !l.on || decide (i < 0) || decide (j < 0) || decide ((l.dw : Int) ≤ i) || decide ((l.dh : Int) ≤ j) then dst
  else
    let sc := fun (top : Int) (f : Nat → Nat → Int) =>
      scale2 l.hk l.vk l.ht l.vt (l.src.getD 2 0) (l.src.getD 3 0) l.dw l.dh top f i.toNat j.toNat
    let raw := (List.range 3).map (fun c => sc 65535 (fun a b => (l.source mem a b).1.getD c 0))
    let col := match l.conv with
      | some k => k.map raw
      | none => raw
    let ap := sc 1023 (fun a b => (l.source mem a b).2)
    (List.range 3).map (fun c => blend l.premult l.alpha ap (col.getD c 0) (dst.getD c 0))

/-! Stage 5: output formatting (R155) -/

/-- The coefficients of Y, Cb and Cr from R, G and B (R155). -/
def outCoef (colr : Nat) : List (List Int) :=
  if colr = 0 then [[1742, 5859, 591], [-939, -3157, 4096], [4096, -3720, -376]]
  else [[2152, 5554, 486], [-1144, -2952, 4096], [4096, -3767, -329]]
/-- R'G'B' to Y'CbCr in 16 bits (R155). -/
def toYuv (colr : Nat) (v : List Int) : List Int :=
  (List.range 3).map (fun j =>
    let k := (outCoef colr).getD j []
    let s := (k.getD 0 0 * v.getD 0 0 + k.getD 1 0 * v.getD 1 0 + k.getD 2 0 * v.getD 2 0 + 4096) / 8192
    clip16 (if j = 0 then s else s + 32768))
/-- A 16-bit sample reduced to depth B (R155). -/
def reduce (range depth : Nat) (chroma : Bool) (x : Int) : Nat :=
  (rangeOff range depth + (x * rangeSpan range depth chroma + 32767) / 65535).toNat

/-- The numbers from `a` to `b` − 1. -/
def upFrom (a b : Nat) : List Nat := (List.range (b - a)).map (a + ·)
/-- Component c of output line y from the blended picture `px` of `w`×`h` pixels (R155), of the columns from `cols.1` to
`cols.2` − 1 (R137). A chroma sample past the picture's edge repeats the edge's. [DESIGN CHOICE: log entry 100] -/
def outLine (fmt : List Nat) (w h : Nat) (cols : Nat × Nat) (px : Nat → Nat → List Int) (c y : Nat) : List Nat :=
  let model := fmt.getD 0 0; let sub := fmt.getD 1 0; let depth := fmt.getD 2 8; let range := fmt.getD 3 0
  let colr := fmt.getD 4 0
  let full := upFrom cols.1 cols.2
  let pairs := upFrom (cols.1 / 2) (ceilDiv cols.2 2)
  if model = 1 then full.map (fun x => reduce range depth false ((px x y).getD c 0))
  else
    let at_ := fun (x : Int) (y : Nat) => (toYuv colr (px (clampInt 0 ((w : Int) - 1) x).toNat (min y (h - 1)))).getD c 0
    if c = 0 then full.map (fun (x : Nat) => reduce range depth false (at_ (x : Int) y))
    else if sub = 0 then full.map (fun (x : Nat) => reduce range depth true (at_ (x : Int) y))
    else
      let hz := fun (i y : Nat) => (at_ (2 * i - 1 : Int) y + 2 * at_ (2 * i : Nat) y + at_ (2 * i + 1 : Nat) y + 2) / 4
      if sub = 1 then pairs.map (fun i => reduce range depth true (hz i y))
      else if y % 2 = 1 then []
      else pairs.map (fun i => reduce range depth true ((hz i y + hz i (y + 1) + 1) / 2))

/-! The search pyramid (R138) -/

/-- A line averaged over 2×2 blocks with the line below it; odd widths repeat the last column (R138). -/
def halve (a b : List Nat) : List Nat :=
  let n := a.length
  (List.range (ceilDiv n 2)).map (fun i =>
    let g := fun (l : List Nat) (x : Nat) => l.getD (min x (n - 1)) 0
    (g a (2 * i) + g a (2 * i + 1) + g b (2 * i) + g b (2 * i + 1) + 2) / 4)

/-- A black input line (R170): luma at the range's offset, chroma at its zero. -/
def blackLine (fmt : List Nat) (w y : Nat) : List Nat :=
  let model := fmt.getD 0 0; let sub := fmt.getD 1 0; let depth := fmt.getD 2 8; let range := fmt.getD 3 0
  let lo := (rangeOff range depth).toNat
  let mid := 128 * 2 ^ (depth - 8)
  if model = 1 then List.replicate (3 * w) lo
  else if sub = 0 then (List.range w).flatMap (fun _ => [lo, mid, mid])
  else if sub = 2 ∧ y % 2 = 1 then List.replicate w lo
  else (List.range (ceilDiv w 2)).flatMap (fun _ => [mid, lo, mid, lo])

/-- Samples packed in SAMPLES: most significant bit first at `depth` bits each (R418). -/
def unpack (depth n : Nat) (b : List Byte) : List Nat :=
  let rec go : Nat → List Bool → List Nat
    | 0, _ => []
    | k + 1, l => ((takeBits depth l).map Prod.fst).getD 0 :: go k (l.drop depth)
  go n (bitsOf b)

/-- Samples on line y of a format and width (R418). -/
def samplesOn (fmt : List Nat) (w y : Nat) : Nat :=
  let model := fmt.getD 0 0; let sub := fmt.getD 1 0
  if model = 1 ∨ sub = 0 then 3 * w else if sub = 2 ∧ y % 2 = 1 then w else 2 * w

/-- Samples as bytes, most significant bit first, the last byte completed with 0 (R418). -/
def pack (depth : Nat) (l : List Nat) : List Byte :=
  let bs := l.flatMap (fun v => (List.range depth).map (fun k => Nat.testBit v (depth - 1 - k)))
  (List.range (ceilDiv bs.length 8)).map (fun i =>
    BitVec.ofNat 8 ((List.range 8).foldl (fun a k => 2 * a + b2n (bs.getD (8 * i + k) false)) 0))

end Sys2Proof.Machine
end

