-- ==== Sys2Proof/Machine/Boundary.lean ====
section
/-! DEFINITION. Boundary.lean: what a frame boundary does: the writes of fired sets, the picture's kind, its fill,
and the Tollhouse's account and budget (R46, R168–R173, R214–R219, R244, R245, R257, R258, R279). -/

namespace Sys2Proof.Machine

/-- The part of the dictionary that holds channel n's objects, its host and the flows' (R87, R88,
R451). -/
def channelPart (od : Tab Val) (n : Nat) : Tab Val :=
  od.filter (fun kv => decide (okey (chI n 0) 0 ≤ kv.1) && decide (kv.1 < okey (chI (n + 1) 0) 0) ||
    decide (okey 0x3000 0 ≤ kv.1) && decide (kv.1 < okey 0x4000 0) || kv.1 == okey 0x1318 (n + 1))

/-- Channel n's settings among a map of objects (R224): the objects of its block that a host writes. -/
def channelSettings (od : Tab Val) (n : Nat) : Tab Val :=
  od.filter (fun kv => decide (okey (chI n 0) 0 ≤ kv.1) && decide (kv.1 < okey (chI (n + 1) 0) 0) &&
    (match odRow (kv.1 / 256) (kv.1 % 256) with | some r => r.acc != 0 && r.acc != 3 | none => false))

/-- The objects with which the picture of an epoch is coded and sent (R9): what the channel kept of them where a later
boundary has closed the picture. -/
def State.odAt (s : State) (n e : Nat) : Tab Val := if (s.ch n).epoch ≤ e then s.od else tgetD (s.ch n).was e s.od

/-- Channel n's settings as they apply to the picture of an epoch (R9). -/
def State.cfgAt (s : State) (n e : Nat) : Cfg := cfgOf (s.odAt n e) s.sec n

/-- The oldest picture with rows still to become ready, to be coded or to leave (R9, R200). -/
def Chan.oldest (c : Chan) (decode : Bool) : Nat :=
  (c.tails.map Prod.fst).foldl min (min c.readyE (if decode then c.retE else min c.budE c.depE))
/-- The objects of the picture that a boundary closes, kept for its rows that are still to be coded or sent (R9). -/
def Chan.keep (c : Chan) (part : Tab Val) (decode : Bool) : Chan :=
  { c with was := tset (c.was.filter (fun kv => decide (c.oldest decode ≤ kv.1 + 5))) c.epoch part }

/-- The UTC offset that PTP announces, s (R344). -/
def State.utc (s : State) : Nat := s.nat 0x1502 3 % 32768

/-- The hops h of G (R234) under a map of objects: 0 outside a pair, 1 between two devices, 5 between two clusters. -/
def State.hopsIn (s : State) (od : Tab Val) : Nat := if !odFlag od 0x1400 1 then 0 else if s.cluster.role = 0 then 1 else 5
/-- The hops h of G in force. -/
def State.hops (s : State) : Nat := s.hopsIn s.od

/-- The channel's status objects that follow from its settings (R179, R192, R203, R206, R227, R238, R260).
[DEDUCED: log entry 66] -/
def State.refreshStatus (s : State) (n : Nat) : State :=
  let g := s.cfg n
  let lv := g.levelTier
  let i := chI n 0x48
  let j := chI n 0x68
  let gx := ((g.g s.hops).add g.x).ceil
  let od := [(i, 1, (Config.profileIdc g.codec g.profile : Int)), (i, 2, (lv.1 : Int)), (i, 11, (lv.2 : Int)),
    (i, 6, ((g.demand g.cols).div (Frac.ofInt 1000000)).floor), (i, 7, (g.ceiling : Int)), (i, 8, g.reach),
    (j, 3, g.sd.ceil), (j, 4, (g.bandNs g.widest).floor), (j, 5, g.d.ceil), (j, 6, g.q), (j, 7, g.qLast),
    (j, 8, (g.picReserveMax false + (g.fixedMax false).2.2 : Nat)), (j, 9, (g.picReserveMax true + (g.fixedMax true).2.2 : Nat)),
    (j, 0x11, gx)].foldl (fun m x => odSet m x.1 x.2.1 x.2.2) s.od
  { s with od := odPut od i 10 (.oct ((g.pack.map Prod.fst).getD (zeros 32))) }

/-! The Tollhouse at a boundary -/

/-- The target of R245, bits. -/
def Cfg.target (g : Cfg) : Int := if g.num = 0 then 0 else (g.rt * g.den / g.num : Nat)

/-- The final size of a picture, or its budget while its size is not final (R245). -/
def Chan.sizeOf (c : Chan) (m : Nat) : Int := (tgetD c.sizes m (tgetD c.budgets m 0) : Nat)

/-- Pictures folded into the account at the boundary of picture n (R245): account and F + 1. [DEDUCED: log entry 65] -/
def Chan.fold (c : Chan) (g : Cfg) (n : Nat) : Int × Nat :=
  let lim := (g.limit : Int) * g.target
  let upto := n + 1 - g.lambda
  ((List.range (upto - c.folded)).foldl (fun (a : Int) k =>
    min (max (a + g.target - c.sizeOf (c.folded + k)) (-lim)) lim) c.account, max c.folded upto)

/-- The budget of picture n (R245) from the account, with its kind and its floor reserve. [DEDUCED: log entry 65] -/
def Chan.budgetOf (c : Chan) (g : Cfg) (n : Nat) (key : Bool) (reserve : Int) : Int :=
  let acc := (List.range (n - c.folded)).foldl (fun (a : Int) k =>
    a + g.target - (tgetD c.budgets (c.folded + k) 0 : Nat)) c.account
  let want := g.target + acc / ((max 1 g.spread : Nat) : Int)
  let want := if key then want * g.keyw / 16 else want
  min (max want reserve) g.capacity

/-- The weight of departure row r of picture n (R250): its final size λ pictures earlier, or 1. -/
def Chan.weight (c : Chan) (g : Cfg) (n r : Nat) (key : Bool) : Nat :=
  if key || decide (n < g.lambda) ||
      (c.rowSizes.filter (fun kv => kv.1 / 65536 == n - g.lambda)).length != g.drows then 1
  else tgetD c.rowSizes (rowKey (n - g.lambda) r) 1

/-- The Tollhouse state record of epoch n (R257). -/
def Chan.record (c : Chan) (g : Cfg) (n : Nat) (key : Bool) : List Byte :=
  let lam := g.lambda
  let f1 : Int := if c.folded = 0 then (n : Int) - lam + 1 else c.folded
  let nb := ((n : Int) - f1).toNat
  leBytes 8 n ++ leInt 8 c.account ++ leBytes 1 lam ++ leBytes 1 nb ++ leBytes 2 g.drows ++
    (List.range nb).flatMap (fun (k : Nat) =>
      let m := f1 + (k : Int)
      leBytes 4 (if m < 0 then 0 else tgetD c.budgets m.toNat 0)) ++
    (List.range g.drows).flatMap (fun r => leBytes 4 (c.weight g n r key))

/-! Picture kinds -/

/-- Whether picture n is a key picture (R215). -/
def Chan.isKey (c : Chan) (g : Cfg) (n : Nat) : Bool :=
  c.fresh || g.refs == 0 || g.jxs || (g.keyInt != 0 && decide (c.keyAt + g.keyInt ≤ n)) ||
    (g.gdr == 0 && g.ra != c.raSeen)
/-- The refresh phase of the next picture (R217, R219): 0 after a key picture, at a commit that changes the random-access
request count, and where the period itself has changed. [DESIGN CHOICE: log entry 99] -/
def Chan.nextPhase (c : Chan) (g : Cfg) (key : Bool) : Nat :=
  if g.gdr = 0 then 0
  else if key then g.gdr - 1
  else if c.key || g.ra != c.raSeen || g.gdr != c.gdrSeen then 0
  else (c.phase + 1) % g.gdr

/-- Per-row and per-band marks of pictures that no later budget or departure needs, dropped. -/
def Chan.prune (c : Chan) (g : Cfg) (n : Nat) (decode : Bool) : Chan :=
  let old := min (n - (g.lambda + 2)) (c.oldest decode)
  let far := old - 5
  { c with placedAt := c.placedAt.filter (fun kv => decide (old ≤ kv.1)),
           elements := c.elements.filter (fun kv => decide (old ≤ kv.1)),
           orders := c.orders.filter (fun kv => decide (old ≤ kv.1)),
           refsAt := c.refsAt.filter (fun kv => decide (old ≤ kv.1)),
           timecodes := c.timecodes.filter (fun kv => decide (old ≤ kv.1)),
           statsAt := c.statsAt.filter (fun kv => decide (old ≤ kv.1)),
           ring := c.ring.filter (fun kv => decide (old ≤ kv.1 / 65536)),
           half := c.half.filter (fun kv => decide (far ≤ kv.1 / 65536)),
           quarter := c.quarter.filter (fun kv => decide (far ≤ kv.1 / 65536)),
           tiles := c.tiles.filter (fun kv => decide (far ≤ kv.1 / 65536)),
           coarse := c.coarse.filter (fun kv => decide (far ≤ kv.1 / 33554432)),
           recon := c.recon.filter (fun kv => decide (far ≤ kv.1 / 4194304)),
           contexts := c.contexts.filter (fun kv => decide (far ≤ kv.1 / 4194304)),
           bandStats := c.bandStats.filter (fun kv => decide (far ≤ kv.1 / 4194304)),
           cdfs := c.cdfs.filter (fun kv => decide (far ≤ kv.1)),
           kinds := c.kinds.filter (fun kv => decide (far ≤ kv.1)),
           rowSizes := c.rowSizes.filter (fun kv => decide (old ≤ kv.1 / 65536)),
           rowBudgets := c.rowBudgets.filter (fun kv => decide (old ≤ kv.1 / 65536)),
           bandBudgets := c.bandBudgets.filter (fun kv => decide (old ≤ kv.1 / 4194304)),
           bands := c.bands.filter (fun kv => decide (old ≤ kv.1 / 4194304)),
           subs := c.subs.filter (fun k => decide (old ≤ k / 4194304)),
           seams := c.seams.filter (fun k => decide (old ≤ k / 65536)),
           stamps := c.stamps.filter (fun kv => decide (old ≤ kv.1)),
           marks := c.marks.filter (fun kv => decide (old ≤ kv.1)),
           fixedPart := c.fixedPart.filter (fun kv => decide (old ≤ kv.1)),
           budgets := c.budgets.filter (fun kv => decide (c.folded ≤ kv.1 + 1)),
           sizes := c.sizes.filter (fun kv => decide (c.folded ≤ kv.1 + 1)) }

/-- The picture in progress with its elements as its side data now stand, and the size of its fixed part (R220–R223, R245).
`utc` is the UTC offset that PTP announces. -/
def Chan.carry (c : Chan) (g : Cfg) (utc : Nat) : Chan :=
  let n := c.epoch
  let es := g.elements
    { key := c.key, phase := c.phase, order := orderOf n c.keyAt,
      timecode := g.timecode (tgetD c.timecodes n []) (c.media n) c.stamp utc, packets := c.anc.1 } c.anc.2
  { c with elements := tset c.elements n es, fixedPart := tset c.fixedPart n (g.fixedBits es) }

/-- The picture in progress with its budget and its Tollhouse record (R245, R257). -/
def Chan.setBudget (c : Chan) (g : Cfg) : Chan :=
  let n := c.epoch
  let fx := tgetD c.fixedPart n (0, 0)
  let budget := (c.budgetOf g n c.key (g.picReserve c.key c.phase + fx.1 + fx.2)).toNat
  { c with budgets := tset c.budgets n budget, toll := c.record g n c.key }

/-- The picture in progress with what its settings and its side data fix worked out anew (R55, R221, R245). -/
def Chan.restate (c : Chan) (g : Cfg) (utc : Nat) : Chan := (c.carry g utc).setBudget g

/-- The picture in progress of channel n with what its settings and its side data fix worked out anew (R55, R221, R245). -/
def State.restate (s : State) (n : Nat) : State :=
  let c := (s.ch n).restate (s.cfg n) s.utc
  (s.setCh n c).put (chI n 0x68) 0x0B (tgetD c.budgets c.epoch 0 : Nat)

/-- The band statistics of a picture in raster order (R184). -/
def Chan.statsOf (c : Chan) (m : Nat) : List (List Byte) := (c.bandStats.filter (fun kv => kv.1 / 4194304 == m)).map Prod.snd
/-- The statistics with those of the pictures folded since `c` taken in (R226, R279). [DESIGN CHOICE: log entry 104] -/
def Chan.takeStats (c : Chan) (g : Cfg) (upto : Nat) (start : Bool) : Chan :=
  let finer := (List.range (upto - c.folded)).foldl (fun a k => Config.foldStats a (c.statsOf (c.folded + k))) c.finer
  { c with finer := finer, stats := if start then Config.nextStats c.stats finer (c.record g c.epoch c.key) else c.stats }

/-- The context after the Tollhouse and the picture structure have taken picture n with its stamp (R214–R219, R242, R245,
R258). [DEDUCED: log entry 66] -/
def Chan.begin (c : Chan) (g : Cfg) (n stamp utc : Nat) : Chan :=
  let key := c.isKey g n
  let phase := c.nextPhase g key
  let k := if key then n else c.keyAt
  let fo := c.fold g n
  let c0 := c.takeStats g fo.2 (if g.gdr ≠ 0 then phase == 0 else key)
  let c1 := { c0 with
    account := fo.1, folded := fo.2, placedAt := tset c.placedAt n c.stripes, epoch := n, stamp := stamp, key := key,
    phase := phase, keyAt := k, raSeen := g.ra, gdrSeen := g.gdr, fresh := false, stamps := tset c.stamps n stamp,
    kinds := tset c.kinds n (phase * 2 + b2n key), orders := tset c.orders n (orderOf n k),
    refsAt := tset c.refsAt n (g.refsOf n k key), hrd := if g.access key phase then some g.bufferModel else c.hrd,
    statsAt := tset c.statsAt n (c0.stats, c0.finer) }
  c1.restate g utc

/-- The lines of the picture that begins: none yet for a live one; a wholly missing one is filled (R171). `slate`
says that the channel's slate describes a surface (R180). -/
def Chan.fill (c : Chan) (g : Cfg) (missing slate : Bool) : Chan :=
  let run := if missing then c.run + 1 else 0
  let all := (List.range g.h).map (fun y => (y, 2))
  let pic : Tab (List Nat) :=
    if !missing then []
    else if run ≤ g.switch ∨ g.picFill = 0 then c.lines
    else if g.picFill = 2 ∧ slate then (List.range g.h).map (fun y => (y, []))
    else []
  { c with prev := c.lines, lines := pic, have_ := if missing then all else [], missing := missing, run := run,
           discarding := false, anc := ([], []) }

/-- Line l filled by the line-fill policy (R170). -/
def Chan.fillLine (c : Chan) (g : Cfg) (l : Nat) : Chan :=
  let lines := match tget c.prev l with
    | some v => if g.lineFill = 0 then tset c.lines l v else tdel c.lines l
    | none => tdel c.lines l
  { c with lines := lines, have_ := tset c.have_ l 2, marks := tset c.marks c.epoch (setBit (tgetD c.marks c.epoch 0) 2) }

/-- OD 0x4008.02 at a boundary (R179). -/
def fillState (g : Cfg) (missing : Bool) (run : Nat) : Nat :=
  if !missing then 0 else if run ≤ g.switch ∨ g.picFill = 0 then 2 else 3

/-- A channel counter with its flag object (R179, R227, R260). -/
def State.chBump (s : State) (n off j foff fj by_ : Nat) : State :=
  { s with od := odCount s.od (chI n off) j (chI n foff) fj j 4294967296 by_ }

/-- The lines below `upto` of the picture in progress that have neither come nor been filled are filled (R170); each
is counted. -/
def State.fillMissing (s : State) (n upto : Nat) : State :=
  let c := s.ch n
  let g := s.cfg n
  let ls := (List.range (min upto g.h)).filter (fun l => (tget c.have_ l).isNone)
  if ls.isEmpty then s
  else
    let s1 := (s.setCh n (ls.foldl (fun d l => d.fillLine g l) c)).chBump n 8 4 8 9 ls.length
    if c.missing then s1 else s1.put (chI n 8) 2 1

/-- The writes of fired sets that a channel's boundary brings into force (R55, R58), in the order of arming.
[DEDUCED: log entry 38] -/
def State.takePending (s : State) (n expected : Nat) : State :=
  let c := s.ch n
  let due := c.pend.filter (fun w => decide (w.1 ≤ expected))
  if due.isEmpty then s
  else
    let s1 : State := { s with od := due.foldl (fun m (w : Nat × Tab Val) => odApply m w.2) s.od }
    (s1.setCh n { c with pend := c.pend.filter (fun w => !decide (w.1 ≤ expected)) }).refreshStatus n

/-- A channel that a transition executing waits for has reached its boundary, expected at `expected`; the last completes
the transition (R36). [DEDUCED: log entry 38] -/
def State.reached (s : State) (n expected : Nat) : State :=
  match s.moving with
  | none => s
  | some (m, due, l) =>
    if !l.contains n ∨ expected < due then s
    else
      let rest := l.filter (· != n)
      if rest.isEmpty then s.toMode m 8 else { s with moving := some (m, due, rest) }

/-- A checkpoint of every quarter the channel uses (R279), at a refresh-period boundary (R216). -/
def State.checkpoint (s : State) (n : Nat) : State :=
  let c := s.ch n
  let g := s.cfg n
  let at_ := if g.gdr ≠ 0 then c.phase == 0 else c.key
  if at_ then
    let part := channelSettings s.od n
    let program := (g.pack.map Prod.fst).getD []
    let k0 : Checkpoint := ⟨c.epoch, program, part, c.stats, []⟩
    let k : Checkpoint := { k0 with digest := Config.shake256 32 k0.body }
    let kept := (s.quartersOf n).foldl (fun t q => tset t (n * 4 + q) k) s.mews.checkpoints
    { s with mews := { s.mews with checkpoints := kept } }
  else s

/-! A pair member that rejoins (R483–R485), and a span that has lost a member (R465) -/

/-- A checkpoint's fields (R257, R483). -/
def ckptNat (b : List Byte) (at_ n : Nat) : Nat := leNat ((b.drop at_).take n)
/-- The bytes of the Tollhouse record at a checkpoint's head (R257). -/
def ckptHead (b : List Byte) : Nat := 20 + 4 * ckptNat b 17 1 + 4 * ckptNat b 18 2

/-- The primary's row sizes in place of the channel's own (R484): bits of rows, and of what leaves before the bands under row
65,535. What follows the bands is the channel's own. [DESIGN CHOICE: log entry 113] -/
def Chan.useSizes (c : Chan) (t : Tab Nat) : Chan :=
  let es := t.map (fun kv => kv.1 / 65536)
  { c with rowSizes := (t.filter (fun kv => kv.1 % 65536 != 65535)).foldl (fun m kv => tset m kv.1 kv.2) c.rowSizes,
           sizes := es.foldl (fun m e => tset m e
             (((t.filter (fun kv => kv.1 / 65536 == e)).map Prod.snd).sum + (tgetD c.fixedPart e (0, 0)).2)) c.sizes }

/-- The Tollhouse state of a checkpoint, carried forward to picture `e` with the budgets that R245 gives and the
primary's sizes (R483). -/
def Chan.install (c : Chan) (g : Cfg) (b : List Byte) (sizes : Tab Nat) (e : Nat) : Chan :=
  let ep := ckptNat b 0 8
  let acc : Int := let v := ckptNat b 8 8; if 9223372036854775808 ≤ v then (v : Int) - 18446744073709551616 else v
  let nb := ckptNat b 17 1
  let rows := ckptNat b 18 2
  let budgets := (List.range nb).foldl (fun t k => tset t (ep - nb + k) (ckptNat b (20 + 4 * k) 4)) ([] : Tab Nat)
  let weights := (List.range rows).foldl (fun t r =>
    tset t (rowKey (ep - g.lambda) r) (ckptNat b (20 + 4 * nb + 4 * r) 4)) c.rowSizes
  let c1 := { c with account := acc, folded := ep - nb, budgets := budgets, rowSizes := weights }.useSizes sizes
  (List.range (e - ep)).foldl (fun d k =>
    let m := ep + k
    let kind := tgetD d.kinds m 0
    let fx := tgetD d.fixedPart m (0, 0)
    let fo := d.fold g m
    let d1 := { d with account := fo.1, folded := fo.2 }
    let budget := d1.budgetOf g m (bit kind 0) (g.picReserve (bit kind 0) (kind / 2) + (fx.1 + fx.2 : Nat))
    { d1 with budgets := tset d1.budgets m budget.toNat }) c1

/-- A REJOINING channel's Tollhouse state at the boundary of picture `e` (R483, R484). -/
def Chan.rejoin (c : Chan) (g : Cfg) (p : PairChan) (e : Nat) : Chan :=
  if !p.rejoining then c
  else match p.ckpt with
    | some b => if ckptNat b 0 8 < e then c.install g b p.sizes e else c
    | none => if p.installed then c.useSizes p.sizes else c

/-- The flow counts of a checkpoint taken over, and the checkpoint marked installed (R483). -/
def State.installed (s : State) (n e : Nat) : State :=
  let p := s.pc n
  match p.ckpt with
  | none => s
  | some b =>
    let ep := ckptNat b 0 8
    if !p.rejoining ∨ e ≤ ep then s
    else
      let h := ckptHead b
      let flows := (List.range ((b.length - h) / 12)).map (fun k => (ckptNat b (h + 12 * k) 2, ckptNat b (h + 12 * k + 4) 8))
      let s1 := flows.foldl (fun t (fc : Nat × Nat) =>
        let x := t.fl fc.1
        t.setFl fc.1 { x with generated := fc.2 + (x.generated - tgetD x.counts ep x.generated) }) s
      s1.setPc n { p with ckpt := none, installed := true }

/-- A span channel whose lead lacks a member's units: from this boundary it sends the SAFE output policy, and the
channel stops (R465). -/
def State.spanBroken (s : State) (n e : Nat) : State :=
  let sp := tgetD s.cluster.spans n {}
  if !sp.broken ∨ sp.policy then s
  else
    let s1 : State := { s with cluster := { s.cluster with spans := tset s.cluster.spans n { sp with policy := true } } }
    (s1.setCh n { s1.ch n with policy := some e, depE := e, depRow := 0 }).stopChannel n

/-- An input-phase alarm for the filled picture of epoch `e` (R173), once a picture. -/
def State.phaseAlarm (s : State) (n e : Nat) : State :=
  let c := s.ch n
  if c.alarmed = e + 1 then s
  else ((s.setCh n { c with alarmed := e + 1 }).chBump n 8 0x0B 8 9 1).event 9 s.now (chanRec 9 n 7 e 0xFFFF 0)

/-- A channel stops at a frame boundary (R46, R667): it begins no picture there. [DEDUCED: log entry 62] -/
def State.stopHere (s : State) (n e expected : Nat) : State :=
  let c := s.ch n
  let holds : Bool := match s.moving with | some m => m.1 == .hold | none => false
  let t := ((s.setCh n { c with epoch := e, prev := c.lines, policy := if holds then some e else none }).put 0x1210 (n + 1)
    e).stopChannel n
  if s.mode = .decode then t.reached n expected else t

/-- The SAMPLES bytes of a picture's input lines, in line order (R418, R608). -/
def Chan.samples (c : Chan) (g : Cfg) : List Byte :=
  (List.range g.h).flatMap (fun y => pack (g.fmt.getD 2 8) (tgetD c.lines y []))
/-- Whether every line of the picture in progress was delivered intact or rebuilt (R423, R609). -/
def Chan.intact (c : Chan) (g : Cfg) : Bool := (List.range g.h).all (fun y => tget c.have_ y == some 1)
/-- The picture in progress, every line of it delivered or filled, passes the units that snoop channel n's lines (R608,
R609). -/
def State.snoopLines (s : State) (n : Nat) : State :=
  let c := s.ch n
  let g := s.cfg n
  { s with cs := s.cs.map (fun kv =>
      let x := kv.2
      if x.source == 3 && x.target == n && x.state == 2 && decide (x.window ≤ c.epoch) then
        (kv.1, { x with seen := tset x.seen c.epoch (c.samples g),
                        holes := if c.intact g then x.holes else c.epoch :: x.holes })
      else kv) }

/-- A frame boundary of channel n with number `e`, stamped `stamp` against the expected instant `expected`, of a
live or a wholly missing picture (R8, R46, R168–R172). Writes of fired sets apply first (R9, R55); a channel that
stops here begins no picture. [DEDUCED: log entry 62] -/
def State.boundary (s : State) (n e stamp expected : Nat) (missing : Bool) : State :=
  let s := s.early n expected
  let s0 := if (s.ch n).running then
      ((s.setCh n ((s.ch n).keep (channelPart s.od n) (s.chanMode n == .decode))).fillMissing n (s.cfg n).h).snoopLines n
    else s
  let s1 := s0.takePending n expected
  let c := s1.ch n
  let g := s1.cfg n
  let stops := (match c.stopping with | some t => decide (t ≤ expected) | none => false) || !g.enable
  if stops then s1.stopHere n e expected
  else
    let slate := !(surfOf (odBytes s1.od (chI n 6) 1)).empty
    let c0 := (c.fill g missing slate).rejoin g (s1.pc n) e
    let c1 := (c0.begin g e stamp s1.utc).prune g e (s.chanMode n == .decode)
    let c2 := { c1 with running := true, starting := none, strayed := false,
                        marks := if missing then tset c1.marks e (setBit (tgetD c1.marks e 0) 2) else c1.marks }
    let s2 := (s1.setCh n c2).installed n e
    let s3 := ((s2.put 0x1210 (n + 1) e).put (chI n 8) 2 (fillState g missing c2.run)).measure (chI n 8) 3
      ((stamp : Int) - expected) stamp
    let s4 := if missing then s3.chBump n 8 5 8 9 1 else s3
    let coded := s.chanMode n != .decode
    let s5 := if coded then s4.chBump n 0x48 3 0x48 9 1 else s4
    let s6 := if coded && (c2.key || (g.gdr != 0 && c2.phase == 0 && g.codec != 3)) then s5.chBump n 0x48 4 0x48 9 1 else s5
    let s7 := ((s6.put (chI n 0x48) 5 c2.phase).put (chI n 0x68) 0x0A c2.account).put (chI n 0x68) 0x0B
      (tgetD c2.budgets e 0 : Nat)
    let s8 := if e = 0 then s7.put (chI n 0x68) 2 g.l else s7
    let s9 := ((flowsOf s8.od n).foldl (State.flowEpoch e) (s8.checkpoint n)).pairBoundary n e
    let s10 := if missing && c.strayed then s9.phaseAlarm n e else s9
    ((s10.spanBroken n e).snoop 3 n e true).reached n expected

/-- The next boundary of a running channel: its number and its expected instant. -/
def Chan.nextBoundary (c : Chan) : Nat × Nat := (c.epoch + 1, c.expected (c.epoch + 1))

/-- The first boundary of a starting channel, whose stamp becomes the cadence origin (R168, R672). A unit that joins a
running pair takes the primary's epoch count from the checkpoint; the refresh phase and the epoch of the last key
picture, which it takes too (R485), are free values, since no message carries them. [DEDUCED: log entry 62] -/
def State.firstBoundary (s : State) (n stamp : Nat) (missing : Bool) : State :=
  let c := s.ch n
  let g := s.cfg n
  match (s.pc n).ckpt with
  | some b =>
    let e := ckptNat b 0 8 + 1
    let d := s.draw
    let k := d.2.draw
    (k.2.setCh n { c with origin := stamp - cadence g.num g.den e, rateNum := g.num, rateDen := g.den, fresh := false,
                          run := 0, lines := [], phase := d.1 % max 1 g.gdr, keyAt := e - 1 - k.1 % e, readyE := e,
                          budE := e, depE := e, retE := e, raSeen := g.ra, gdrSeen := g.gdr }).boundary n e stamp stamp missing
  | none =>
    (s.setCh n { c with origin := stamp, rateNum := g.num, rateDen := g.den, fresh := true, run := 0, lines := [] }).boundary
      n 0 stamp stamp missing

/-- W lines of a channel in ns, rounded up: when a boundary is supplied (R169). -/
def State.lockNs (s : State) (n : Nat) : Nat :=
  let g := s.cfg n
  (g.ns (Frac.ofInt g.lock)).ceil.toNat
/-- The whole ns in W lines: a stamp lies within W lines where it is no further off than this (R168). -/
def State.lockIn (s : State) (n : Nat) : Nat :=
  let g := s.cfg n
  (g.ns (Frac.ofInt g.lock)).floor.toNat

/-- An event of class 0x09 of channel n (R319). -/
def State.chEvent (s : State) (cls n what row count : Nat) : State :=
  s.event cls s.now (chanRec cls n what (s.ch n).epoch row count)

/-- BOUNDARY_SUPPLIED (R169): no line 0 by the expected boundary plus W lines; the picture is wholly missing.
[DEDUCED: log entry 62] -/
def execBoundarySupplied (chan : Nat) (s : State) : Host.Outcome State Fault Refusal :=
  if 128 ≤ chan then .fault .noSuchUnit
  else
    let c := s.ch chan
    let b := c.nextBoundary
    let t := b.2 + s.lockNs chan
    if c.running && s.source chan == 0xFF && decide (t ≤ s.now) then .next (s.boundary chan b.1 t b.2 true)
    else .next s

/-- FIRST_BOUNDARY_SUPPLIED (R672): no line 0 by T + P + W lines; the first boundary is supplied and is the cadence
origin. [DEDUCED: log entry 62] -/
def execFirstBoundarySupplied (chan : Nat) (s : State) : Host.Outcome State Fault Refusal :=
  if 128 ≤ chan then .fault .noSuchUnit
  else .next (s.onStarting chan (fun (u : State) =>
    match (u.ch chan).starting with
    | none => u
    | some t0 =>
      let t := t0 + (u.cfg chan).period.ceil.toNat + u.lockNs chan
      if u.source chan == 0xFF && decide (t ≤ u.now) then u.firstBoundary chan t true else u))

end Sys2Proof.Machine
end

