-- ==== Sys2Proof/Machine/Timebase.lean ====
section
/-! DEFINITION. Timebase.lean: the servo, PTP, PPS_IN, captures and trigger outputs (R321–R345, R673). -/

namespace Sys2Proof.Machine

/-! States and corrections (R326, R333) -/

/-- The Timebase's state (R333). -/
def State.tbState (s : State) : Nat := s.nat 0x1500 9
/-- The clockClass that the device announces (R335). -/
def State.ownClass (s : State) : Nat :=
  if s.tb.everLocked then (if s.tbState = 3 then (if s.tb.overLimit then 52 else 7) else s.nat 0x1502 4 / 256)
  else 248
/-- OD 0x1502.04 brought up to date. -/
def State.putClass (s : State) : State := s.put 0x1502 4 ((s.nat 0x1502 4 / 256 * 256 + s.ownClass : Nat) : Int)
/-- A change of the Timebase's state (R333): counted, with an event that carries the offset. [DEDUCED: log entry 78] -/
def State.toTb (s : State) (state : Nat) (offset : Int) : State :=
  if s.tbState = state then s
  else (((s.put 0x1500 9 state).bump 0x1508 2 0x1508 6).ev 10 3 state offset).putClass
/-- Whether R326 allows a step: no channel runs and timetable lists 0 to 2 are empty. -/
def State.mayStep (s : State) : Bool :=
  s.runningChans.isEmpty && (s.ttl 0).isEmpty && (s.ttl 1).isEmpty && (s.ttl 2).isEmpty
/-- An instant moved with a step of PTP time by `d` ns, so that what has passed since it, or what remains until it, is kept. -/
def later (d : Int) (t : Nat) : Nat := ((t : Int) + d).toNat
/-- The instants of a table moved with a step. -/
def laterTab (d : Int) (l : Tab Nat) : Tab Nat := l.map (fun e => (e.1, later d e.2))
/-- The control paths' intervals across a step (R113, R115, R118, R124, R129, R581). [DEDUCED: log entry 78] -/
def controlLater (d : Int) (c : Control) : Control :=
  { c with
    sessions := c.sessions.map (fun e => (e.1, { e.2 with
      lastUse := later d e.2.lastUse
      subs := e.2.subs.map (fun x => { x with last := later d x.last })
      xfer := e.2.xfer.map (fun x => { x with last := later d x.last }) }))
    hands := c.hands.map (fun e => (e.1, { e.2 with began := later d e.2.began }))
    can := c.can.map (fun x => { x with last := later d x.last })
    relays := c.relays.map (fun x => { x with sent := later d x.sent }) }
/-- A PTP port's intervals across a step (R334). [DEDUCED: log entry 78] -/
def ptpLater (d : Int) (p : PtpPort) : PtpPort :=
  let move := fun (m : PtpMaster) => { m with annAt := later d m.annAt, syncAt := later d m.syncAt }
  { p with master := p.master.map move, others := p.others.map move,
           sync := p.sync.map (fun x => (later d x.1, x.2)),
           pending := p.pending.map (fun x => (x.1, later d x.2)),
           delay := p.delay.map (fun x => (x.1, later d x.2)),
           sentAt := (later d p.sentAt.1, later d p.sentAt.2.1, later d p.sentAt.2.2) }
/-- The root clock's intervals across a step (R536, R537, R543, R544). [DEDUCED: log entry 78] -/
def clockLater (d : Int) (k : Clock) : Clock :=
  { k with since := later d k.since, qualFrom := k.qualFrom.map (later d),
           glitches := (k.glitches.1, later d k.glitches.2), tried := later d k.tried }
/-- The links' intervals across a step (R414, R433). [DEDUCED: log entry 78] -/
def linkLater (d : Int) (p : CwPort) : CwPort :=
  { p with envelope := p.envelope.map (later d), ackAt := later d p.ackAt, replayTo := later d p.replayTo
           idleSince := later d p.idleSince }
/-- The cluster's intervals across a step (R23, R447, R448, R452, R453). [DEDUCED: log entry 78] -/
def clusterLater (d : Int) (c : Cluster) : Cluster :=
  { c with nodes := c.nodes.map (fun e => (e.1, { e.2 with differs := e.2.differs.map (later d), beat := later d e.2.beat }))
           window := c.window.map (later d), joinAt := later d c.joinAt, beatAt := later d c.beatAt
           syncAt := later d c.syncAt, delayAt := later d c.delayAt, delayTx := c.delayTx.map (later d) }
/-- The outputs and capture inputs across a step (R328, R340): a pulse that is high completes its width, and a periodic
generator resumes at its next instant in the new time. -/
def State.stepEdges (s : State) (d : Int) : State :=
  { s with
    trig := { high := laterTab d s.trig.high, gpio := laterTab d s.trig.gpio
              last := (List.range 16).map (fun k => (k, later d s.now)) }
    cap := s.cap.map (fun e => (e.1, { e.2 with edge := e.2.edge.map (later d) })) }
/-- PTP time stepped by `d` ns (R326, R328). The instants that the machine acts on stay; the intervals that it times go on
as if there had been no step. [DEDUCED: log entry 78] -/
def State.step48 (s : State) (d : Int) : State :=
  let s0 := s.stepEdges d
  let s1 : State := { s0 with
    tb := { s0.tb with t0 := s0.tb.t0 + d * q48, slewAt := later d s0.tb.slewAt, holdoverAt := later d s0.tb.holdoverAt
                       adjLog := s0.tb.adjLog.map (fun e => (later d e.1, e.2)) }
    ctl := controlLater d s0.ctl
    ptp := { s0.ptp with ports := s0.ptp.ports.map (fun e => (e.1, ptpLater d e.2)) }
    sets := s0.sets.map (fun e => (e.1, { e.2 with finished := later d e.2.finished }))
    mews := { s0.mews with pavs := s0.mews.pavs.map (fun e => (e.1, { e.2 with
      faults := e.2.faults.map (later d), began := later d e.2.began }))
                           eus := s0.mews.eus.map (fun e => (e.1, { e.2 with faults := e.2.faults.map (later d) })) }
    clk := clockLater d s0.clk
    cw := s0.cw.map (fun e => (e.1, linkLater d e.2))
    net := s0.net.map (fun e => (e.1, { e.2 with askedAt := later d e.2.askedAt }))
    ring := s0.ring.map (fun e => (e.1, { e.2 with irqAt := e.2.irqAt.map (later d) }))
    cluster := clusterLater d s0.cluster
    pair := { s0.pair with beat := later d s0.pair.beat, beatTx := later d s0.pair.beatTx
                           holdFrom := s0.pair.holdFrom.map (later d) }
    dram := s0.dram.map (fun e => (e.1, { e.2 with paidAt := e.2.paidAt.map (later d), woke := later d e.2.woke }))
    cs := s0.cs.map (fun e => (e.1, { e.2 with began := later d e.2.began }))
    perf := { s0.perf with test := s0.perf.test.map (fun e => (e.1, e.2.1, e.2.2.1, later d e.2.2.2)) } }
  (((s1.bump 0x1508 1 0x1508 6).put 0x1502 7 d).ev 10 4 0 d)
/-- ADJ of a rate in ppb × 2^20 (R673). -/
def adjOf (rate : Int) : Int := (Frac.mk' (rate * 35184372) 104857600).round
/-- The rate in ppb × 2^20 that ADJ holds (R673). -/
def rateOf (adj : Int) : Int := (Frac.mk' (adj * 104857600) 35184372).round
/-- The frequency term, or the rate that ADJ holds before the servo's first evaluation (R673). -/
def State.freqTerm (s : State) : Int := s.tb.freq.getD (rateOf (s.num 0x1500 4))
/-- A slew begins that removes `o` ns at the slew limit (R326). -/
def State.startSlew (s : State) (o : Int) : State :=
  let f := s.freqTerm
  let lim := s.num 0x1500 7 * 1048576
  let s1 : State := { s with tb := { s.tb with slew := some o, slewAt := s.now, freq := some f, good := 0 } }
  s1.setAdj (adjOf (if 0 ≤ o then f - lim else f + lim))
/-- What a slew has still to remove (R326). -/
def State.slewLeft (s : State) (o : Int) : Int :=
  let gone : Int := ((s.now - s.tb.slewAt) * s.nat 0x1500 7 / 1000000000 : Nat)
  if 0 ≤ o then max 0 (o - gone) else min 0 (o + gone)

/-- One evaluation of the servo (R673): `o` the offset in ns, `tn ÷ td` the Sync interval in s. [DEDUCED: log entry 79] -/
def State.servo (s : State) (o : Int) (tn td : Nat) : State :=
  let per := fun (k : Nat) => (Frac.mk' (o * 1048576 * td) (k * tn)).round
  let f := s.freqTerm - per 64
  let lim := s.num 0x1500 7 * 1048576
  let c := clampInt (-lim) lim (-(per 8))
  let s1 := ({ s with tb := { s.tb with freq := some f } }).setAdj (adjOf (f + c))
  if s1.tbState = 2 then
    { s1 with tb := { s1.tb with adjLog := (s1.now, s1.num 0x1500 4) :: s1.tb.adjLog.takeWhile (fun a =>
      decide (s1.now ≤ a.1 + 17000000000)) } }
  else s1

/-- A parent has been chosen: ACQUIRING (R333). -/
def State.acquire (s : State) : State :=
  ({ s with tb := { s.tb with exchanges := 0, good := 0, bad := 0, slew := none, freq := none } }).toTb 1 (s.num 0x1500 0x0A)

/-- The mean of ADJ over the last 16 s of LOCKED, or over the whole of the latest LOCKED span if shorter (R333). -/
def meanAdj (now : Nat) (l : List (Nat × Int)) (cur : Int) : Int :=
  let lo := now - 16000000000
  let r := l.foldl (fun (a : Nat × Int × Nat) x =>
    let from_ := max lo x.1
    let w := a.1 - from_
    (from_, a.2.1 + x.2 * (w : Nat), a.2.2 + w)) (now, 0, 0)
  if r.2.2 = 0 then cur else (Frac.mk' r.2.1 r.2.2).round

/-- The parent, or the reference, is lost and no other qualifies (R333, R334): HOLDOVER or FREE_RUN.
[DEDUCED: log entry 79] -/
def State.loseTime (s : State) : State :=
  let s0 : State := { s with tb := { s.tb with slew := none } }
  if s.tb.wasLocked then
    let s1 := s0.setAdj (if s.tbState = 2 then meanAdj s.now s.tb.adjLog (s.num 0x1500 4)
      else meanAdj ((s.tb.adjLog.headD (s.now, 0)).1) s.tb.adjLog (s.num 0x1500 4))
    ({ s1 with tb := { s1.tb with holdoverAt := s1.now, overLimit := false } }).toTb 3 (s.num 0x1500 0x0A)
  else (if s.tb.slew.isSome then s0.setAdj (adjOf s.freqTerm) else s0).toTb 0 (s.num 0x1500 0x0A)

/-- The Timebase is LOCKED (R333). -/
def State.lockTime (s : State) (o : Int) : State :=
  let t := { s.tb with wasLocked := true, everLocked := true, bad := 0, adjLog := [(s.now, s.num 0x1500 4)] }
  ({ s with tb := t }).toTb 2 o

/-- Counting towards LOCKED (R333). [DEDUCED: log entry 79] -/
def State.countGood (s : State) (o : Int) : State :=
  if o.natAbs < 100 then
    if 15 ≤ s.tb.good then s.lockTime o else { s with tb := { s.tb with good := s.tb.good + 1 } }
  else { s with tb := { s.tb with good := 0 } }

/-- A measured offset `o` taken by the Timebase (R333, R673). [DEDUCED: log entry 78] -/
def State.takeOffset (s : State) (o : Int) (tn td : Nat) : State :=
  let s0 := s.measure 0x1500 0x0A o s.now
  match s0.tbState with
  | 1 =>
    if s0.tb.exchanges < 8 then s0
    else if s0.tb.exchanges = 8 then
      let s1 : State := { s0 with tb := { s0.tb with exchanges := 9, good := 0 } }
      if o.natAbs < 100 then s1
      else if s1.mayStep ∧ s1.nat 0x1500 8 < o.natAbs then s1.step48 (-o)
      else (s1.startSlew o).toTb 4 o
    else (s0.servo o tn td).countGood o
  | 4 =>
    match s0.tb.slew with
    | some _ => { s0 with tb := { s0.tb with slew := some o, slewAt := s0.now } }
    | none => (s0.servo o tn td).countGood o
  | 2 =>
    let bad := if 1000 < o.natAbs then s0.tb.bad + 1 else 0
    let s1 : State := { s0 with tb := { s0.tb with bad := bad } }
    if 4 ≤ bad then ((s1.startSlew o).toTb 4 o)
    else s1.servo o tn td
  | _ => s0

/-- SLEW_COMPLETE (R326): the remaining offset of a slew is under 100 ns; ADJ returns to the servo.
[DEDUCED: log entry 79] -/
def execSlewComplete (s : State) : Host.Outcome State Fault Refusal :=
  match s.tb.slew with
  | none => .next s
  | some o =>
    if (s.slewLeft o).natAbs < 100 then
      let s1 : State := { s with tb := { s.tb with slew := none, good := 0 } }
      .next (s1.setAdj (adjOf s.freqTerm))
    else .next s

/-! Writes of the Timebase's objects (R325–R327, R344) -/

/-- A correction of `d` ns asked for by the host (R326, R327): slewed up to the step threshold, stepped above it, and
refused with BUSY where a step is not allowed. [DEDUCED: log entry 78] -/
def timeSet (time : Nat) (s : State) : Code × State :=
  let d : Int := (time : Int) - s.now
  if s.nat 0x1500 6 ≠ 2 then (.busy, s)
  else if !s.mayStep then (.busy, s)
  else if d.natAbs ≤ s.nat 0x1500 8 then (.ok, if d = 0 then s else s.startSlew (-d))
  else (.ok, s.step48 d)

/-- OD 0x1500.0D written (R327): the correction that a slew is removing is stepped instead. -/
def applyPendingStep (s : State) : Code × State :=
  match s.tb.slew with
  | none => (.ok, s)
  | some o =>
    if !s.mayStep then (.busy, s)
    else
      let left := s.slewLeft o
      let s1 := ({ s with tb := { s.tb with slew := none, good := 0 } }).setAdj (adjOf s.freqTerm)
      (.ok, s1.step48 (-left))

/-- OD 0x1500.0E written (R325): the seconds of the next PPS_IN edge. -/
def ppsSeconds (sec : Nat) (s : State) : Code × State := (.ok, { s with tb := { s.tb with ppsSeconds := some sec } })

/-- ADJ written (R322, R325). -/
def adjWrite (adj : Int) (s : State) : Code × State :=
  if s.nat 0x1500 6 ≠ 2 then (.busy, s) else (.ok, s.setAdj adj)

/-- PPS_IN_EDGE (R325): a rising edge of PPS_IN at PTP ns `edge` on the Timebase, its second named by the host or, without
a name, used for rate only. [DEDUCED: log entry 14] -/
def execPpsInEdge (edge : Nat) (s : State) : Host.Outcome State Fault Refusal :=
  if s.nat 0x1500 6 ≠ 1 ∨ s.clk.bypass = true ∨ s.cluster.role = 2 then .next s
  else match s.tb.ppsSeconds with
    | some sec =>
      let s1 : State := { s with tb := { s.tb with ppsSeconds := none } }
      let s2 := if s1.tbState = 0 ∨ s1.tbState = 3 then
        let a := s1.acquire
        { a with tb := { a.tb with exchanges := 8 } } else s1
      .next (s2.takeOffset ((edge : Int) - sec * 1000000000) 1 1)
    | none =>
      let m := edge % 1000000000
      let o : Int := if m < 500000000 then m else (m : Int) - 1000000000
      let t := s.tbState
      .next (if (t = 1 ∧ s.tb.exchanges = 9) ∨ t = 2 ∨ (t = 4 ∧ s.tb.slew.isNone) then s.servo o 1 1 else s)

/-- HOLDOVER_LIMIT_EXPIRY (R335): HOLDOVER has lasted longer than the holdover limit. -/
def execHoldoverLimitExpiry (s : State) : Host.Outcome State Fault Refusal :=
  if s.tbState = 3 ∧ s.tb.holdoverAt + s.nat 0x1500 0x0C * 1000000000 ≤ s.now ∧ s.tb.overLimit = false then
    .next ({ s with tb := { s.tb with overLimit := true } }).putClass
  else .next s

/-! PTP (R329–R335) -/

/-- PTP port k. -/
def State.pp (s : State) (k : Nat) : PtpPort := tgetD s.ptp.ports k {}
/-- The machine with PTP port k changed; OD 0x1502.05 reports the port states. -/
def State.setPp (s : State) (k : Nat) (p : PtpPort) : State :=
  let ports := tset s.ptp.ports k p
  ({ s with ptp := { s.ptp with ports := ports } }).put 0x1502 5
    (([0, 1, 2, 3].map (fun j => (tgetD ports j {}).state * 16 ^ j)).sum : Nat)
/-- The ports on which PTP runs (R330). -/
def State.ptpPorts (s : State) : List Nat :=
  let m := bits (s.nat 0x1501 5) 4
  if s.nat 0x1501 1 = 2 then m else m.take 1
/-- A port with link whose frames a PTP port takes and sends (R349). -/
def State.ptpLink (s : State) (k : Nat) : Bool := s.flag (0x1A00 + k) 1 && s.flag (0x1A00 + k) 10
/-- A mode in which PTP runs (R30). -/
def Mode.ptp (m : Mode) : Bool := m != .dormant && m != .ret
/-- Whether PTP runs on a port and may steer the Timebase (R30, R325, R336, R452). [DEDUCED: log entry 80] -/
def State.ptpOn (s : State) (k : Nat) : Bool := s.ptpLink k && s.mode.ptp && s.ptp.running && s.ptpPorts.contains k
/-- Whether PTP steers the Timebase. -/
def State.ptpSteers (s : State) : Bool := s.nat 0x1500 6 == 0 && !s.clk.bypass && s.cluster.role != 2
/-- An interval of 2^k s in ns. -/
def logNs (k : Int) : Nat := if 0 ≤ k then 1000000000 * 2 ^ k.toNat else 1000000000 / 2 ^ (-k).toNat
/-- A PTP frame comes to a port: one with link counts it and takes it (R349, R378). -/
def State.ptpRx (s : State) (k : Nat) (f : State → State) : State := if s.ptpLink k then f (s.netRx k) else s
/-- What steers the Timebase has changed (R325, R333): a host clock runs free, a parent that steers is acquired, and with
neither the Timebase has lost its reference. -/
def State.retime (s : State) : State :=
  if s.nat 0x1500 6 = 2 then
    ({ s with tb := { s.tb with slew := none, freq := none, wasLocked := false, good := 0, bad := 0 } }).toTb 0
      (s.num 0x1500 0x0A)
  else if s.ptpSteers && s.ptp.parent.isSome then s.acquire
  else s.loseTime

/-- Whether an Announce of a master still counts: announceReceiptTimeout intervals have not passed (R334). -/
def State.fresh (s : State) (m : PtpMaster) : Bool :=
  decide (s.now < m.annAt + s.nat 0x1501 0x0A * logNs m.ann.interval)

/-- The dataset of an Announce in the order of comparison (R329). [DEDUCED: log entry 80] -/
def announceData (a : AnnounceMsg) : List Nat :=
  [a.priority1, a.clockClass, a.accuracy, a.variance, a.priority2, a.identity, a.steps]
/-- The clockClass of the device's own clock: 7 or 52 in HOLDOVER (R335), and 248 where it is only another clock's time.
[DEDUCED: log entry 80] -/
def State.ownClock (s : State) : Nat := if s.tbState = 3 then s.ownClass else 248
/-- The dataset of the device's own clock. [DEDUCED: log entry 80] -/
def State.ownData (s : State) : List Nat :=
  let q := Config.clockQuality s.ownClock
  [s.nat 0x1501 3, s.ownClock, q / 65536, q % 65536, s.nat 0x1501 4, s.sec.macBase, 0]
/-- The first list comes before the second in dictionary order. -/
def dataBefore : List Nat → List Nat → Bool
  | a :: r, b :: t => if a = b then dataBefore r t else decide (a < b)
  | _, _ => false

/-- The better of two masters (R329). -/
def betterMaster (a b : PtpMaster) : PtpMaster := if dataBefore (announceData b.ann) (announceData a.ann) then b else a

/-- The best master of a port chosen anew among those heard there whose Announce messages still count (R329, R334).
[DEDUCED: log entry 80] -/
def State.electOn (s : State) (k : Nat) : State :=
  let p := s.pp k
  match (p.master.toList ++ p.others).filter s.fresh with
  | [] => s.setPp k { p with master := none, others := [], sync := none, pending := none, delay := none }
  | a :: r =>
    let m := r.foldl betterMaster a
    let rest := (a :: r).filter (fun x => x.ann.source != m.ann.source)
    if p.master.map (fun x => x.ann.source) = some m.ann.source then s.setPp k { p with master := some m, others := rest }
    else s.setPp k { p with master := some m, others := rest, sync := none, pending := none, delay := none }

/-- The best master heard on any port, with its port (R329). [DEDUCED: log entry 80] -/
def State.bestMaster (s : State) : Option (Nat × PtpMaster) :=
  s.ptpPorts.foldl (fun a k =>
    match (s.pp k).master, a with
    | none, _ => a
    | some m, none => some (k, m)
    | some m, some (j, b) => if dataBefore (announceData m.ann) (announceData b.ann) then some (k, m) else some (j, b)) none

/-- The grandmaster's figures of OD 0x1502 (R344). -/
def State.putGrandmaster (s : State) (a : AnnounceMsg) : State :=
  let id := (leBytes 8 a.identity).reverse
  let changed := s.od |> fun od => odBytes od 0x1502 1 != id
  let s1 := ((s.putVal 0x1502 1 (.oct id)).put 0x1502 2 a.steps).put 0x1502 3 a.utc
  let s2 := (s1.put 0x1502 4 ((a.clockClass % 256 * 256 + s1.nat 0x1502 4 % 256 : Nat) : Int)).putClass
  let s3 := if a.smpte = [] then s2 else s2.putVal 0x1502 6 (.oct a.smpte)
  if changed then (s3.bump 0x1508 3 0x1508 6).ev 10 5 0 (s.num 0x1500 0x0A) else s3

/-- The best master clock algorithm (R329, R334): a parent is chosen, kept or given up, and the ports take their
states. [DEDUCED: log entry 80] -/
def State.bmca (s0 : State) : State :=
  let was := fun (p : Nat) => (s0.pp p).master.map (fun x => x.ann.source)
  let s := s0.ptpPorts.foldl State.electOn s0
  let best := s.bestMaster
  let own := s.nat 0x1501 1 ≠ 0
  let pick := match best with
    | some (k, m) => if own ∧ dataBefore s.ownData (announceData m.ann) then none else some (k, m)
    | none => none
  let same : Bool := match pick, s.ptp.parent with
    | some (k, m), some p => k == p && decide (was p = some m.ann.source)
    | none, none => true
    | _, _ => false
  let s1 : State := { s with ptp := { s.ptp with parent := pick.map Prod.fst } }
  let s2 := s1.ptpPorts.foldl (fun t k =>
    let state := match pick with
      | some (p, _) => if k = p then (if t.tbState = 2 then 9 else 8) else if t.nat 0x1501 1 = 2 then 6 else 4
      | none => if own then 6 else 4
    t.setPp k { t.pp k with state := state }) s1
  match pick with
  | some (_, m) =>
    let s3 := s2.putGrandmaster m.ann
    if same || !s.ptpSteers then s3 else s3.acquire
  | none => if same || !s.ptpSteers then s2 else s2.loseTime

/-- A setting of OD 0x1501 has changed: another domain's masters are forgotten, a port outside the mask is disabled, and the
algorithm runs again (R329, R330, R345). [DEDUCED: log entry 80] -/
def State.ptpChanged (s : State) : State :=
  let on := s.ptpPorts
  ((List.range 4).foldl (fun (t : State) k =>
    let p := t.pp k
    if on.contains k then
      let mine := fun (x : PtpMaster) => x.ann.domain == s.nat 0x1501 2
      t.setPp k { p with master := p.master.filter mine, others := p.others.filter mine }
    else t.setPp k { p with state := 3, master := none, others := [], sync := none, pending := none, delay := none }) s).bmca

/-- The frame of an Announce taken by a port (R329). -/
def State.takeAnnounce (s : State) (port : Nat) (m : AnnounceMsg) : State :=
  if !s.ptpOn port || m.domain != s.nat 0x1501 2 || s.cluster.role == 2 then s
  else
  let p := s.pp port
  if p.master.map (fun x => x.ann.source) = some m.source then
    (s.setPp port { p with master := p.master.map (fun x => { x with ann := m, annAt := s.now }) }).bmca
  else
    (s.setPp port { p with others := ⟨m, s.now, s.now⟩ :: p.others.filter (fun x => x.ann.source != m.source) }).bmca

/-- PTP_ANNOUNCE (R329): an Announce heard on a port. -/
def execPtpAnnounce (port : Nat) (m : AnnounceMsg) (s : State) : Host.Outcome State Fault Refusal :=
  if 4 ≤ port then .fault .noSuchUnit else .next (s.ptpRx port (fun u => u.takeAnnounce port m))

/-- Ingress latency, egress latency and asymmetry of a port, ns (R331). -/
def State.latency (s : State) (k j : Nat) : Int := s.num 0x1503 (3 * k + j)

/-- A Sync measured (R331, R333): origin t1 and ingress t2. -/
def State.syncAt (s : State) (k : Nat) (t1 t2 : Int) : State :=
  let p := s.pp k
  let s1 := s.setPp k { p with sync := some (t2.toNat, t1.toNat), pending := none,
                               master := p.master.map (fun m => { m with syncAt := s.now }) }
  if s1.ptp.parent = some k ∧ s1.ptpSteers then
    let o := t2 - t1 - s1.num 0x1500 0x0B - s1.latency k 3
    let e := s1.num 0x1501 7
    let s2 := if 0 ≤ e then s1.takeOffset o (2 ^ e.toNat) 1 else s1.takeOffset o 1 (2 ^ (-e).toNat)
    let q := s2.pp k
    s2.setPp k { q with state := if s2.tbState = 2 then 9 else 8 }
  else s1

/-- The frame of a Sync or a Follow_Up taken by a port (R331, R333). -/
def State.takeSync (s : State) (port : Nat) (m : SyncMsg) : State :=
  let p := s.pp port
  let t2 : Int := (m.ingress : Int) - s.latency port 1
  if !s.ptpOn port || m.domain != s.nat 0x1501 2 ||
      p.master.map (fun x => x.ann.source) != some m.source then s
  else if m.follow then
    match p.pending with
    | some (q, t) => if q = m.seq then (s.syncAt port m.origin t) else s
    | none => s
  else if m.twoStep then (s.setPp port { p with pending := some (m.seq, t2.toNat) })
  else (s.syncAt port m.origin t2)

/-- PTP_SYNC (R329, R331): a one-step Sync, a two-step Sync or its Follow_Up from a port's master. -/
def execPtpSync (port : Nat) (m : SyncMsg) (s : State) : Host.Outcome State Fault Refusal :=
  if 4 ≤ port then .fault .noSuchUnit else .next (s.ptpRx port (fun u => u.takeSync port m))

/-- The frame of a Delay_Resp taken by a port (R331, R333). -/
def State.takeDelayResp (s : State) (port : Nat) (m : DelayRespMsg) : State :=
  let p := s.pp port
  match p.delay, p.sync with
  | some (q, t3), some (t2, t1) =>
    if !s.ptpOn port || m.domain != s.nat 0x1501 2 || q != m.seq || s.ptp.parent != some port ||
        p.master.map (fun x => x.ann.source) != some m.source then s
    else
      let d : Int := (((t2 : Int) - t1) + ((m.receive : Int) - t3)) / 2
      let s1 := (s.setPp port { p with delay := none }).measure 0x1500 0x0B d s.now
      (if s1.tb.exchanges < 8 then { s1 with tb := { s1.tb with exchanges := s1.tb.exchanges + 1 } } else s1)
  | _, _ => s

/-- PTP_DELAY_RESP (R329, R333): the answer to this port's Delay_Req completes an exchange. -/
def execPtpDelayResp (port : Nat) (m : DelayRespMsg) (s : State) : Host.Outcome State Fault Refusal :=
  if 4 ≤ port then .fault .noSuchUnit else .next (s.ptpRx port (fun u => u.takeDelayResp port m))

/-- The data that the device announces (R329, R335): its parent's grandmaster, one step on, or its own clock, with the
synchronization metadata last received from the parent or, as grandmaster, zeros. [DEDUCED: log entry 80] -/
def State.announced (s : State) : AnnounceMsg :=
  let interval := s.num 0x1501 8
  let base : AnnounceMsg :=
    { source := s.sec.macBase, domain := s.nat 0x1501 2, priority1 := s.nat 0x1501 3, clockClass := s.ownClass,
      accuracy := Config.clockQuality s.ownClass / 65536, variance := Config.clockQuality s.ownClass % 65536,
      priority2 := s.nat 0x1501 4, identity := s.sec.macBase, steps := 0, utc := s.nat 0x1502 3, interval := interval,
      smpte := List.replicate (odBytes s.od 0x1502 6).length 0 }
  match s.ptp.parent.bind (fun k => (s.pp k).master) with
  | none => base
  | some m =>
    { base with priority1 := m.ann.priority1, clockClass := m.ann.clockClass, accuracy := m.ann.accuracy,
                variance := m.ann.variance, priority2 := m.ann.priority2, identity := m.ann.identity,
                steps := m.ann.steps + 1, utc := m.ann.utc, smpte := odBytes s.od 0x1502 6 }
/-- The sum of two 16-bit words in one's complement. -/
def onesAdd (a b : Nat) : Nat := (a + b) % 65536 + (a + b) / 65536
/-- A UDP checksum after ten bytes of zeros have become a timestamp (R332): the bytes are seconds (48 bits) and nanoseconds
(32 bits), most significant first. -/
def stampChecksum (sum stamp : Nat) : Nat :=
  let n := stamp / 1000000000 % 2 ^ 48 * 2 ^ 32 + stamp % 1000000000
  let words := (List.range 5).map (fun k => n / 65536 ^ k % 65536)
  65535 - words.foldl onesAdd (65535 - sum % 65536)
/-- A message as a port sends it (R329, R332): the timestamp of a Sync and a Delay_Req is written as it leaves, and its UDP
checksum with it. -/
def State.message (s : State) (port kind seq stamp : Nat) (unicast : Bool) (target : Nat) : PtpMsg :=
  let m : PtpMsg :=
    { kind := kind, port := port, domain := s.nat 0x1501 2, seq := seq,
      interval := if kind = 0 then s.num 0x1501 7 else if kind = 3 then s.num 0x1501 8 else s.num 0x1501 9,
      dscp := s.nat 0x1501 0x0B, unicast := unicast, target := target, stamp := if kind < 2 then 0 else stamp,
      ann := if kind = 3 then some s.announced else none, checksum := 0 }
  let sum := Config.ptpChecksum m
  if kind < 2 then { m with stamp := stamp, checksum := stampChecksum sum stamp } else { m with checksum := sum }

/-- The frame of a Delay_Req taken by a port (R329, R330). -/
def State.takeDelayReq (s : State) (port : Nat) (m : DelayReqMsg) : State :=
  let p := s.pp port
  if s.ptpOn port && p.state == 6 && m.domain == s.nat 0x1501 2 then
    (s.setPp port { p with out := some (s.message port 2 m.seq ((m.ingress : Int) - s.latency port 1).toNat m.unicast
      m.source) }).netTx port 1
  else s

/-- PTP_DELAY_REQ (R329, R330): a master port answers a Delay_Req with its ingress time. -/
def execPtpDelayReq (port : Nat) (m : DelayReqMsg) (s : State) : Host.Outcome State Fault Refusal :=
  if 4 ≤ port then .fault .noSuchUnit else .next (s.ptpRx port (fun u => u.takeDelayReq port m))

/-- PTP_MESSAGE_SEND (R330–R332, R335): a port sends its next Sync (0) or Announce (3) as a master, or Delay_Req (1) as a
slave, when its interval has passed; a Sync and a Delay_Req carry their egress time as originTimestamp. -/
def execPtpMessageSend (port kind egress : Nat) (s : State) : Host.Outcome State Fault Refusal :=
  if 4 ≤ port ∨ 4 ≤ kind then .fault .noSuchUnit
  else
    let p := s.pp port
    let t := ((egress : Int) + s.latency port 2).toNat
    if !s.ptpOn port then .next s
    else match kind with
      | 0 =>
        if p.state = 6 ∧ p.sentAt.1 + logNs (s.num 0x1501 7) ≤ s.now then
          .next ((s.setPp port { p with out := some (s.message port 0 p.seq.1 t false 0), seq := ((p.seq.1 + 1) % 65536, p.seq.2),
                                        sentAt := (s.now, p.sentAt.2) }).netTx port 1)
        else .next s
      | 1 =>
        if (p.state = 8 ∨ p.state = 9) ∧ p.sentAt.2.2 + logNs (s.num 0x1501 9) ≤ s.now then
          .next ((s.setPp port { p with out := some (s.message port 1 p.seq.2.2 t (s.flag 0x1501 6)
                                          ((p.master.map (fun x => x.ann.source)).getD 0)),
                                        delay := some (p.seq.2.2, t),
                                        seq := (p.seq.1, p.seq.2.1, (p.seq.2.2 + 1) % 65536),
                                        sentAt := (p.sentAt.1, p.sentAt.2.1, s.now) }).netTx port 1)
        else .next s
      | 3 =>
        if p.state = 6 ∧ p.sentAt.2.1 + logNs (s.num 0x1501 8) ≤ s.now then
          .next ((s.setPp port { p with out := some (s.message port 3 p.seq.2.1 0 false 0),
                                        seq := (p.seq.1, (p.seq.2.1 + 1) % 65536, p.seq.2.2),
                                        sentAt := (p.sentAt.1, s.now, p.sentAt.2.2) }).netTx port 1)
        else .next s
      | _ => .next s

/-- PTP_PARENT_LOST (R334): no Announce for the receipt timeout, or no Sync for 8 intervals; the best master clock
algorithm runs at once. -/
def execPtpParentLost (s : State) : Host.Outcome State Fault Refusal :=
  match s.ptp.parent with
  | none => .next s
  | some k =>
    match (s.pp k).master with
    | none => .next s
    | some m =>
      if s.fresh m = false ∨ m.syncAt + 8 * logNs (s.num 0x1501 7) ≤ s.now then
        .next (s.setPp k { s.pp k with master := none, sync := none, pending := none, delay := none }).bmca
      else .next s

/-! Captures (R340–R342) -/

/-- CAPTURE_EDGE (R340, R342): an edge of a capture input at PTP ns `time`. [DEDUCED: log entry 14] -/
def execCaptureEdge (input : Nat) (falling : Bool) (time : Nat) (s : State) : Host.Outcome State Fault Refusal :=
  if 8 ≤ input then .fault .noSuchUnit
  else
    let w := s.nat 0x1510 (input + 1)
    let c := tgetD s.cap input {}
    let e := w / 8192 % 4
    let wanted := bit w 15 && (e == 2 || e == b2n falling)
    let soon := match c.edge with | some t => decide (time < t + 20) | none => false
    if !wanted || soon then .next s
    else
      let seq := (c.seq + 1) % 65536
      if 64 ≤ c.fifo.length then
        let s1 : State := { s with cap := tset s.cap input { c with seq := seq, edge := some time, lost := true } }
        .next ((s1.bump 0x1508 5 0x1508 6).event 10 s.now (evRec 10 2 input time 0))
      else
        let r := (stamp32 time, seq, b2n falling + (if c.lost then 2 else 0))
        let s1 : State := { s with cap := tset s.cap input { fifo := c.fifo ++ [r], seq := seq, edge := some time } }
        .next (s1.event 10 s.now (evRec 10 1 input time 0))

/-- The record of a capture (R342). -/
def captureRecord (input : Nat) (r : Nat × Nat × Nat) : List Byte :=
  leBytes 4 r.1 ++ leBytes 2 r.2.1 ++ leBytes 1 input ++ leBytes 1 r.2.2

/-! Trigger outputs (R337–R339) -/

/-- Generator outputs run in this mode (R339). [DESIGN CHOICE: log entry 61] -/
def State.triggersRun (s : State) : Bool := s.mode != .dormant && s.mode != .starting && s.mode != .ret

/-- A rising edge of generator k at PTP ns `edge` (R337): the output stays high for the width, and is counted.
[DESIGN CHOICE: log entry 61] -/
def State.pulse (s : State) (k edge : Nat) : State :=
  if !s.triggersRun then s
  else
    let t := { s.trig with high := tset s.trig.high k (edge + s.nat (0x1520 + k) 6), last := tset s.trig.last k edge }
    ({ s with trig := t }).put (0x1520 + k) 9 ((s.nat (0x1520 + k) 9 + 1) % 4294967296 : Nat)

/-- The generators in a mode with a target. [DESIGN CHOICE: log entry 61] -/
def State.generators (s : State) (mode : Nat) (target : Nat → Bool) : List Nat :=
  (List.range 16).filter (fun k => s.nat (0x1520 + k) 1 == mode && target (s.nat (0x1520 + k) 3))

/-- Whether `edge` is an instant of a periodic or frame generator (R337). -/
def State.triggerAt (s : State) (k edge : Nat) : Bool :=
  let i := 0x1520 + k
  if s.nat i 1 = 1 then
    let p := s.nat i 4
    let ph := s.nat i 5
    decide (p ≠ 0) && decide (ph ≤ edge) && (edge - ph) % p == 0
  else if s.nat i 1 = 2 then
    let c := s.ch (s.nat i 3)
    let b := (edge : Int) - s.num i 7
    let m := max 1 (s.nat i 8)
    let near := ((b - c.origin).toNat * c.rateNum) / (1000000000 * max 1 c.rateDen)
    c.running && [near - 1, near, near + 1].any (fun e => ((c.expected e : Nat) : Int) == b && e % m == 0)
  else false

/-- Whether a generator's output is high (R337, R339, R345): within a pulse, and low in a mode that drives it low, when off
and in periodic mode with a period of 0. -/
def State.triggerHigh (s : State) (k : Nat) : Bool :=
  s.triggersRun && s.nat (0x1520 + k) 1 != 0 && !(s.nat (0x1520 + k) 1 == 1 && s.nat (0x1520 + k) 4 == 0) &&
    (match tget s.trig.high k with | some t => decide (s.now < t) | none => false)
/-- Whether the ball GPIOn is driven high by a generator that names it or by a pulse of kind 0x0B (R337, R338). -/
def State.gpioHigh (s : State) (ball : Nat) : Bool :=
  (List.range 15).any (fun k => s.nat (0x1520 + k) 2 == ball && s.triggerHigh k) ||
    (match tget s.trig.gpio ball with | some t => decide (s.now < t) | none => false)
/-- Whether PPS_OUT is high (R337): TG15 drives it. -/
def State.ppsHigh (s : State) : Bool := s.triggerHigh 15

/-- A free action of the timetable runs (R65, R66, R284, R338): an alarm only reports; a GPIO pulse begins at its tick, with a
width that the manual does not state; a trigger-output pulse is a rising edge of its generator. [DEDUCED: log entry 60] -/
def State.runFree (s : State) (e : TtEntry) : State :=
  let at_ := if e.due < s.tick then s.tick else e.due
  let s1 := if e.kind = 0x0B then
      let d := s.draw
      { d.2 with trig := { d.2.trig with gpio := tset d.2.trig.gpio e.target (at_ * 100 + d.1) } }
    else if e.kind = 0x0C ∧ s.nat (0x1520 + e.target) 1 = 5 then s.pulse e.target (at_ * 100)
    else s
  s1.ttDone e ((at_ - e.due) * 100)

/-- A free action comes (R65, R284, R287): one that is not in the timetable enters it, where the next tick at or after its DUE
runs it; one that is, and is due, runs. [DEDUCED: log entry 60] -/
def State.freeAction (s : State) (e : TtEntry) : State :=
  if (s.ttl 3).contains e then (if e.due ≤ s.tick then (s.ttRemove (fun d => d == e)).runFree e else s)
  else s.ttInsert e

/-- ALARM (R65, R66, R284). [DEDUCED: log entry 60] -/
def execAlarm (due ref session : Nat) (s : State) : Host.Outcome State Fault Refusal :=
  .next (s.freeAction ⟨due, 0x0A, 0, ref % 4294967296, session⟩)

/-- GPIO_PULSE (R65, R66, R284, R338). [DEDUCED: log entry 60; DESIGN CHOICE: log entry 61] -/
def execGpioPulse (due pin ref session : Nat) (s : State) : Host.Outcome State Fault Refusal :=
  if 16 ≤ pin then .fault .noSuchUnit else .next (s.freeAction ⟨due, 0x0B, pin, ref % 4294967296, session⟩)

/-- TRIGGER_OUTPUT_PULSE (R284, R337): a rising edge at PTP ns `edge` of a periodic or frame generator; in timetable mode, the
free action of kind 0x0C at that tick. [DEDUCED: log entry 60] -/
def execTriggerOutputPulse (tg edge : Nat) (s : State) : Host.Outcome State Fault Refusal :=
  if 16 ≤ tg then .fault .noSuchUnit
  else if s.nat (0x1520 + tg) 1 = 5 then .next (s.freeAction ⟨edge / 100, 0x0C, tg, 0, 0⟩)
  else
    let seen := match tget s.trig.last tg with | some t => decide (edge ≤ t) | none => false
    if s.triggerAt tg edge && !seen && decide (edge ≤ s.now) then .next (s.pulse tg edge) else .next s

end Sys2Proof.Machine
end

