-- ==== Sys2Proof/Machine/Net.lean ====
section
/-! DEFINITION. Net.lean: NET ports, flows on them, address resolution and the PCIe rings (R346–R380). -/

namespace Sys2Proof.Machine

/-- NET port k. [DEDUCED: log entry 92] -/
def State.port (s : State) (k : Nat) : Port := tgetD s.net k {}
/-- The machine with NET port k changed. -/
def State.setPort (s : State) (k : Nat) (p : Port) : State := { s with net := tset s.net k p }
/-! Ports -/

/-- A port that has link and is enabled (R349). -/
def State.linkUp (s : State) (k : Nat) : Bool := s.flag (0x1A00 + k) 1 && s.flag (0x1A00 + k) 10
/-- Whether a port takes its address from OD 0x1102 (R347). -/
def sopPort (od : Tab Val) (k : Nat) : Bool := bit (odNat od 0x1102 2) k
/-- IPv4 address of a port (R347). -/
def portIp (od : Tab Val) (k : Nat) : Nat := if sopPort od k then odNat od 0x1102 1 else odNat od (0x1A00 + k) 4
/-- Prefix length of a port (R347). -/
def portPrefixLen (od : Tab Val) (k : Nat) : Nat := if sopPort od k then odNat od 0x1102 3 else odNat od (0x1A00 + k) 5
/-- Gateway of a port (R347). -/
def portGateway (od : Tab Val) (k : Nat) : Nat := if sopPort od k then odNat od 0x1102 4 else odNat od (0x1A00 + k) 6
/-- A multicast destination (R348). -/
def multicast (ip : Nat) : Bool := ip / 0x10000000 == 14
/-- The next hop of a unicast destination (R348). -/
def nextHop (od : Tab Val) (k ip : Nat) : Nat :=
  let m := 2 ^ (32 - portPrefixLen od k)
  if ip / m = portIp od k / m then ip else portGateway od k
/-- Whether a destination on a port can be sent to: multicast, or its next hop is resolved (R348). -/
def State.resolved (s : State) (k ip : Nat) : Bool :=
  multicast ip || (tget (s.port k).hops (nextHop s.od k ip)).isSome

/-- The event record of class 0x0B (R377). -/
def State.netEvent (s : State) (what unit flow value : Nat) : State :=
  s.event 0x0B s.now (leBytes 1 0x0B ++ leBytes 1 what ++ leBytes 1 unit ++ zeros 1 ++ leBytes 4 (stamp32 s.now) ++
    leBytes 2 flow ++ leBytes 6 value)

/-- The enabled flows with a path on port k. -/
def State.flowsOnPort (s : State) (k : Nat) : List Nat :=
  (enabledFlows s.od).filter (fun f => !onRing s.od f &&
    (s.flNat f 0 5 == k || (s.flag (flI f 0) 8 && s.flNat f 0 9 == k)))
/-- The next hops that the flows on port k need (R348). -/
def State.hopsNeeded (s : State) (k : Nat) : List Nat :=
  ((s.flowsOnPort k).flatMap (fun f =>
    (if s.flNat f 0 5 = k then [s.flNat f 0 6] else []) ++
    (if s.flag (flI f 0) 8 && s.flNat f 0 9 == k then [s.flNat f 0 10] else []))).filter (fun ip => !multicast ip)
    |>.map (nextHop s.od k) |>.filter (· != 0) |>.eraseDups

/-- Port k asks for the next hops of its flows by ARP (R348); each request is a frame sent. -/
def State.resolve (s : State) (k : Nat) : State :=
  let need := s.hopsNeeded k
  let p := s.port k
  let ip := portIp s.od k
  let frame := match need.getLast? with
    | some h => leBytes 2 1 ++ leBytes 4 ip ++ leBytes 4 h
    | none => p.out
  if s.linkUp k then
    (s.setPort k { p with asked := need, askedAt := s.now, out := frame }).netTx k need.length
  else s

/-- NET_LINK_CHANGE (R349): a port's link goes down or comes up. -/
def execNetLinkChange (port : Nat) (up : Bool) (s : State) : Host.Outcome State Fault Refusal :=
  if 4 ≤ port then .fault .noSuchUnit
  else if s.flag (0x1A00 + port) 10 = up then .next s
  else .next ((s.put (0x1A00 + port) 10 (b2n up)).netEvent (if up then 2 else 1) port 0xFFFF (s.flowsOnPort port).length)

/-- ARP_RESOLVE (R348): the port asks for its flows' next hops, every 60 s and when a flow is enabled. -/
def execArpResolve (port : Nat) (s : State) : Host.Outcome State Fault Refusal :=
  if 4 ≤ port then .fault .noSuchUnit else .next (s.resolve port)

/-- The first of the flows on a port that a resolved next hop serves. -/
def State.flowVia (s : State) (k hop : Nat) : Nat :=
  ((s.flowsOnPort k).find? (fun f =>
    (s.flNat f 0 5 == k && nextHop s.od k (s.flNat f 0 6) == hop) ||
    (s.flNat f 0 9 == k && nextHop s.od k (s.flNat f 0 10) == hop))).getD 0xFFFF

/-- ARP_RECEIVED (R346, R348): a request for the port's own address is answered; a reply to a request of the port
resolves that next hop. [DEDUCED: log entry 92] -/
def execArpReceived (port : Nat) (a : ArpPacket) (s : State) : Host.Outcome State Fault Refusal :=
  if 4 ≤ port then .fault .noSuchUnit
  else if !s.linkUp port then .next s
  else
    let s := s.netRx port
    let p := s.port port
    if a.op = 1 then
      if a.targetIp = portIp s.od port ∧ a.targetIp ≠ 0 then
        let frame := List.append (leBytes 2 2) (odBytes s.od (0x1A00 + port) 9) ++ leBytes 4 a.targetIp ++
          leBytes 6 a.senderMac ++ leBytes 4 a.senderIp
        .next ((s.setPort port { p with out := frame }).netTx port 1)
      else .next s
    else if a.op = 2 ∧ p.asked.contains a.senderIp = true then
      let s1 := s.setPort port { p with hops := tset p.hops a.senderIp a.senderMac,
                                        asked := p.asked.filter (· != a.senderIp) }
      .next (if (tget p.hops a.senderIp).isSome then s1 else s1.netEvent 4 port (s.flowVia port a.senderIp) 0)
    else .next s

/-- Destinations that a port joins for a map of objects: input paths (OD 0x4071, 0x4072) and, where it runs PTP, 224.0.1.129
(R346). [DEDUCED: log entry 92] -/
def State.joinedBy (s : State) (od : Tab Val) (k : Nat) : List Nat :=
  ((channels.flatMap (fun n => [0x71, 0x72].filterMap (fun off =>
    let i := chI n off
    if odFlag od i 1 && odNat od i 5 == k && multicast (odNat od i 2) then some (odNat od i 2) else none))) ++
  (if s.ptpOn k then [0xE0000181] else [])).eraseDups
/-- Destinations that a port has joined (R346). -/
def State.joined (s : State) (k : Nat) : List Nat := s.joinedBy s.od k
/-- Membership reports of some groups sent by a port (R346). -/
def State.report (s : State) (k : Nat) (groups : List Nat) : State :=
  if groups.isEmpty || !s.linkUp k then s
  else (s.setPort k { s.port k with out := groups.flatMap (leBytes 4) }).netTx k groups.length
/-- The ports report the groups that a commit makes them join (R346): `od` is what was to be in force before it, and `od'` what
is. [DEDUCED: log entry 92] -/
def State.reportNew (s old : State) (od od' : Tab Val) : State :=
  [0, 1, 2, 3].foldl (fun t k => t.report k ((s.joinedBy od' k).filter (fun x => !(old.joinedBy od k).contains x))) s

/-- IGMP_QUERY (R346): a general (group 0) or group query is answered with membership reports. [DEDUCED: log entry 92] -/
def execIgmpQuery (port group : Nat) (s : State) : Host.Outcome State Fault Refusal :=
  if 4 ≤ port then .fault .noSuchUnit
  else if !s.linkUp port then .next s
  else
    let s := s.netRx port
    .next (s.report port ((s.joined port).filter (fun g => group == 0 || g == group)))

/-- ICMP_ECHO (R346): an echo request to the port's address is answered with an echo reply. [DEDUCED: log entry 92] -/
def execIcmpEcho (port : Nat) (e : EchoPacket) (s : State) : Host.Outcome State Fault Refusal :=
  if 4 ≤ port then .fault .noSuchUnit
  else if !s.linkUp port then .next s
  else
    let s := s.netRx port
    if e.targetIp = portIp s.od port ∧ e.targetIp ≠ 0 then
      let frame := leBytes 6 e.senderMac ++ leBytes 4 e.targetIp ++ leBytes 4 e.senderIp ++ leBytes 2 e.ident ++
        leBytes 2 e.seq ++ e.data
      let q := { s.port port with out := frame }
      .next ((s.setPort port q).netTx port 1)
    else .next s

/-! Sending on flows -/

/-- Datagrams of a flow handed to one path (R348, R349, R376): counted as sent, or discarded and counted. Part
`j` is 2 for path A and 4 for path B. -/
def State.sendPath (s : State) (f j port ip packets bytes : Nat) : State :=
  if packets = 0 then s
  else if !s.linkUp port then s.bumpBy (flI f 3) 7 (flI f 3) 9 packets
  else if !s.resolved port ip then
    (s.bumpBy (flI f 3) 7 (flI f 3) 9 packets).netEvent 3 port f packets
  else
    ((s.bump64 (flI f 3) j (flI f 3) 9 packets).bump64 (flI f 3) (j + 1) (flI f 3) 9 bytes).netTx port packets

/-- Whether a flow's datagrams carry RTP sequence numbers (R355). -/
def rtpFlow (od : Tab Val) (f : Nat) : Bool := let t := odNat od (flI f 0) 4; t == 0 || t == 2 || t == 3

/-- Packets generated by a flow (R355): the extended sequence number advances whether or not they are sent; bit 6 of
OD 0x3003.09 latches a wrap of the 16-bit number (R376). -/
def State.generate (s : State) (od : Tab Val) (f packets : Nat) : State :=
  if packets = 0 then s
  else
    let x := s.fl f
    let first := odNat od (flI f 1) 3
    let last := first + x.generated + packets - 1
    let s1 := s.setFl f { x with generated := x.generated + packets }
    if rtpFlow od f then
      let s2 := s1.put (flI f 3) 6 (last % 65536 : Nat)
      if (first + x.generated) / 65536 < (last + 1) / 65536 then
        { s2 with od := odSetFlag s2.od (flI f 3) 9 6 } else s2
    else s1

/-- `packets` datagrams generated by a flow as a map of objects sets it (R9), of which `sent`, with `bytes` bytes in all, go
out on its paths and the others are withheld (R355, R368, R478). [DEDUCED: log entry 71] -/
def State.sendFlow (s : State) (od : Tab Val) (f packets sent bytes : Nat) : State :=
  let h := odNat od (flI f 0)
  let s1 := s.generate od f packets
  if onRing od f then s1
  else
    let s2 := s1.sendPath f 2 (h 5) (h 6) sent bytes
    if h 8 ≠ 0 then s2.sendPath f 4 (h 9) (h 10) sent bytes else s2

/-- A flow starts: its numbers count from the initial ones (R352, R355). [DEDUCED: log entry 73] -/
def State.startFlow (s : State) (f : Nat) : State := s.setFl f { running := true, sdp := (s.fl f).sdp }
/-- A flow stops (R352). [DEDUCED: log entry 73] -/
def State.stopFlow (s : State) (f : Nat) : State := s.setFl f { s.fl f with running := false }

/-- OD 0x3003.01 (R379). -/
def State.flowState (s : State) (f : Nat) : Nat :=
  if !(s.fl f).running then 0
  else if !onRing s.od f && !s.linkUp (s.flNat f 0 5) then 4
  else if !onRing s.od f && !s.resolved (s.flNat f 0 5) (s.flNat f 0 6) then 3
  else if s.mode == .safe || s.mode == .hold then 2
  else 1

/-! PCIe rings (R370–R375) -/

/-- Ring r: DR0–DR15 are 0–15, IR0–IR15 are 16–31. -/
def State.rg (s : State) (r : Nat) : Ring := tgetD s.ring r {}
/-- The machine with ring r changed. -/
def State.setRg (s : State) (r : Nat) (x : Ring) : State := { s with ring := tset s.ring r x }
/-- A ring size that R370 allows. -/
def ringSizeOk (n : Nat) : Bool := (List.range 11).any (fun k => n == 2 ^ (6 + k))
/-- The unit number of a ring in the events of R377. -/
def ringUnit (r : Nat) : Nat := if r < 16 then 0x10 + r else 0x20 + (r - 16)
/-- Descriptors handed over and not yet used (R370). -/
def Ring.free (x : Ring) : Nat := if x.size = 0 then 0 else (x.tail + x.size - x.head) % x.size
/-- The flow that a delivery ring serves (R370). [DEDUCED: log entry 93] -/
def State.ringFlow (s : State) (r : Nat) : Option Nat :=
  (enabledFlows s.od).find? (fun f => onRing s.od f && s.flNat f 0 15 == r)
/-- Whether a ring is bound: to an enabled flow, or to a channel's input (R370, R301). -/
def State.ringBound (s : State) (r : Nat) : Bool :=
  if r < 16 then (s.ringFlow r).isSome
  else channels.any (fun n => s.flag (chI n 1) 5 && decide (s.nat (chI n 0x70) 1 ≤ 4) && s.nat (chI n 0x70) 4 == 3 &&
    s.nat (chI n 0x70) 8 == r - 16)
/-- RING_STATUS (R371). -/
def State.ringStatus (s : State) (r : Nat) : Nat :=
  let x := s.rg r
  b2n (x.en && s.ringBound r) + 2 * b2n x.overflow + 4 * b2n x.cfgErr + 8 * b2n x.descErr

/-- The ring's vector raised where its interrupt is enabled and the moderation time has passed (R371). -/
def State.ringIrq (s : State) (r : Nat) : State :=
  let x := s.rg r
  let ripe := match x.irqAt with
    | none => true
    | some t => decide (t + x.moderation * 1000 ≤ s.now)
  if x.irqEn && ripe then { s.setRg r { x with irqAt := some s.now } with msix := setBit s.msix x.vector } else s

/-- RING_TAIL_WRITE (R370, R375): the host hands descriptors over. -/
def execRingTailWrite (ring value : Nat) (s : State) : Host.Outcome State Fault Refusal :=
  if 32 ≤ ring then .fault .noSuchUnit
  else
    let x := s.rg ring
    .next (s.setRg ring { x with tail := if x.size = 0 then value % 4294967296 else value % x.size })

/-- RING_CTRL_WRITE (R371): a ring and its interrupt enabled or disabled. A ring may be enabled only with a valid
size. -/
def execRingCtrlWrite (ring value : Nat) (s : State) : Host.Outcome State Fault Refusal :=
  if 32 ≤ ring then .fault .noSuchUnit
  else
    let x := s.rg ring
    if bit value 0 && !ringSizeOk x.size then .next (s.setRg ring { x with cfgErr := true })
    else .next (s.setRg ring { x with en := bit value 0, irqEn := bit value 1 })

/-- A descriptor that R372 allows. [DEDUCED: log entry 93] -/
def descOk (d : Descr) : Bool :=
  d.addr % 64 == 0 && d.buflen % 64 == 0 && decide (64 ≤ d.buflen) && decide (d.buflen ≤ 4194304)
/-- A descriptor that broke R372, completed with ERROR (R371). -/
def descError (d : Descr) : Descr := { d with len := 0, flags := 64 + 32768 }

/-- Data of `n` bytes spread over descriptors in order (R371–R374): each filled descriptor with its flags, FIRST and LOSS in the
first and LAST in the last, those that break R372 completed with ERROR and skipped; none when the descriptors do not hold it.
[DEDUCED: log entry 93] -/
def fillDescs (n mts nts flags epochLo : Nat) (loss first : Bool) : List Descr → Option (List Descr)
  | [] => none
  | d :: r =>
    let base := (flags - flags % 4) + (if first then flags % 2 + 32 * b2n loss else 0)
    if !descOk d then (fillDescs n mts nts flags epochLo loss first r).map (fun l => descError d :: l)
    else if n ≤ d.buflen then
      some [{ d with len := n, mts := mts, nts := nts, flags := base + flags % 4 / 2 * 2 + 32768, epochLo := epochLo }]
    else
      (fillDescs (n - d.buflen) mts nts flags epochLo loss false r).map (fun l =>
        { d with len := d.buflen, mts := mts, nts := nts, flags := base + 4 + 32768, epochLo := epochLo } :: l)

/-- What the front unit of a delivery ring's flow finds in the ring (R372–R374): the descriptors completed, those that broke R372
among them, and whether they hold the unit. Where they do not, only those at the front that broke R372 are completed.
[DEDUCED: log entry 93] -/
def Ring.place (x : Ring) (u : RingUnit) (now : Nat) (descs : List Descr) : List Descr × Bool :=
  let avail := if x.en then descs.take x.free else []
  match fillDescs u.bytes u.mts (stamp32 now) u.flags u.epochLo x.loss true avail with
  | some l => (l, true)
  | none => ((avail.takeWhile (fun d => !descOk d)).map descError, false)

/-- RING_DELIVERY (R13, R373, R374): the oldest unit handed to a delivery ring, at or after its departure instant, is written into
the descriptors handed over from RING_HEAD on and marked DONE; with too few of them, it and the rest of its access unit are
discarded. `bytes`, `epoch`, `mts` and `flags` name the unit, which must be that one; `descs` is what the host's descriptors hold.
A write that ends late is recorded. [DEDUCED: log entry 93] -/
def execRingDelivery (ring bytes epoch mts flags : Nat) (descs : List Descr) (s : State) : Host.Outcome State Fault Refusal :=
  if 16 ≤ ring then .fault .noSuchUnit
  else
    let x := s.rg ring
    match s.ringFlow ring with
    | none => .next s
    | some f =>
      let y := s.fl f
      match y.owed with
      | [] => .next s
      | u :: rest =>
        if s.now < u.due ∨ u.bytes ≠ bytes ∨ u.epochLo ≠ epoch ∨ u.mts ≠ mts ∨ u.flags ≠ flags then .next s
        else if y.dropping = u.au + 1 then
          let s1 := (s.setFl f { y with owed := rest }).bumpBy (flI f 3) 7 (flI f 3) 9 1
          .next (s1.setRg ring { x with overflow := true, loss := true })
        else
          let r := x.place u s.now descs
          let errs := (r.1.filter (fun d => bit d.flags 6)).length
          let s0 := if errs = 0 then s else s.netEvent 6 (ringUnit ring) f errs
          let s1 := s0.setRg ring { x with descErr := x.descErr || errs != 0, overflow := x.overflow || !r.2, loss := !r.2
                                           done := r.1, head := (x.head + r.1.length) % max 1 x.size }
          let s2 := if r.1.isEmpty then s1 else s1.ringIrq ring
          if r.2 then
            let s3 := s2.setFl f { y with owed := rest }
            let late := s.now - u.until_
            .next (if late = 0 then s3 else (s3.raise (flI f 3) 8 late).netEvent 7 (ringUnit ring) f late)
          else
            .next (((s2.bumpBy (flI f 3) 7 (flI f 3) 9 1).netEvent 5 (ringUnit ring) f 1).setFl f
              { y with dropping := u.au + 1, owed := rest })

/-- The descriptors of the next access unit: a run chained by CONT (R375). [DEDUCED: log entry 93] -/
def nextRun : List Descr → List Descr
  | [] => []
  | d :: r => if bit d.flags 2 then d :: nextRun r else [d]

/-- INPUT_RING_CONSUME (R375): the device consumes the next access unit from the descriptors handed over; a run
without FIRST or LAST, or a LEN above BUFLEN, is damage and sets DESCERR. -/
def execInputRingConsume (ring : Nat) (descs : List Descr) (s : State) : Host.Outcome State Fault Refusal :=
  if 32 ≤ ring ∨ ring < 16 then .fault .noSuchUnit
  else
    let x := s.rg ring
    let run := nextRun (descs.take x.free)
    let whole := !bit (run.getLastD default).flags 2 || decide (x.size ≤ run.length + 1)
    if !x.en || run.isEmpty || !whole then .next s
    else
      let bad := !bit (run.headD default).flags 0 || !bit (run.getLastD default).flags 1 ||
        run.any (fun d => !descOk d || decide (d.buflen < d.len))
      let done := run.map (fun d => { d with flags := setBit (if bad then setBit d.flags 6 else d.flags) 15 })
      let s1 := s.setRg ring { x with head := (x.head + run.length) % max 1 x.size, done := done,
                                      descErr := x.descErr || bad }
      let s2 := if bad then s1.netEvent 6 (ringUnit ring) 0xFFFF run.length else s1
      .next (s2.ringIrq ring)

/-- A write of a ring register with no command of its own (R370, R371): `off` is the offset in the ring's 32
bytes. RING_BASE and RING_SIZE are not written while EN is 1, nor an invalid RING_SIZE: CFGERR records it. -/
def ringRegister (ring off value : Nat) (s : State) : State :=
  let x := s.rg ring
  match off with
  | 0x00 => if x.en then s.setRg ring { x with cfgErr := true }
            else s.setRg ring { x with baseLo := value / 4096 * 4096 }
  | 0x04 => if x.en then s.setRg ring { x with cfgErr := true } else s.setRg ring { x with baseHi := value }
  | 0x08 => if x.en || !ringSizeOk value then s.setRg ring { x with cfgErr := true }
            else s.setRg ring { x with size := value, head := 0, tail := 0 }
  | 0x18 => s.setRg ring { x with overflow := x.overflow && !bit value 1, cfgErr := x.cfgErr && !bit value 2,
                                  descErr := x.descErr && !bit value 3 }
  | 0x1C => s.setRg ring { x with vector := value % 64, moderation := value / 65536 % 65536 }
  | _ => s

/-- What a ring register reads as (R370, R371). -/
def State.ringRead (s : State) (ring off : Nat) : Nat :=
  let x := s.rg ring
  match off with
  | 0x00 => x.baseLo
  | 0x04 => x.baseHi
  | 0x08 => x.size
  | 0x0C => x.tail
  | 0x10 => x.head
  | 0x14 => b2n x.en + 2 * b2n x.irqEn
  | 0x18 => s.ringStatus ring
  | 0x1C => x.vector + 65536 * x.moderation
  | _ => 0

end Sys2Proof.Machine
end

