-- ==== Sys2Proof/Machine/Lanes.lean ====
section
/-! DEFINITION. Lanes.lean: the lane layer (R406–R416, R425, R437–R440). -/

namespace Sys2Proof.Machine

/-- Lanes of the part (R4). -/
def laneCount : Nat := 48

/-- Lane k's state. -/
def State.laneAt (s : State) (k : Nat) : Lane := tgetD s.lane k {}
/-- The machine with lane k's state changed. -/
def State.setLane (s : State) (k : Nat) (l : Lane) : State := { s with lane := tset s.lane k l }
/-- A lane counter of OD 0x1920 + k advanced (R439). -/
def State.laneBump (s : State) (k j n : Nat) : State := s.bumpBy (0x1920 + k) j (0x1920 + k) 9 n
/-- An event of class 0x0D (R438). -/
def State.laneEvent (s : State) (what unit : Nat) (value : Int) : State := s.ev 0x0D what unit value

/-- The role of a lane's quad (R406). -/
def State.quadRole (s : State) (q : Nat) : Nat := s.nat 0x1900 (q + 1)

/-- The Carriageway port mapped to a quad (R407). -/
def State.portOfQuad (s : State) (q : Nat) : Option Nat :=
  [0, 1, 2, 3].find? (fun p => s.nat 0x1902 (p + 1) == q)

/-- The lanes of the quad of port p; none when the port has no quad (R407). -/
def State.portLanes (s : State) (p : Nat) : List Nat :=
  let q := s.nat 0x1902 (p + 1)
  if 12 ≤ q then [] else [4 * q, 4 * q + 1, 4 * q + 2, 4 * q + 3]

/-- The bytes of a table held as a DOMAIN of `n` bytes. Of one that a write of SIZE 0 has emptied (R133) each byte is a free
value. [DESIGN CHOICE: log entry 12] -/
def tableBytes (od : Tab Val) (i j n : Nat) : List Byte :=
  match odBytes od i j with
  | [] => (List.range n).map (Config.emptyDomain i j)
  | b => b

/-- The 8 bytes of a lane in the equalisation table selected (R415). -/
def State.eqEntry (s : State) (k : Nat) : List Byte :=
  ((tableBytes s.od 0x1960 2 3200).drop (s.nat 0x1960 1 * 400 + 16 + 8 * k)).take 8
/-- The CRC field of the equalisation table selected (R415). -/
def State.eqCrc (s : State) : List Byte := ((tableBytes s.od 0x1960 2 3200).drop (s.nat 0x1960 1 * 400 + 12)).take 4

/-- One lane begins full training (R412); the directions its role uses train, the others are off. -/
def State.trainLane (s : State) (k : Nat) : State :=
  let r := s.quadRole (k / 4)
  let l := s.laneAt k
  s.setLane k { l with rx := if r = 1 ∨ r = 2 then 1 else 0, tx := if r = 2 ∨ r = 3 then 1 else 0,
                       failRun := 0, passRun := 0 }

/-- The lanes of a port begin full training and the port is down until they end it (R433). -/
def State.trainPort (s : State) (p : Nat) : State :=
  let s1 := (s.portLanes p).foldl State.trainLane s
  s1.put (0x1950 + p) 1 1

/-- Every lane and every port whose lanes a quad gives it begin full training (R412, R543). -/
def State.trainLanes (s : State) : State :=
  let s1 := (List.range laneCount).foldl State.trainLane s
  [0, 1, 2, 3].foldl (fun (t : State) p =>
    let q := t.nat 0x1902 (p + 1)
    if q < 12 ∧ t.quadRole q = 2 then t.put (0x1950 + p) 1 1 else t) s1

/-- The OD 0x1960.03 entry of a quad set to the CRC of the table in force (R439). -/
def State.putEqCrc (s : State) (q : Nat) : State :=
  let b := odBytes s.od 0x1960 3
  s.putVal 0x1960 3 (.oct (b.take (4 * q) ++ s.eqCrc ++ b.drop (4 * q + 4)))

/-- A training lane ends full training (R412, R416). On success its directions are up and the selected equalisation is
frozen; otherwise it has failed, and a Carriageway port with it, which then trains again (R412, R437).
[DEDUCED: log entry 83] -/
def State.laneTrained (s : State) (lane : Nat) (success : Bool) : State :=
  let l := s.laneAt lane
  if l.rx ≠ 1 ∧ l.tx ≠ 1 then s
  else if success then
    let up := fun v => if v = 1 then 2 else v
    let s1 := s.setLane lane { l with rx := up l.rx, tx := up l.tx, eq := s.eqEntry lane }
    ((s1.laneBump lane 7 1).putEqCrc (lane / 4)).laneEvent 1 lane 0
  else
    let bad := fun v => if v = 1 then 4 else v
    let s1 := (s.setLane lane { l with rx := bad l.rx, tx := bad l.tx }).laneEvent 2 lane 0
    match s.portOfQuad (lane / 4) with
    | some p =>
      if s.quadRole (lane / 4) = 2 then
        (((s1.bump (0x1950 + p) 7 (0x1950 + p) 9).laneEvent 7 (0x40 + p) 0).log 0x24 p 0xFF [7, 0]).trainPort p
      else s1
    | none => s1

/-- LANE_TRAINING_COMPLETE (R412, R416, R437). [DESIGN CHOICE: log entry 98] -/
def execLaneTrainingComplete (lane : Nat) (success : Bool) (s : State) : Host.Outcome State Fault Refusal :=
  if laneCount ≤ lane then .fault .noSuchUnit else .next (s.laneTrained lane success)

/-- LANE_FAILED (R425): an up lane whose segments have failed for 64 consecutive lines is marked failed. -/
def execLaneFailed (lane : Nat) (s : State) : Host.Outcome State Fault Refusal :=
  if laneCount ≤ lane then .fault .noSuchUnit
  else
    let l := s.laneAt lane
    if l.rx = 2 ∧ 64 ≤ l.failRun then
      .next ((((s.setLane lane { l with rx := 4, passRun := 0 }).laneBump lane 8 1).laneEvent 3 lane 0).log 0x2A lane 0xFF [])
    else .next s

/-- LANE_RESTORED (R425): a failed lane with 64 consecutive passing segments is up again. -/
def execLaneRestored (lane : Nat) (s : State) : Host.Outcome State Fault Refusal :=
  if laneCount ≤ lane then .fault .noSuchUnit
  else
    let l := s.laneAt lane
    if l.rx = 4 ∧ 64 ≤ l.passRun then
      .next ((s.setLane lane { l with rx := 2, failRun := 0 }).laneEvent 1 lane 0)
    else .next s

/-- ELECTRICAL_IDLE_ENTRY (R413): an EIS set puts an up receiver into idle; it is no failure. -/
def execElectricalIdleEntry (lane : Nat) (s : State) : Host.Outcome State Fault Refusal :=
  if laneCount ≤ lane then .fault .noSuchUnit
  else
    let l := s.laneAt lane
    if l.rx = 2 then .next ((s.setLane lane { l with rx := 3 }).laneBump lane 5 1)
    else .next s

/-- FAST_EXIT (R413, R414): an FTS burst on an idle receiver; it relocks, or a failed exit leads to full training. -/
def execFastExit (lane : Nat) (relocked : Bool) (s : State) : Host.Outcome State Fault Refusal :=
  if laneCount ≤ lane then .fault .noSuchUnit
  else
    let l := s.laneAt lane
    if l.rx = 3 then
      if relocked then .next ((s.setLane lane { l with rx := 2 }).laneBump lane 6 1)
      else .next (s.trainLane lane)
    else .next s

/-- OD 0x1908.(k + 1) (R440). -/
def State.laneWord (s : State) (k : Nat) : Nat :=
  let l := s.laneAt k
  let owner : Nat × Nat :=
    match channels.find? (fun n => bit (s.nat (chI n 10) 1) k || bit (s.nat (chI n 10) 4) k) with
    | some n =>
      let mask := if bit (s.nat (chI n 10) 1) k then s.nat (chI n 10) 1 else s.nat (chI n 10) 4
      let par := if bit (s.nat (chI n 10) 1) k then s.flag (chI n 10) 2 else s.flag (chI n 10) 5
      let ls := bits mask laneCount
      if par && ls.getLast? == some k then (n, 0x80) else (n, ls.idxOf k)
    | none =>
      if s.quadRole (k / 4) = 2 then
        match s.portOfQuad (k / 4) with
        | some p => (0x80 + p, k % 4)
        | none => (0xFF, 0xFF)
      else (0xFF, 0xFF)
  l.rx * 0x10000000 + l.tx * 0x1000000 + min l.skew 255 * 0x10000 + owner.2 * 0x100 + owner.1

end Sys2Proof.Machine
end

