-- ==== Sys2Proof/Machine/Input.lean ====
section
/-! DEFINITION. Input.lean: pixel-link lines as received, rebuilt, placed and filled (R143, R168–R173, R417–R425). -/

namespace Sys2Proof.Machine

/-- The rate codes of R417 as numerator and denominator. -/
def rateCodes : List (Nat × Nat) :=
  [(24000, 1001), (24, 1), (25, 1), (30000, 1001), (30, 1), (50, 1), (60000, 1001), (60, 1), (100, 1), (120000, 1001),
   (120, 1)]

/-- A line header (R417). -/
structure LineHead where
  /-- R417. FLAGS -/
  flags : Nat
  /-- R417. LINE -/
  line : Nat
  /-- R417. WIDTH -/
  width : Nat
  /-- R417. HEIGHT -/
  height : Nat
  /-- R417. RATE -/
  rate : Nat
  /-- R417. FORMAT -/
  fmt : List Nat
  /-- R417. LANES -/
  lanes : Nat
  /-- R417. ANCLEN -/
  anclen : Nat
  /-- R417. TIMECODE -/
  timecode : List Byte
deriving DecidableEq, Repr

/-- A number of a line header. -/
def headNat (b : List Byte) (at_ n : Nat) : Nat := leNat ((b.drop at_).take n)
/-- The header that 32 bytes hold (R417). -/
def lineHead (b : List Byte) : LineHead :=
  { flags := headNat b 1 1, line := headNat b 2 2, width := headNat b 4 2, height := headNat b 6 2,
    rate := headNat b 8 1, fmt := ((b.drop 9).take 6).map BitVec.toNat, lanes := headNat b 16 1,
    anclen := headNat b 18 2, timecode := (b.drop 22).take 5 }
/-- A header with LANE set to 0, as LCRC covers it and as headers are compared (R418, R424). -/
def headPlain (b : List Byte) : List Byte := b.take 15 ++ zeros 1 ++ (b.drop 16).take 16

/-- A bond: its data lanes ascending, and its parity lane (R419). -/
structure Bond where
  /-- R419. data lanes -/
  data : List Nat
  /-- R419. parity lane -/
  parity : Option Nat
deriving DecidableEq, Repr

/-- The bond that a lane mask and a parity setting give (R419, R422). -/
def bondOf (mask : Nat) (parity : Bool) : Bond :=
  let ls := bits mask laneCount
  if parity && decide (2 ≤ ls.length) then { data := ls.dropLast, parity := ls.getLast? } else { data := ls, parity := none }
/-- The ingest bond of channel n (R441). [DEDUCED: log entry 83] -/
def State.bond (s : State) (n : Nat) : Bond := bondOf (s.nat (chI n 10) 1) (s.flag (chI n 10) 2)

/-- A segment that passes SCRC and broke nothing of R409 and R420. [DEDUCED: log entry 83] -/
def segPasses (g : Segment) : Bool :=
  g.violations == 0 && g.disparity == 0 && !g.aborted && decide (g.lag ≤ 256) && decide (36 ≤ g.bytes.length) &&
    leNat (g.bytes.drop (g.bytes.length - 4)) == crc32c (g.bytes.take (g.bytes.length - 4))
/-- A segment's header copy and share. -/
def segHead (g : Segment) : List Byte := g.bytes.take 32
/-- A segment's share of the body. -/
def segShare (g : Segment) : List Byte := (g.bytes.take (g.bytes.length - 4)).drop 32

/-- One bonded lane's part in a line, in its counters and runs (R409, R425, R439, R440). -/
def State.laneSegment (s : State) (segs : List Segment) (k : Nat) : State :=
  let l := s.laneAt k
  match segs.find? (fun g => g.lane == k) with
  | none => s.setLane k { l with failRun := l.failRun + 1, passRun := 0 }
  | some g =>
    let ok := segPasses g
    let s1 := s.setLane k { l with skew := min g.lag 255, failRun := if ok then 0 else l.failRun + 1,
                                   passRun := if ok then l.passRun + 1 else 0 }
    let s2 := if g.violations = 0 then s1 else s1.laneBump k 1 g.violations
    let s3 := if g.disparity = 0 then s2 else s2.laneBump k 2 g.disparity
    if ok || g.aborted then s3 else (s3.laneBump k 3 1).perfAdd 0x50 k 1

/-- The shares of the data lanes, one of them rebuilt by XOR where exactly one is bad and parity passes (R423), and
the lane rebuilt. -/
def rebuild (b : Bond) (good : Nat → Option (List Byte)) : Option (List (List Byte) × Option Nat) :=
  let bad := b.data.filter (fun k => (good k).isNone)
  match bad with
  | [] => some (b.data.map (fun k => (good k).getD []), none)
  | [x] =>
    match b.parity.bind good with
    | none => none
    | some p =>
      let others := (b.data.filter (· != x)).map (fun k => (good k).getD [])
      let r := others.foldl (fun a o => List.zipWith (fun u v => u ^^^ v) a o) p
      some (b.data.map (fun k => if k = x then r else (good k).getD []), some x)
  | _ => none

/-- The body that shares hold, word j on data lane j mod LANES (R419). -/
def bodyOf (shares : List (List Byte)) : List Byte :=
  (List.range ((shares.headD []).length / 4)).flatMap (fun i => shares.flatMap (fun h => (h.drop (4 * i)).take 4))

/-- The ancillary block and the samples of a line body that passes LCRC (R418, R423). -/
def lineBody (head body : List Byte) (h : LineHead) : Option (List Byte × List Nat) :=
  let depth := h.fmt.getD 2 8
  let count := samplesOn h.fmt h.width h.line
  let n := h.anclen + ceilDiv (count * depth) 8
  if body.length < n + 4 then none
  else if leNat ((body.drop n).take 4) = crc32c (headPlain head ++ body.take n) then
    some (body.take h.anclen, unpack depth count ((body.take n).drop h.anclen))
  else none

/-- The members of the span group that hosts channel n (R451, R466); none outside one. -/
def State.spanGroup (s : State) (n : Nat) : List Nat :=
  if (s.cfg n).spanned then bits (s.nat 0x1310 (s.nat 0x1318 (n + 1) - 0x3F)) 16 else []
/-- The members of the span group that hosts channel n for the picture of an epoch (R9, R451). -/
def State.spanGroupAt (s : State) (n e : Nat) : List Nat :=
  if (s.cfgAt n e).spanned then bits (s.nat 0x1310 (odNat (s.odAt n e) 0x1318 (n + 1) - 0x3F)) 16 else []
/-- The tile columns that this device codes under a channel's settings as one of some members: first, and the one after the
last (R457). -/
def State.ownTilesIn (s : State) (g : Cfg) (ms : List Nat) : Nat × Nat :=
  if ms.isEmpty then (0, g.tcols)
  else
    let i := ms.idxOf (s.nat 0x1300 1)
    (i * g.tcols / ms.length, (i + 1) * g.tcols / ms.length)
/-- The input window under a channel's settings as one of some members: first column and width (R457). -/
def State.windowIn (s : State) (g : Cfg) (ms : List Nat) : Nat × Nat :=
  if ms.isEmpty then (0, g.w)
  else
    let t := s.ownTilesIn g ms
    let a := g.x0 + min g.ow (g.tileX t.1 * g.ctu) - 8
    let b := min g.w (g.x0 + min g.ow (g.tileX t.2 * g.ctu) + 8)
    (a, b - a)
/-- The tile columns that this device codes of channel n: first, and the one after the last (R457). -/
def State.ownTiles (s : State) (n : Nat) : Nat × Nat := s.ownTilesIn (s.cfg n) (s.spanGroup n)
/-- The tile columns that this device codes of the picture of an epoch (R9, R457). -/
def State.ownTilesAt (s : State) (n e : Nat) : Nat × Nat := s.ownTilesIn (s.cfgAt n e) (s.spanGroupAt n e)
/-- The input window of channel n: first column and width (R457). -/
def State.lineWindow (s : State) (n : Nat) : Nat × Nat := s.windowIn (s.cfg n) (s.spanGroup n)
/-- The input window of the picture of an epoch (R9, R457). -/
def State.lineWindowAt (s : State) (n e : Nat) : Nat × Nat := s.windowIn (s.cfgAt n e) (s.spanGroupAt n e)

/-- The event of a line lost (WHAT 0x04) or a header mismatch (WHAT 0x08) of channel n (R438). -/
def State.lineEvent (s : State) (what n line : Nat) : State :=
  let b := s.bond n
  s.laneEvent what (b.data.headD 0) ((line * 65536 + n * 256 : Nat) : Int)

/-- Line 0 of channel n with stamp `t`, and whether the lines' picture is taken (R168, R169, R172, R173, R672). The first
boundary is a line 0 from T on, up to T + P + W lines, when the boundary is supplied instead.
[DEDUCED: log entry 62] -/
def State.lineZero (s : State) (n t : Nat) : State :=
  let c := s.ch n
  if c.running then
    let b := c.nextBoundary
    let w := s.lockIn n
    if b.2 ≤ t + w ∧ t ≤ b.2 + w then s.boundary n b.1 t b.2 false
    else if !c.missing ∧ c.expected c.epoch ≤ t + w ∧ t ≤ c.expected c.epoch + w then s
    else
      let s1 := s.chBump n 8 6 8 9 1
      let s2 := if c.missing then s1.phaseAlarm n c.epoch else s1
      s2.setCh n { s2.ch n with discarding := true, strayed := !c.missing }
  else match c.starting with
    | some t0 =>
      let g := s.cfg n
      if t0 ≤ t ∧ t ≤ t0 + (g.period.add (g.ns (Frac.ofInt g.lock))).floor.toNat then s.firstBoundary n t false else s
    | none => s.setCh n { c with origin := t }

/-- A line placed by its LINE field (R143, R170, R423, R424). `body` is what its shares hold. Its ancillary packets and the
timecode of line 0 become part of the picture's access unit (R221), and of its fixed part (R245).
[DESIGN CHOICE: log entry 115] -/
def State.placeLine (s : State) (n : Nat) (head : List Byte) (h : LineHead) (body : Option (List Byte)) : State :=
  let c := s.ch n
  let g := s.cfg n
  let due := c.stamp + (g.ns (Frac.ofInt (h.line + 2 : Nat))).floor.toNat
  let rate := rateCodes.getD h.rate (0, 1)
  if !c.running then s
  else if c.discarding then (if h.line = 0 then s else s.chBump n 8 6 8 9 1)
  else if tget c.have_ h.line = some 1 then s.chBump n 12 5 12 6 1
  else if tget c.have_ h.line = some 2 ∨ due < s.now then s.chBump n 8 6 8 9 1
  else if h.width ≠ (s.lineWindow n).2 ∨ h.height ≠ g.h ∨ rate.1 * g.den ≠ rate.2 * g.num ∨ h.fmt ≠ g.fmt then s.chBump n 8 7 8 9 1
  else match body.bind (fun b => lineBody head b h) with
    | none => (s.chBump n 12 3 12 6 1).lineEvent 4 n h.line
    | some (anc, samples) =>
      let stamped := decide (h.line = 0) && bit h.flags 4
      let ps := ancPackets anc anc.length
      let early := decide (c.budE < c.epoch) || c.budE == c.epoch && c.budRow == 0
      let s1 := s.setCh n { c with
        lines := tset c.lines h.line samples, have_ := tset c.have_ h.line 1,
        anc := if early then (c.anc.1 ++ ps, c.anc.2) else (c.anc.1, c.anc.2 ++ ps),
        timecodes := if stamped then tset c.timecodes c.epoch h.timecode else c.timecodes }
      (if stamped || !ps.isEmpty then s1.restate n else s1).chBump n 12 1 12 6 1

/-- A line received over the bond of channel n (R423, R424). -/
def State.receiveLine (s : State) (n : Nat) (b : Bond) (segs : List Segment) (stamp : Nat) : State :=
  let lanes := b.data ++ b.parity.toList
  let hears := fun k => let r := (s.laneAt k).rx; s.quadRole (k / 4) == 1 && (r == 2 || r == 4)
  let mine := segs.filter (fun g => lanes.contains g.lane && hears g.lane)
  let s1 := (lanes.filter hears).foldl (fun t k => t.laneSegment mine k) s
  let pass := lanes.filterMap (fun k => mine.find? (fun g => g.lane == k && segPasses g))
  if !lanes.any hears then s
  else match pass with
  | [] =>
    let d := s1.draw
    if (s.ch n).running then (d.2.chBump n 12 3 12 6 1).lineEvent 4 n (d.1 % 65536) else s1
  | g0 :: _ =>
    let h := lineHead (segHead g0)
    let place := fun k => if b.parity = some k then 128 else b.data.idxOf k
    let wrong := pass.any (fun g => headPlain (segHead g) != headPlain (segHead g0) || headNat (segHead g) 15 1 != place g.lane) ||
      h.lanes != b.data.length || bit h.flags 3 != b.parity.isSome || decide (h.height ≤ h.line)
    if wrong then (s1.chBump n 12 4 12 6 1).lineEvent 8 n h.line
    else
      let late : Int := s1.num 0x1904 (g0.lane / 4 + 1)
      let t := ((stamp : Int) - late).toNat
      let s2 := if h.line = 0 then s1.lineZero n t else s1
      let good := fun k => (pass.find? (fun g => g.lane == k)).map segShare
      match rebuild b good with
      | none => s2.placeLine n (segHead g0) h none
      | some (shares, none) => s2.placeLine n (segHead g0) h (some (bodyOf shares))
      | some (shares, some k) =>
        let s3 := s2.placeLine n (segHead g0) h (some (bodyOf shares))
        if s3.nat (chI n 12) 1 = s2.nat (chI n 12) 1 then s3.laneBump k 4 1
        else (s3.laneBump k 4 1).chBump n 12 2 12 6 1

/-- LINE_RECEIVED (R423): the segments of one line on the channel's bonded lanes, with the time at which its deskewed
SOL crossed the pins. [DEDUCED: log entry 14] -/
def execLineReceived (chan : Nat) (segs : List Segment) (stamp : Nat) (s : State) :
    Host.Outcome State Fault Refusal :=
  if 128 ≤ chan ∨ segs.any (fun g => decide (laneCount ≤ g.lane)) then .fault .noSuchUnit
  else .next (s.onStarting chan (fun (u : State) =>
    if (u.bond chan).data.isEmpty || u.source chan != 0xFF then u else u.receiveLine chan (u.bond chan) segs stamp))

/-- LINE_MISSING (R170): a line not complete and intact by the frame boundary plus (l + 2) lines is filled. -/
def execLineMissing (chan line : Nat) (s : State) : Host.Outcome State Fault Refusal :=
  if 128 ≤ chan then .fault .noSuchUnit
  else
    let c := s.ch chan
    let g := s.cfg chan
    let due := c.stamp + (g.ns (Frac.ofInt (line + 2 : Nat))).ceil.toNat
    if c.running && decide (line < g.h) && (tget c.have_ line).isNone && decide (due ≤ s.now) then
      let s1 := (s.setCh chan (c.fillLine g line)).chBump chan 8 4 8 9 1
      .next (if c.missing then s1 else s1.put (chI chan 8) 2 1)
    else .next s

/-! The Pergola (R11, R134–R138) -/

/-- The kernels of a scaler: built-in for its taps, or the channel's own (R145, R146). -/
def kernelOf (od : Tab Val) (n sel dim taps : Nat) : List Byte :=
  if sel = 0 then builtInKernel taps else tableBytes od (chI n 3) dim 1024

/-- The tables of the video conversion in force (R150–R154). -/
def videoConv (od : Tab Val) (n : Nat) : Option Conv :=
  match odNat od (chI n 4) 1 with
  | 0 => none
  | 1 => some { shaper := tableBytes od (chI n 4) 2 24582, mat := odBytes od (chI n 4) 3,
                cube := some (tableBytes od (chI n 4) 4 215622), out := tableBytes od (chI n 4) 5 24582 }
  | p => some { shaper := presetTable 0 p 0, mat := presetTable 0 p 1, cube := some (presetTable 0 p 2),
                out := presetTable 0 p 3 }

/-- Layer k of channel n as it stands in a map of objects (R157–R163). Its surface is SDR BT.709 under presets 2 to 4 (R671);
under bypass and custom tables its Y'CbCr is taken in the output colorimetry. [DESIGN CHOICE: log entry 100] -/
def layerOf (od : Tab Val) (n k : Nat) : Layer :=
  let a := layI n k 0
  let b := layI n k 1
  let conv : Option Conv := match odNat od b 3 with
    | 0 => none
    | 1 => some { shaper := tableBytes od b 4 24582, mat := odBytes od b 5, cube := none, out := tableBytes od b 6 24582 }
    | p => some { shaper := presetTable 1 p 0, mat := presetTable 1 p 1, cube := none, out := presetTable 1 p 3 }
  { surf := surfOf (odBytes od a 1), src := [odNat od a 2, odNat od a 3, odNat od a 4, odNat od a 5],
    dx := odNum od a 6, dy := odNum od a 7, dw := odNat od a 8, dh := odNat od a 9, ht := odNat od a 10,
    vt := odNat od a 11, hk := kernelOf od n (odNat od b 7) 1 (odNat od a 10),
    vk := kernelOf od n (odNat od b 7) 2 (odNat od a 11), premult := odNat od b 1 == 1, alpha := odNat od b 2,
    conv := conv, colr := if odNat od b 3 ≤ 1 then odNat od (chI n 5) 5 else 0 }

/-- A pixel of the slate surface as R'G'B' after stage 1 (R167, R171, R172, R180): black where it describes no surface or its
tile is malformed. It stands for an input picture, so its Y'CbCr is in the input colorimetry.
[DESIGN CHOICE: log entry 100] -/
def slatePixel (od : Tab Val) (mem : Tab Byte) (n x y : Nat) : List Int :=
  let u := surfOf (odBytes od (chI n 6) 1)
  if u.empty || u.w ≤ x || u.h ≤ y then [0, 0, 0]
  else
    let g := fun p a b => match u.sample mem p a b with
      | some v => (v : Int)
      | none => if p = 0 ∨ u.rgb = true then rangeOff u.range u.depth else (128 * 2 ^ (u.depth - 8) : Nat)
    if u.rgb then [0, 1, 2].map (fun c => norm16 u.range u.depth false (g c x y))
    else
      let ch := fun p => chromaFull u.sub (u.pw 1) (u.ph 1) (fun j i => norm16 u.range u.depth true (g p j i)) x y
      toRgb (odNat od (chI n 0) 9) (norm16 u.range u.depth false (g 0 x y)) (ch 1) (ch 2)

/-- A pixel of the source window after stage 1: of the input line, or of the slate where the line is filled from it, the slate
then spread across the window (R134, R170–R172). [DESIGN CHOICE: log entry 100] -/
def sourcePixel (od : Tab Val) (mem : Tab Byte) (g : Cfg) (win : Nat × Nat) (n : Nat) (lines : Tab (List Nat))
    (i j : Nat) : List Int :=
  let line := fun l => match tget lines l with
    | some (v :: r) => v :: r
    | _ => blackLine g.fmt win.2 l
  if tget lines (g.y0 + j) = some [] then slatePixel od mem n (i * g.ow / max 1 g.sw) (j * g.oh / max 1 g.sh)
  else inputPixel g.fmt win.2 g.h line (g.x0 + i - win.1) (g.y0 + j)

/-- A pixel of the output picture after stages 1 to 4 (R134, R171, R172). A picture that is the slate's is as large as the
output picture before stage 2. [DESIGN CHOICE: log entry 100] -/
def pergolaPixel (od : Tab Val) (mem : Tab Byte) (g : Cfg) (win : Nat × Nat) (n : Nat) (lines : Tab (List Nat))
    (x y : Nat) : List Int :=
  let hk := kernelOf od n g.ksel 1 g.ht
  let vk := kernelOf od n g.ksel 2 g.vt
  let slate := (List.range g.h).all (fun l => tget lines l == some [])
  let at_ := fun (c : Nat) =>
    if slate then scale2 hk vk g.ht g.vt g.ow g.oh g.ow g.oh 65535 (fun i j => (slatePixel od mem n i j).getD c 0) x y
    else scale2 hk vk g.ht g.vt g.sw g.sh g.ow g.oh 65535 (fun i j =>
      (sourcePixel od mem g win n lines i j).getD c 0) x y
  let px := [at_ 0, at_ 1, at_ 2]
  let video := match videoConv od n with
    | some k => k.map px
    | none => px
  (List.range 16).foldl (fun d k => (layerOf od n k).overlay mem x y d) video

/-- Output line y of a picture, three component planes (R155): of the columns from `cols.1` to `cols.2` − 1, a
member's stripe in a span group (R457). -/
def pergolaLine (od : Tab Val) (mem : Tab Byte) (g : Cfg) (win cols : Nat × Nat) (n : Nat) (lines : Tab (List Nat))
    (y : Nat) : List (List Nat) :=
  (List.range 3).map (fun c => outLine g.ofmt g.ow g.oh cols (pergolaPixel od mem g win n lines) c y)

/-- The output lines of CTU row r. -/
def Cfg.rowLines (g : Cfg) (r : Nat) : List Nat :=
  (List.range g.ctu).map (fun k => r * g.ctu + k) |>.filter (fun y => decide (y < g.oh))

/-- The lines of CTU row r of picture `e` written to the frame ring, with their pyramid lines (R11, R138). -/
def Chan.writeRow (c : Chan) (g : Cfg) (e r : Nat) (line : Nat → List (List Nat)) : Chan :=
  let ring := (g.rowLines r).foldl (fun t y => tset t (rowKey e y) (line y)) c.ring
  let luma := fun y => ((tget ring (rowKey e (min y (g.oh - 1)))).getD []).getD 0 []
  let hs := (g.rowLines r).filter (fun y => y % 2 == 0)
  let half := hs.foldl (fun t y => tset t (rowKey e (y / 2)) (halve (luma y) (luma (y + 1)))) c.half
  let hl := fun y => (tget half (rowKey e y)).getD ((tget half (rowKey e (y - 1))).getD [])
  let qs := hs.filter (fun y => y % 4 == 0)
  let quarter := qs.foldl (fun t y => tset t (rowKey e (y / 4)) (halve (hl (y / 2)) (hl (y / 2 + 1)))) c.quarter
  { c with ring := ring, half := half, quarter := quarter }

/-- Tiles of the picture's surfaces that break the compression format, counted once a picture (R167). -/
def State.malformedTiles (s : State) (n e : Nat) (slate : Bool) : Nat :=
  let od := s.odAt n e
  let one := fun (u : Surf) (x y w h : Nat) => if u.empty then 0 else u.malformed s.dramMem x y w h
  ((List.range 16).map (fun k =>
    let l := layerOf od n k
    if l.on then one l.surf (l.src.getD 0 0) (l.src.getD 1 0) (l.src.getD 2 0) (l.src.getD 3 0) else 0)).sum +
  (if slate then let u := surfOf (odBytes od (chI n 6) 1); one u 0 0 u.w u.h else 0)

/-! Stalls of a CTU row (R11, R12, R187, R193, R198, R262, R263) -/

/-- The quarter in which tile column i of channel n's picture of an epoch runs (R18, R457): that of the stripe, of those into
which the device's own tile columns divide, which holds it. -/
def State.tileQuarter (s : State) (n e i : Nat) : Nat :=
  let qs := tgetD (s.ch n).placedAt e (s.ch n).stripes
  let own := s.ownTilesAt n e
  let k := qs.length
  qs.getD (((List.range k).filter (fun j => decide (own.1 + j * (own.2 - own.1) / k ≤ i))).length - 1)
    ((s.quartersOf n).headD 0)

/-- The berth of row r of a sequence (R269): the Pavilion of the quarter in which its picture was placed that holds place
r mod m of its berth set; where a later commit has taken that set away, the quarter's first working one (R9).
[DEDUCED: log entry 45] -/
def State.berthOf (s : State) (n e i r : Nat) : Nat :=
  let q := s.tileQuarter n e i
  let ps := (List.range 16).map (16 * q + ·)
  (ps.find? (fun p => (s.pav p).berths.any (fun b => b.1 == n && b.2.1 == i && b.2.2.1 == r % max 1 b.2.2.2))).getD
    ((s.workingPavs q).headD (16 * q))

/-- Whether no CTU of tile column i of a picture has a motion field or a reference window: it has no references, or the column
lies wholly in the refresh column (R187, R193). -/
def Cfg.intraOnly (g : Cfg) (key : Bool) (phase i : Nat) : Bool :=
  g.jxs || key || g.refs == 0 || (match g.column key phase with
    | some c => decide (c.1 ≤ g.tileX i) && decide (g.tileX (i + 1) ≤ c.2)
    | none => false)
/-- Operand slots signalled empty when a band's row becomes ready: 1 and 2 for a band without references, 4 where no band stands
above in the tile (R187, R193, R195, R198). -/
def Cfg.emptySlots (g : Cfg) (key : Bool) (phase r i : Nat) : Nat :=
  (if g.intraOnly key phase i then 6 else 0) + (if g.topOfTile r || !g.serial then 16 else 0)

/-- The members of a channel's span group that lie next to this one: left and right (R459, R460). -/
def State.neighbours (s : State) (n : Nat) : List Nat × List Nat :=
  let ms := s.spanGroup n
  let i := ms.idxOf s.node
  (if i = 0 then [] else (ms.drop (i - 1)).take 1, (ms.drop (i + 1)).take 1)

/-- A sample that a neighbouring member of a span group holds, from what it has sent (R459): of the source at search level 0, 1
or 2, or of plane `level` − 3 of the reconstruction, of the picture of an epoch. [DEDUCED: log entry 86] -/
def State.farAt (s : State) (n e level x y : Nat) : Nat :=
  let g := s.cfgAt n e
  let sp := tgetD s.cluster.spans n {}
  let nb := s.neighbours n
  let d := if level < 3 then (2 ^ level, 1) else g.planeDiv (level - 3)
  let node := (if x * d.1 < (g.ownCols (s.ownTilesAt n e)).1 then nb.1 else nb.2).headD 16
  if level < 3 then Config.farSample (tgetD sp.pyramids (e * 16 + node) []) level x y
  else Config.farSample (tgetD sp.borders (rowKey e (y * d.2 / g.ctu) * 16 + node) []) (level - 3) x y

/-- A band that has retired or been substituted. -/
def Chan.bandDone (c : Chan) (e r i : Nat) : Bool := (tget c.bands (bandKey e r i)).isSome

/-- The departure instant of the departure row of CTU row r, PTP ns, rounded up (R231). -/
def State.departNs (s : State) (n e r : Nat) : Nat :=
  let g := s.cfgAt n e
  tgetD (s.ch n).stamps e 0 + (g.ns (g.departs (r / g.perRow) (s.lInForce n))).ceil.toNat

/-- The coaches of one band (R262): the band coach, and its fetch and search coaches where it has references, with the level-1
vectors that the row's coarse search gives and the windows to fetch (R188, R191). -/
def State.bandStalls (s : State) (n e r i : Nat) : State :=
  let g := s.cfgAt n e
  let c := s.ch n
  let kind := tgetD c.kinds e 1
  let key := bit kind 0
  let phase := kind / 2
  let q := s.tileQuarter n e i
  let late := g.jxs && decide (r + 1 < g.rows)
  let above := if decide (0 < r) && c.bandDone e (r - 1) i then 16 else 0
  let tokens := Nat.lor (g.emptySlots key phase r i) above + b2n (!late)
  let base : Stall := { state := 2, kind := 1, tokens := tokens, list := 0, chan := n, row := r, col := i, quarter := q,
                        epoch := e, depart := s.departNs n e r, berth := s.berthOf n e i r,
                        eu := tgetD s.mews.euOf (n * 64 + i) (if g.jxs then euCount else 4 * q) }
  if g.intraOnly key phase i then s.addStall base
  else
    let refs := tgetD c.refsAt e []
    let seeds := c.seedsOf g (s.ownTilesAt n e) e r i phase refs (s.farAt n)
    let b := { base with seeds := seeds, windows := c.windowsOf g e r phase refs seeds }
    ((s.addStall b).addStall { b with kind := 3, state := 4, opmask := 1, tokens := 0 }).addStall
      { b with kind := 4, opmask := 1, tokens := 0 }

/-- The departure coaches of a departure row: one per unit, flow and path (R262, R263). -/
def State.departStalls (s : State) (n e r : Nat) : State :=
  let g := s.cfgAt n e
  let od := s.odAt n e
  let fs := (flowsOf od n).flatMap (fun f => if !onRing od f && odFlag od (flI f 0) 8 then [f, f + 1024] else [f])
  let mine := (s.spanGroupAt n e).headD (s.nat 0x1300 1) == s.nat 0x1300 1
  if !mine then s
  else fs.foldl (fun t f => (List.range g.unitsPerRow).foldl (fun u i =>
    u.addStall { state := 2, kind := 5, chan := n, row := r * g.perRow, col := i, quarter := u.tileQuarter n e i,
                 epoch := e, depart := u.departNs n e (r * g.perRow), flow := f,
                 opmask := if u.mews.stalls.any (fun kv => kv.2.kind == 5 && kv.2.flow == f) then 0 else 2 }) t) s

/-- Tokens of one slot sent to the band stalls of a CTU row (R265). -/
def State.tokenRow (s : State) (n e r slot : Nat) : State :=
  { s with mews := { s.mews with stalls := s.mews.stalls.map (fun kv =>
      if kv.2.kind == 1 && kv.2.chan == n && kv.2.epoch == e && kv.2.row == r then (kv.1, kv.2.token slot) else kv) } }

/-- The coaches of CTU row r of a picture (R262). -/
def State.rowStalls (s : State) (n e r : Nat) : State :=
  let g := s.cfgAt n e
  let own := s.ownTilesAt n e
  let s1 := (List.range (own.2 - own.1)).foldl (fun t i => t.bandStalls n e r (own.1 + i)) s
  let s2 := s1.addStall { state := 2, kind := 2, chan := n, row := r, quarter := s.tileQuarter n e own.1, epoch := e,
                          depart := s.departNs n e r }
  let s3 := if r % g.perRow = 0 then s2.departStalls n e (r / g.perRow) else s2
  if g.jxs && decide (0 < r) then s3.tokenRow n e (r - 1) 0 else s3

/-- The coarse search of CTU row r of a picture, complete when the row is ready (R188, R189). -/
def State.coarseRow (s : State) (n e r : Nat) : State :=
  let g := s.cfgAt n e
  let refs := tgetD (s.ch n).refsAt e []
  if g.jxs || refs.isEmpty then s else s.setCh n ((s.ch n).searchRow g (s.ownTilesAt n e) e r refs (s.farAt n))

/-- PERGOLA_ROW_READY (R11, R136, R138, R188): CTU row `row` of the picture whose rows are becoming ready is written in all
planes and search resolutions, its coarse search is complete, and its coaches are set up. It is ready when its last output
line is written, at the frame boundary plus (e + 5) lines. -/
def execPergolaRowReady (chan row : Nat) (s : State) : Host.Outcome State Fault Refusal :=
  if 128 ≤ chan then .fault .noSuchUnit
  else
    let c := s.ch chan
    let e := c.readyE
    match tget c.stamps e with
    | none => .next s
    | some stamp =>
      let g := s.cfgAt chan e
      let last := min g.oh ((row + 1) * g.ctu) - 1
      let due := stamp + (g.ns (Frac.ofInt (g.lastInput last + 5 : Nat))).ceil.toNat
      if row ≠ c.ready ∨ g.rows ≤ row ∨ s.now < due then .next s
      else
        let s1 := if e = c.epoch then s.fillMissing chan (g.lastInput last + 1) else s
        let c1 := s1.ch chan
        let lines := if e = c1.epoch then c1.lines else c1.prev
        let od := s1.odAt chan e
        let cols := g.ownCols (s1.ownTilesAt chan e)
        let c2 := c1.writeRow g e row (pergolaLine od s1.dramMem g (s1.lineWindowAt chan e) cols chan lines)
        let done := decide (g.rows ≤ row + 1)
        let c3 := { c2 with readyE := if done then e + 1 else e, ready := if done then 0 else row + 1 }
        let bad := if row = 0 then s1.malformedTiles chan e (lines.any (fun kv => kv.2.isEmpty)) else 0
        let s2 := if bad = 0 then s1.setCh chan c3 else (s1.setCh chan c3).chBump chan 8 8 8 9 bad
        .next (if s.chanMode chan = .decode then s2 else (s2.coarseRow chan e row).rowStalls chan e row)

end Sys2Proof.Machine
end

