-- ==== Sys2Proof/Machine/Bands.lean ====
section
/-! DEFINITION. Bands.lean: what a coach finds resident when it runs, its dispatch, and what a band leaves (R181–R185, R195,
R199, R224, R226, R266–R271). -/

namespace Sys2Proof.Machine

/-! Operands (R184) -/

/-- The input samples of the band of tile column i in CTU row r of a picture, up to the coded size, the last column and line
repeated (R207); JPEG XS has those of the CTU row below too (R213). -/
def Chan.bandRows (c : Chan) (g : Cfg) (own : Nat × Nat) (e r i : Nat) : Planes :=
  (List.range 3).map (fun p =>
    let d := g.planeDiv p
    let x0 := (g.ownCols own).1 / d.1
    let line := fun y => ((tget c.ring (rowKey e (y * d.2))).getD []).getD p []
    let xs := upFrom (g.tileX i * g.ctu / d.1) (min g.cw (g.tileX (i + 1) * g.ctu) / d.1)
    let ys := upFrom (r * g.ctu / d.2) (min g.chh ((r + if g.jxs then 2 else 1) * g.ctu) / d.2)
    ys.map (fun (y : Nat) => xs.map (fun (x : Nat) =>
      planeAt (ceilDiv g.ow d.1) (ceilDiv g.oh d.2) x0 line (fun _ _ => 0) (x : Int) (y : Int))))

/-- What a band coach works on (R184, R195, R224): nothing of the settings of its flows, of the device's state or of its time. -/
def State.bandIn (s : State) (x : Stall) : BandIn :=
  let g := s.cfgAt x.chan x.epoch
  let c := s.ch x.chan
  let own := s.ownTilesAt x.chan x.epoch
  let kind := tgetD c.kinds x.epoch 1
  let st := tgetD c.statsAt x.epoch ([], [])
  { program := (g.pack.map Prod.fst).getD [], settings := channelSettings (s.odAt x.chan x.epoch) x.chan, stats := st.1,
    finer := st.2, key := bit kind 0, phase := kind / 2, order := tgetD c.orders x.epoch (orderOf x.epoch x.epoch),
    refs := tgetD c.refsAt x.epoch [], row := x.row, col := x.col, input := c.bandRows g own x.epoch x.row x.col,
    context := if g.topOfTile x.row || !g.serial then [] else tgetD c.contexts (bandKey x.epoch (x.row - 1) x.col) [],
    field := x.field.getD [],
    windows := x.windows.map (fun w => (w, c.windowSamples g own w (s.farAt x.chan))),
    budget := tgetD c.bandBudgets (bandKey x.epoch x.row x.col) 0,
    floors := g.floorsOf (bit kind 0) (kind / 2) x.row x.col (x.field.getD []),
    cdf := if g.codec = 3 ∧ g.gdr = 0 ∧ x.epoch ≠ 0 then tgetD c.cdfs (x.epoch - 1) [] else [] }

/-- A Pavilion's SRAM as a coach finds it (R181, R182, R184): the program of the channel's pack, the channel's tables, and a band
coach's operands. A self-test brings its own. [DESIGN CHOICE: log entry 104] -/
def State.load (s : State) (e : Engine) (x : Stall) : Engine :=
  if x.kind = 7 then { e with operands := none }
  else { e with program := some (((s.cfgAt x.chan x.epoch).pack.map Prod.fst).getD []), tables := some x.chan,
                operands := if x.kind = 1 then some (s.bandIn x) else none }

/-- COACH_DISPATCH (R184, R266, R268, R271): a free working Pavilion takes the first permitted coach, where the rotating dispatcher
picks it for that coach, and what the coach works on becomes resident. [DEDUCED: log entry 68] -/
def execCoachDispatch (pav : Nat) (s : State) : Host.Outcome State Fault Refusal :=
  if pavCount ≤ pav then .fault .noSuchUnit
  else
    let e := s.pav pav
    if s.gated || !s.free_ pav then .next s
    else match s.choose pav with
      | none => .next s
      | some (k, x) =>
        if !s.picked pav k then .next s else
        let y := { x with state := 4, pav := pav, runs := x.runs + 1 }
        let s1 := (s.setStall k y).setPav pav { s.load e x with busy := some k }
        let s2 := s1.raise 0x2000 6 ((s.now : Int) - x.readyAt)
        let s3 : State := { s2 with mews := { s2.mews with lastPav := tset s2.mews.lastPav (pav / 16) pav } }
        let s4 := if x.list = 1 then s3.bump 0x2000 0x0B 0x2000 0x0D else s3
        let s5 := (s4.perfAdd 2 (pav / 16 * 8 + x.list) 1).pavAdd pav x.chan 0x0B 1
        .next (if x.list = 0 then
          ((s5.perfAdd 4 (pav / 16) 1).bump 0x2000 8 0x2000 0x0D).log 6 pav x.chan [x.epoch, x.row * 65536 + x.col]
        else s5)

/-! What a band leaves (R184, R185, R226) -/

/-- A band's outputs, in the places that its picture, row and column give (R185): its reconstruction, the seam with the band
above in its tile finished there, its context and its statistics. [DESIGN CHOICE: log entry 104] -/
def Chan.bandWritten (c : Chan) (g : Cfg) (e r i : Nat) (o : BandOut) : Chan :=
  let k := bandKey e r i
  let recon := if g.serial && !g.topOfTile r then tset c.recon (bandKey e (r - 1) i) o.above else c.recon
  { c with recon := tset recon k o.recon, contexts := tset c.contexts k o.context, bandStats := tset c.bandStats k o.stats }

/-- What the run of a coach on its Pavilion makes of the operands there (R184, R256): a coded band, or a substitute's. -/
def State.bandOut (s : State) (x : Stall) (f : BandIn → BandOut) : State :=
  match (s.pav x.pav).operands with
  | some b => s.setCh x.chan ((s.ch x.chan).bandWritten (s.cfgAt x.chan x.epoch) x.epoch x.row x.col (f b))
  | none => s

/-- The CDF state that an AV1 picture leaves once every band of it is done (R211, R226). [DESIGN CHOICE: log entry 104] -/
def Chan.leaveCdf (c : Chan) (g : Cfg) (e : Nat) : Chan :=
  if g.codec = 3 ∧ (tget c.sizes e).isSome then
    { c with cdfs := tset c.cdfs e (Config.frameCdf ((c.contexts.filter (fun kv => kv.1 / 4194304 == e)).map Prod.snd)) }
  else c

end Sys2Proof.Machine
end

