-- ==== Sys2Proof/Machine/Picture.lean ====
section
/-! DEFINITION. Picture.lean: fetch, search, budgets, retirement and seams of the bands of a picture (R184–R200,
R250–R256, R262–R272). -/

namespace Sys2Proof.Machine

/-- The stall of a kind that works on a band or a row. -/
def State.stallOf (s : State) (kind n e r i : Nat) : Option (Nat × Stall) :=
  s.mews.stalls.find? (fun kv => kv.2.kind == kind && kv.2.chan == n && kv.2.epoch == e && kv.2.row == r && kv.2.col == i)

/-- An operand token sent to a stall, where it is in use (R265). -/
def State.sendToken (s : State) (k : Option (Nat × Stall)) (slot : Nat) : State :=
  match k with
  | some (a, x) => s.setStall a (x.token slot)
  | none => s

/-- FETCH_COMPLETE (R191, R262): every reference window of the band is resident; the fetch coach's stall is freed, and
the window operand is signalled to the band and to its search coach. -/
def execFetchComplete (stall : Nat) (s : State) : Host.Outcome State Fault Refusal :=
  if 49152 ≤ stall then .fault .noSuchUnit
  else match s.stall stall with
    | none => .next s
    | some x =>
      if x.kind = 3 ∧ x.state = 4 then
        let s1 := s.freeStall stall
        let s2 := s1.sendToken (s1.stallOf 1 x.chan x.epoch x.row x.col) 1
        .next (s2.sendToken (s2.stallOf 4 x.chan x.epoch x.row x.col) 1)
      else .next s

/-- v of a band with a motion field (R250): 1 plus its SAD. -/
def fieldCost (l : List Motion) : Nat := (l.map Motion.sad).sum + 1

/-- The motion field of the band that a search coach works on (R188, R190, R246). -/
def State.fieldOf (s : State) (x : Stall) : List Motion :=
  let c := s.ch x.chan
  c.fieldOf (s.cfgAt x.chan x.epoch) (s.ownTilesAt x.chan x.epoch) x.epoch x.row x.col (tgetD c.kinds x.epoch 1 / 2)
    (tgetD c.refsAt x.epoch []) x.seeds (s.farAt x.chan)

/-- MOTION_FIELD_DELIVERED (R188, R190, R246): a search coach whose operands are complete delivers its band's motion field, and
its stall is freed. `band` is the band's stall; a search coach delivers to no other. -/
def execMotionFieldDelivered (stall band : Nat) (s : State) : Host.Outcome State Fault Refusal :=
  if 49152 ≤ stall then .fault .noSuchUnit
  else match s.stall stall with
    | none => .next s
    | some x =>
      if x.kind = 4 ∧ x.state = 3 then
        let s1 := s.freeStall stall
        match s1.stallOf 1 x.chan x.epoch x.row x.col with
        | some (k, b) =>
          let field := s.fieldOf x
          let s2 := s1.setStall k ({ b with field := some field }.token 2)
          if k ≠ band then .next s
          else .next ((s2.spanGroup x.chan).filter (· != s2.node) |>.foldl (fun t m =>
            t.say m 0x32 [x.chan, x.epoch, x.row, x.col, 0, fieldCost field]) s2)
        | none => .next s1
      else .next s

/-! Departure units (R195, R240, R476) -/

/-- The bytes of departure unit i of a row. -/
def Chan.unitBytes (c : Chan) (g : Cfg) (e d i : Nat) : Nat :=
  ceilDiv (((List.range (g.rowsIn d)).map (fun j => tgetD c.bands (bandKey e (d * g.perRow + j) i) 0)).sum) 8
/-- A departure unit holds a substitute (R255). -/
def Chan.unitSubst (c : Chan) (g : Cfg) (e d i : Nat) : Bool :=
  (List.range (g.rowsIn d)).any (fun j => c.subs.contains (bandKey e (d * g.perRow + j) i))
/-- Every band of a departure unit is done. -/
def Chan.unitDone (c : Chan) (g : Cfg) (e d i : Nat) : Bool :=
  (List.range (g.rowsIn d)).all (fun j => c.bandDone e (d * g.perRow + j) i)
/-- The bytes of the elements of the fixed part that a departure row carries, before and after its bands (R250). -/
def Chan.rowFixed (c : Chan) (g : Cfg) (e d : Nat) : List Nat × List Nat :=
  let es := tgetD c.elements e ([], [])
  (if d = 0 then g.elementSizes es.1 else [], if d + 1 = g.drows then g.elementSizes es.2 else [])
/-- The filler of a departure row, bytes (R240). -/
def Chan.filler (c : Chan) (g : Cfg) (e d : Nat) : Nat :=
  let fx := c.rowFixed g e d
  if g.filled then (g.slot d).toNat / 8 - (fx.1.sum + fx.2.sum + ((List.range g.unitsPerRow).map (c.unitBytes g e d)).sum) else 0

/-- The digest record of a departure unit goes to the peer of a pair (R476). -/
def State.unitDigest (s : State) (n e d i bytes : Nat) : State :=
  let c := s.ch n
  s.sendDigest e n 0 d i (b2n (c.unitSubst (s.cfgAt n e) e d i) + tgetD c.marks e 0) bytes

/-- The lead of the span of a picture's channel (R457); this device where it spans none. -/
def State.leadAt (s : State) (n e : Nat) : Nat := (s.spanGroupAt n e).headD s.node

/-- Whether this device holds a departure unit that it did not code itself or codes alone (R462, R465): it is in its own stripe, or
its member has sent it. -/
def State.holdsUnit (s : State) (n e d i : Nat) : Bool :=
  let own := s.ownTilesAt n e
  (s.spanGroupAt n e).isEmpty || (decide (own.1 ≤ i) && decide (i < own.2)) ||
    (tget (tgetD s.cluster.spans n {}).units (bandKey e d i)).isSome

/-- Every unit of a row is final and held by the device that sends it, and so is the row's filler (R240, R476). -/
def State.rowWhole (s : State) (n e d : Nat) : Bool :=
  let g := s.cfgAt n e
  s.leadAt n e == s.node && (List.range g.unitsPerRow).all (fun i => (s.ch n).unitDone g e d i && s.holdsUnit n e d i)

/-- The digest record of the last unit of a FILLED row, once the whole row and so its filler is final (R476). -/
def State.lastDigest (s : State) (n e d : Nat) : State :=
  let g := s.cfgAt n e
  let c := s.ch n
  let last := g.unitsPerRow - 1
  if g.filled && s.rowWhole n e d then s.unitDigest n e d last (c.unitBytes g e d last + c.filler g e d) else s

/-- A departure unit has become final at the device that sends it (R476): its digest record goes to the peer of a pair. The record
of a row's last unit covers the row's filler, and waits for it. -/
def State.unitHeld (s : State) (n e d i : Nat) : State :=
  let g := s.cfgAt n e
  (if g.filled && i == g.unitsPerRow - 1 then s else s.unitDigest n e d i ((s.ch n).unitBytes g e d i)).lastDigest n e d

/-- A departure unit of this device has become final (R198): its digest record goes out, or in a span group the unit itself goes to the
lead (R462), which makes the record. [DEDUCED: log entry 87] -/
def State.unitFinal (s : State) (n e d i : Nat) : State :=
  let lead := s.leadAt n e
  if lead = s.node then s.unitHeld n e d i
  else s.say lead 0x36 [n, e, d, i, (s.ch n).unitBytes (s.cfgAt n e) e d i]

/-- The digest record of a picture's fixed part (R476), once what leaves before its bands is final.
[DESIGN CHOICE: log entry 113] -/
def State.fixedDigest (s : State) (n e : Nat) : State :=
  let g := s.cfgAt n e
  let c := s.ch n
  let front := (c.rowFixed g e 0).1
  if front.isEmpty ∨ s.leadAt n e ≠ s.node then s else s.sendDigest e n 1 0 0 (tgetD c.marks e 0) front.sum

/-! Row budgets (R244, R250) -/

/-- v of the band of CTU row `b.1` and tile column `b.2` (R250): 1 where its motion field is empty; else from its own stall, or
from a member's ROWSTAT (R461); none while the field has not come. -/
def State.bandCost (s : State) (n e : Nat) (key : Bool) (phase : Nat) (b : Nat × Nat) : Option Nat :=
  let own := s.ownTilesAt n e
  if (s.cfgAt n e).intraOnly key phase b.2 then some 1
  else if own.1 ≤ b.2 ∧ b.2 < own.2 then (s.stallOf 1 n e b.1 b.2).bind (fun kx => kx.2.field.map fieldCost)
  else tget (tgetD s.cluster.spans n {}).costs (bandKey e b.1 b.2)

/-- The bands of a departure row, by CTU row and tile column (R229). -/
def Cfg.bandsOf (g : Cfg) (r : Nat) : List (Nat × Nat) :=
  (List.range (g.rowsIn r)).flatMap (fun j => (List.range g.tcols).map (fun i => (r * g.perRow + j, i)))

/-- The spendable part of departure row r (R250), which never falls below 0. -/
def Chan.rowSpend (c : Chan) (g : Cfg) (e r : Nat) (key : Bool) (phase : Nat) : Int :=
  let fx := tgetD c.fixedPart e (0, 0)
  let fin : Int := (List.range r).foldl (fun (a : Int) k =>
    let budget := tgetD c.rowBudgets (rowKey e k) 0
    a + (if k + g.mu ≤ r then tgetD c.rowSizes (rowKey e k) budget else budget : Nat)) 0
  let rest : Int := ((List.range (g.drows - r)).map (fun k => g.rowReserve (r + k) key phase)).sum
  let budget : Int := (tgetD c.budgets e 0 : Nat)
  let spend := max 0 (budget - (fx.1 + fx.2 : Nat) - fin - rest)
  let w := fun k => c.weight g e k key
  let total := ((List.range (g.drows - r)).map (fun k => w (r + k))).sum
  let share := if total = 0 then 0 else spend * w r / (total : Nat)
  let carried := (if r = 0 then fx.1 else 0) + (if r + 1 = g.drows then fx.2 else 0)
  max 0 (min share (g.slot r - (g.rowReserve r key phase : Nat) - (carried : Nat)))

/-- ROW_BUDGET_SET (R244, R250): A + P lines after its first line, the budget of the next departure row is split among
its bands, and the budget operand is signalled to each. -/
def execRowBudgetSet (chan row : Nat) (s : State) : Host.Outcome State Fault Refusal :=
  if 128 ≤ chan then .fault .noSuchUnit
  else
    let c := s.ch chan
    let e := c.budE
    match tget c.stamps e with
    | none => .next s
    | some stamp =>
      let g := s.cfgAt chan e
      let kind := tgetD c.kinds e 1
      let key := bit kind 0
      let phase := kind / 2
      let lines := ((g.sd.mul (Frac.ofInt row)).add g.a).add (Frac.ofInt (g.y0 + g.p : Nat))
      let bands := g.bandsOf row
      let costs := bands.map (s.bandCost chan e key phase)
      if row ≠ c.budRow ∨ g.drows ≤ row ∨ s.now < stamp + (g.ns lines).ceil.toNat ∨ costs.any Option.isNone then
        .next s
      else
        let spend := c.rowSpend g e row key phase
        let v := costs.map (fun o => o.getD 1)
        let sum := v.sum
        let budgets := (bands.zip v).map (fun bv =>
          (g.bandReserve bv.1.2 key phase : Int) + spend * (bv.2 : Nat) / ((max 1 sum : Nat) : Int))
        let done := decide (g.drows ≤ row + 1)
        let c1 := { c with
          rowBudgets := tset c.rowBudgets (rowKey e row) (budgets.map Int.toNat).sum,
          bandBudgets := (bands.zip budgets).foldl (fun t b => tset t (bandKey e b.1.1 b.1.2) b.2.toNat) c.bandBudgets,
          budE := if done then e + 1 else e, budRow := if done then 0 else row + 1 }
        let s1 := s.setCh chan c1
        .next (bands.foldl (fun t b => t.sendToken (t.stallOf 1 chan e b.1 b.2) 3) (if row = 0 then s1.fixedDigest chan e else s1))

/-! Retirement (R198, R252, R255, R272) -/

/-- Whether an earlier band of the column is substituted, so that every later one of the picture is (R255). -/
def Chan.columnLost (c : Chan) (g : Cfg) (e r i : Nat) : Bool :=
  g.serial && (List.range r).any (fun k => c.subs.contains (bandKey e k i))

/-- Final sizes that a band's record completes: its departure row, the bits of its bands, and its picture, with its fixed part
(R245, R250). [DEDUCED: log entry 65] -/
def Chan.recordBand (c : Chan) (g : Cfg) (e r i bits : Nat) : Chan :=
  let c1 := { c with bands := tset c.bands (bandKey e r i) bits }
  let d := r / g.perRow
  let bs := g.bandsOf d
  if bs.all (fun b => c1.bandDone e b.1 b.2) then
    let fx := tgetD c.fixedPart e (0, 0)
    let size := (bs.map (fun b => tgetD c1.bands (bandKey e b.1 b.2) 0)).sum
    let c2 := { c1 with rowSizes := tset c1.rowSizes (rowKey e d) size }
    let sizes := (List.range g.drows).map (fun k => tget c2.rowSizes (rowKey e k))
    if sizes.all Option.isSome then
      { c2 with sizes := tset c2.sizes e ((sizes.map (fun o => o.getD 0)).sum + fx.1 + fx.2) }
    else c2
  else c1

/-- A message to each of some nodes. -/
def State.sayAll (s : State) (dsts : List Nat) (kind : Nat) (args : List Nat) : State :=
  dsts.foldl (fun t k => t.say k kind args) s

/-- The other members of a channel's span group. -/
def State.others (s : State) (n : Nat) : List Nat := (s.spanGroup n).filter (· != s.node)

/-- The samples of the leftmost 16 luma columns that this device codes of CTU row r, with the matching chroma, and what its first
band leaves of statistics (R460). [DEDUCED: log entry 86] -/
def Chan.edgeData (c : Chan) (g : Cfg) (e r i : Nat) : List Nat :=
  ((List.range 3).flatMap (fun p => ((tgetD c.recon (bandKey e r i) []).getD p []).flatMap (fun l => l.take (16 / (g.planeDiv p).1)))) ++
    (tgetD c.bandStats (bandKey e r i) []).map BitVec.toNat

/-- What a finished band signals (R198, R262): the band below it in the tile, the seam coach of a row whose bands are
all done, and the departure coaches of its unit once the unit is final. -/
def State.bandSignals (s : State) (n e r i : Nat) : State :=
  let g := s.cfgAt n e
  let c := s.ch n
  let s1 := if g.serial && !g.topOfTile (r + 1) then s.sendToken (s.stallOf 1 n e (r + 1) i) 4 else s
  let own := s.ownTilesAt n e
  let s1 := s1.sayAll (s1.others n) 0x32 [n, e, r, i, 1, tgetD c.bands (bandKey e r i) 0]
  let s2 := if (List.range (own.2 - own.1)).all (fun j => c.bandDone e r (own.1 + j)) then
    (s1.sendToken (s1.stallOf 2 n e r 0) 0).sayAll (s1.neighbours n).1 0x33 ([n, e, r, 0] ++ c.edgeData g e r own.1)
    else s1
  let d := r / g.perRow
  if c.unitDone g e d i then
    let s2 := s2.unitFinal n e d i
    { s2 with mews := { s2.mews with stalls := s2.mews.stalls.map (fun kv =>
        if kv.2.kind == 5 && kv.2.chan == n && kv.2.epoch == e && kv.2.row == d * g.perRow && kv.2.col == i then
          (kv.1, kv.2.token 0) else kv) } }
  else s2

/-- A band's bits become part of its picture (R184, R195, R245, R252): its record, and the status objects that a final
picture and floor form advance. -/
def State.finishBand (s : State) (n e r i bits floors : Nat) : State :=
  let g := s.cfgAt n e
  let c := s.ch n
  let c1 := (c.recordBand g e r i bits).leaveCdf g e
  let s1 := s.setCh n c1
  let s2 := match tget c1.sizes e with
    | some z => if (tget c.sizes e).isSome then s1 else s1.put (chI n 0x68) 0x0C z
    | none => s1
  let s3 := if floors = 0 then s2 else (s2.chBump n 0x68 0x0D 0x68 0x10 floors).perfAdd 0x31 n floors
  let s4 := if floors = 0 ∨ c.floored = e + 1 then s3
    else (s3.setCh n { s3.ch n with floored := e + 1 }).chBump n 0x68 0x0E 0x68 0x10 1
  s4.bandSignals n e r i

/-- A band is substituted (R255, R256): counted and recorded, its size at most its floor reserve, and its stall waits
for substitute reconstruction. [DEDUCED: log entry 67] -/
def State.substitute (s : State) (n e r i : Nat) : State :=
  let g := s.cfgAt n e
  let kind := tgetD (s.ch n).kinds e 1
  let d := s.draw
  let bits := d.1 % (g.bandReserve i (bit kind 0) (kind / 2) + 1)
  let st := d.2.stallOf 1 n e r i
  let pav := (st.map (fun kx => kx.2.pav)).getD 0
  let s1 := (d.2.chBump n 0x68 0x0F 0x68 0x10 1).log 4 pav n [e, r * 65536 + i]
  let s2 := s1.setCh n { s1.ch n with subs := (s1.ch n).subs ++ [bandKey e r i] }
  let s3 := match st with
    | some (k, x) =>
      let s3 := s2.setStall k { x with state := 6, list := 2, readyAt := s2.now }
      if (s3.pav x.pav).busy = some k then s3.setPav x.pav { s3.pav x.pav with busy := none } else s3
    | none => s2
  s3.finishBand n e r i bits 0

/-- Whether the band ahead in the same sequence has still to retire (R272). [DEDUCED: log entry 67] -/
def State.aheadWaits (s : State) (x : Stall) : Bool :=
  s.mews.stalls.any (fun kv => kv.2.kind == 1 && kv.2.chan == x.chan && kv.2.col == x.col && kv.2.state != 6 &&
    !(kv.2.state == 4 && kv.2.list == 2) &&
    (decide (kv.2.epoch < x.epoch) || (kv.2.epoch == x.epoch && decide (kv.2.row < x.row))))

/-- One band retires (R272): its stall is freed and its bits are final; in a column already lost it is substituted.
[DEDUCED: log entry 67] -/
def State.retireOne (s : State) (k : Nat) (x : Stall) (bits floors : Nat) : State :=
  let c := s.ch x.chan
  if c.bandDone x.epoch x.row x.col then s.freeStall k
  else if c.columnLost (s.cfgAt x.chan x.epoch) x.epoch x.row x.col then s.substitute x.chan x.epoch x.row x.col
  else (s.freeStall k).finishBand x.chan x.epoch x.row x.col bits floors

/-- The bands done and waiting for order that now follow directly (R272). [DEDUCED: log entry 67] -/
def State.retireRest (s : State) (n i : Nat) : Nat → State
  | 0 => s
  | fuel + 1 =>
    match s.mews.stalls.find? (fun kv => kv.2.kind == 1 && kv.2.chan == n && kv.2.col == i && kv.2.state == 5 &&
        !s.aheadWaits kv.2) with
    | some (k, x) => (s.retireOne k x x.done.1 x.done.2).retireRest n i fuel
    | none => s

/-- BAND_RETIRE (R184, R251, R252, R272): the entropy unit reports the last bit of the band that a stall's coach runs.
`bits` is the entropy unit's count and `rateBits` the Pavilion's; where they differ, an engine fault of row 6. Of the
band's `ctus`, the last `floorCtus` took floor form. A band never exceeds its budget nor its CTUs (R251). -/
def execBandRetire (stall bits ctus floorCtus rateBits : Nat) (s : State) : Host.Outcome State Fault Refusal :=
  if 49152 ≤ stall then .fault .noSuchUnit
  else match s.stall stall with
    | none => .next s
    | some x =>
      let g := s.cfgAt x.chan x.epoch
      let budget := tgetD (s.ch x.chan).bandBudgets (bandKey x.epoch x.row x.col) 0
      if x.kind ≠ 1 ∨ x.state ≠ 4 ∨ x.list = 2 then .next s
      else if bits ≠ rateBits then .next (s.engineFault stall x 6 0)
      else if budget < bits ∨ ctus ≠ g.tileW x.col ∨ ctus < floorCtus then .next s
      else
        let s0 := s.bandOut x Config.codeBand
        let s1 := ((s0.setPav x.pav { s.pav x.pav with busy := none }).pavAdd x.pav x.chan 7 ctus).pavAdd x.pav x.chan 8 floorCtus
        if s1.aheadWaits x then .next (s1.setStall stall { x with state := 5, done := (bits, floorCtus) })
        else .next ((s1.retireOne stall x bits floorCtus).retireRest x.chan x.col s1.mews.stalls.length)

/-- SUBSTITUTE_RECONSTRUCTION_COMPLETE (R184, R256): a substituted band is reconstructed from its substitute and leaves its
outputs; its stall and its Pavilion are freed. -/
def execSubstituteReconstructionComplete (stall : Nat) (s : State) : Host.Outcome State Fault Refusal :=
  if 49152 ≤ stall then .fault .noSuchUnit
  else match s.stall stall with
    | none => .next s
    | some x =>
      if x.kind = 1 ∧ x.state = 4 ∧ x.list = 2 then
        let s1 := s.bandOut x Config.substBand
        .next ((s1.freeStall stall).setPav x.pav { s.pav x.pav with busy := none })
      else .next s

end Sys2Proof.Machine
end

