-- ==== Sys2Proof/Machine/Streams.lean ====
section
/-! DEFINITION. Streams.lean: a departure row as the flows carry it: RTP packets, TS packets with their PSI, and delivery rings
(R353–R365, R372, R373, R477, R478). -/

namespace Sys2Proof.Machine

/-! Media time (R353, R354, R359–R363) -/

/-- The RTP timestamp of the picture with media index k (R354). -/
def rtpStamp (num den k offset : Nat) : Nat := (k * den * 90000 / num + offset) % 4294967296
/-- Nd of R360 in ns: the nominal departure instant of row r of the picture with media index K. -/
def Cfg.nominal (g : Cfg) (k r l : Nat) : Frac :=
  (Frac.mk' (k * g.den * 1000000000) g.num).add (g.ns (g.departs r l))
/-- The PCR value of a nominal instant in ns (R360). -/
def pcrOf (nd : Frac) : Nat := ((nd.mul (Frac.mk' 27 1000)).floor.toNat) % 2576980377600
/-- The PTS of the picture with media index k (R361). -/
def Cfg.pts (g : Cfg) (k l : Nat) : Nat := ((k + 1) * g.h + l) * g.den * 90000 / (g.num * g.h) % 8589934592
/-- The TS packets that a row fills in FILLED mode (R362). -/
def Cfg.tsRow (g : Cfg) (rts r : Nat) : Nat :=
  let lines := g.sd.sub (Frac.ofInt (1 + (if r + 1 = g.drows then 2 * g.lock else 0) : Nat))
  7 * ((lines.mul (Frac.mk' (rts * g.den) (g.num * g.h * 10528))).floor.toNat)
/-- Whether a multiple of a period lies after `a` and not after `b` (R359). -/
def crosses (period : Nat) (a b : Frac) : Bool :=
  let p := Frac.ofInt (max 1 period : Nat)
  decide ((a.div p).floor < (b.div p).floor)

/-! What a departure row carries -/

/-- One piece of a departure row: a departure unit or a part of the access unit's fixed part (R357). -/
structure Piece where
  /-- R356. bytes of its NAL units with their start codes, of its OBUs, or of its slices, in order -/
  parts : List Nat
  /-- R477. it is sent -/
  sends : Bool
  /-- R372. it holds a substitute -/
  subst : Bool := false
deriving DecidableEq, Repr
/-- A piece's bytes. -/
def Piece.bytes (p : Piece) : Nat := p.parts.sum

/-- A departure row as the flows carry it. -/
structure RowOut where
  /-- R231. departure row -/
  row : Nat
  /-- R372. epoch count of the picture -/
  epoch : Nat
  /-- R353. media index -/
  k : Nat
  /-- R357. its pieces in order -/
  pieces : List Piece
  /-- R200. the suffix of the fixed part that follows them -/
  tail : List Piece := []
  /-- R200. RTP flows and elementary rings carry the suffix later -/
  held : Bool := false
  /-- R357, R372. its first piece begins an access unit -/
  opens : Bool := false
  /-- R357, R372. its last piece ends one -/
  ends : Bool := false
  /-- R372. the picture is a random-access point -/
  key : Bool := false
  /-- R373. its departure instant, PTP ns -/
  due : Nat
  /-- R29. the output policy sends it -/
  policy : Bool := false
  /-- R29. nothing but null packets fills the row of a TS flow -/
  nulls : Bool := false
  /-- R491. nothing of the row is sent -/
  withheld : Bool := false
deriving DecidableEq, Repr

/-- The pieces of a row on an RTP flow or an elementary ring, with the places of the first and the last in their access unit. -/
def RowOut.now_ (o : RowOut) : List Piece := o.pieces ++ (if o.held then [] else o.tail)
/-- Whether they end an access unit. -/
def RowOut.endsNow (o : RowOut) : Bool := o.ends && !(o.held && !o.tail.isEmpty)

/-! RTP elementary flows (R351, R354–R357) -/

/-- RTP packets of one part of `n` bytes, and the bytes of their datagrams (R351, R356): a JPEG XS slice in packets of a 4-byte
payload header; a NAL unit, its start code left out, in a packet of its own, or in fragmentation units where it is larger than the
payload: those of HEVC and VVC replace its 2-byte header by 3 bytes in each packet, those of AVC its 1-byte header by 2.
[DEDUCED: log entry 72] -/
def rtpPart (codec dmax n : Nat) : Nat × Nat :=
  let m := n - 4
  if n = 0 then (0, 0)
  else if codec = 5 then let k := ceilDiv n (dmax - 44); (k, n + 44 * k)
  else if m + 40 ≤ dmax then (1, m + 40)
  else if codec = 4 then let k := ceilDiv (m - 1) (dmax - 42); (k, m - 1 + 42 * k)
  else let k := ceilDiv (m - 2) (dmax - 43); (k, m - 2 + 43 * k)
/-- RTP packets of a piece, which are of this piece alone (R357), and the bytes of their datagrams. -/
def Piece.rtp (p : Piece) (codec dmax : Nat) : Nat × Nat :=
  p.parts.foldl (fun a n => let x := rtpPart codec dmax n; (a.1 + x.1, a.2 + x.2)) (0, 0)

/-- A departure row on an RTP elementary flow (R354–R357). [DESIGN CHOICE: log entry 96] -/
def State.rtpRow (s : State) (od : Tab Val) (f : Nat) (g : Cfg) (o : RowOut) : State :=
  let cost := fun (l : List Piece) => (l.map (fun p => p.rtp g.codec (odNat od (flI f 0) 16))).foldl
    (fun (a x : Nat × Nat) => (a.1 + x.1, a.2 + x.2)) (0, 0)
  let all := (cost o.now_).1
  let sent := cost (if o.withheld then [] else o.now_.filter (fun p => p.sends))
  let s1 := s.sendFlow od f all sent.1 sent.2
  if all = 0 then s1
  else s1.setFl f { s1.fl f with lastTs := rtpStamp g.num g.den o.k (odNat od (flI f 1) 4), lastMark := o.endsNow }

/-! Delivery rings (R372, R373) -/

/-- The units of a row handed to a delivery ring in order, each with its FIRST, LAST, KEY and SUBST flags (R372, R373). -/
def RowOut.units (o : RowOut) (mts until_ : Nat) : List RingUnit :=
  let ps := o.now_.zipIdx
  (ps.filter (fun pi => pi.1.sends && !o.withheld && pi.1.bytes != 0)).map (fun pi =>
    { bytes := pi.1.bytes, au := o.epoch, epochLo := o.epoch % 256, mts := mts, due := o.due, until_ := until_,
      flags := b2n (o.opens && pi.2 == 0) + 2 * b2n (o.endsNow && pi.2 + 1 == ps.length) + 8 * b2n o.key + 16 * b2n pi.1.subst })
/-- A departure row on an elementary delivery ring. -/
def State.ringRow (s : State) (od : Tab Val) (f : Nat) (g : Cfg) (l : Nat) (o : RowOut) : State :=
  let s1 := s.generate od f (o.now_.filter (fun p => p.bytes != 0)).length
  s1.setFl f { s1.fl f with owed := (s1.fl f).owed ++ o.units (g.pts o.k l) (o.due + (g.ns g.sd).floor.toNat) }

/-! MPEG-2 TS flows (R358–R365) -/

/-- A PMT registration name. -/
def regName (a b c d : Nat) : Descriptor := .registration [a, b, c, d]
/-- stream_type and descriptors of a channel's video (R358). -/
def videoStream (codec : Nat) : Nat × List Descriptor :=
  match codec with
  | 1 => (0x33, [.vvcVideo])
  | 2 => (0x24, [.hevcVideo])
  | 3 => (0x06, [regName 0x41 0x56 0x30 0x31, .av1Video])
  | 4 => (0x1B, [])
  | _ => (0x32, [.jxsVideo])
/-- stream_type and descriptors of an audio output (R358). -/
def audioStream (codec : Nat) : Nat × List Descriptor :=
  match codec with
  | 0 => (0x06, [regName 0x42 0x53 0x53 0x44])
  | 3 => (0x06, [regName 0x4F 0x70 0x75 0x73])
  | _ => (0x0F, [])
/-- The PSI of a TS flow (R358–R360). -/
def psiOf (od : Tab Val) (f : Nat) (g : Cfg) : Psi :=
  let h := odNat od (flI f 2)
  let v := videoStream g.codec
  { tsid := h 2, program := h 3, pmtPid := h 4, pcrPid := h 5,
    streams := ⟨h 5, v.1, v.2⟩ :: ((bits (h 7) 32).zipIdx).map (fun op =>
      let a := audioStream (odNat od (0x1B40 + op.1) 5)
      ⟨h 6 + op.2, a.1, a.2⟩) }

/-- TS packets of the PMT (R358, R360): its section after a pointer byte, one elementary stream after another.
[PRESUMED: log entry 106] -/
def Psi_packets (p : Psi) : Nat :=
  let desc := fun (d : Descriptor) => match d with
    | .registration _ => 6
    | d => Config.descriptorBytes d
  ceilDiv (17 + (p.streams.map (fun e => 5 + (e.descs.map desc).sum)).sum) 184

/-- A flow's audio access units whose nominal end lies after `a` and not after `b`, in ascending output order (R359, R360):
output, its PID's position, the unit's number and its bytes. -/
def State.audioDue (s : State) (od : Tab Val) (f : Nat) (a b : Frac) : List (Nat × Nat × Nat × Nat) :=
  ((bits (odNat od (flI f 2) 7) 32).zipIdx).flatMap (fun op =>
    ((tgetD s.audio.outs op.1 {}).ready.filter (fun u =>
      a.lt (Frac.ofInt (u.1 : Nat)) && (Frac.ofInt (u.1 : Nat)).le b)).map (fun u => (op.1, op.2, u.2.2, u.2.1)))

/-- The gate's decision on what an audio output sends under an index, made once (R477): access unit j at 2j, packet j at 2j + 1. -/
def State.gateAudio (s : State) (o key : Nat) : Bool × State :=
  let x := tgetD s.audio.outs o {}
  match tget x.gated key with
  | some b => (b, s)
  | none =>
    let r := s.gate none (key / 2) (0x80 + o) 2 0 0
    let kept := (x.gated.filter (fun kv => decide (key ≤ kv.1 + 256)))
    (r.1, { r.2 with audio := { r.2.audio with outs := tset r.2.audio.outs o { x with gated := tset kept key r.1 } } })

/-- The gate's decisions on some audio access units. -/
def State.gateAudios (s : State) (us : List (Nat × Nat × Nat × Nat)) : List Bool × State :=
  us.foldl (fun (a : List Bool × State) u => let r := a.2.gateAudio u.1 (2 * u.2.2.1); (a.1 ++ [r.1], r.2)) ([], s)

/-- A continuity counter advanced by packets of its PID (R360). -/
def ccBump (cc : Tab Nat) (pid packets : Nat) : Tab Nat :=
  if packets = 0 then cc else tset cc pid ((tgetD cc pid 0 + packets) % 16)

/-- Spans of `n` things each, one after another from `at_` on. -/
def spansFrom (at_ : Nat) : List Nat → List (Nat × Nat)
  | [] => []
  | n :: r => (at_, n) :: spansFrom (at_ + n) r

/-- A departure row on a TS flow or a TS delivery ring (R359–R365, R373, R478): a datagram that holds a packet of anything
withheld is withheld. [DESIGN CHOICE: log entry 96] -/
def State.tsRowOut (s : State) (od : Tab Val) (f : Nat) (g : Cfg) (l : Nat) (o : RowOut) : State :=
  let h := odNat od (flI f 2)
  let rts := h 1
  let nd := g.nominal o.k o.row l
  let prev := if o.row = 0 then g.nominal (o.k - 1) (g.drows - 1) l else g.nominal o.k (o.row - 1) l
  let psi := crosses (h 8 * 1000000) prev nd && !o.nulls
  let aus := if o.nulls then [] else s.audioDue od f prev nd
  let gates := if o.policy then (aus.map (fun _ => true), s) else s.gateAudios aus
  let audio := aus.map (fun u => ceilDiv (u.2.2.2 + 14) 184)
  let pieces := o.pieces ++ o.tail
  let head := if o.row = 0 then 14 else 0
  let video := (pieces.map Piece.bytes).sum
  let vp := if video = 0 then 0 else ceilDiv (video + head) 184
  let pmt := if psi then Psi_packets (psiOf od f g) else 0
  let intro := 1 + (if psi then 1 + pmt else 0)
  let before := intro + audio.sum
  let fill := o.nulls || g.filled
  let total := max (before + vp) (if fill then g.tsRow rts o.row else 0)
  let grams := ceilDiv total 7
  let lostAudio := ((spansFrom intro audio).zip gates.1).filterMap (fun x =>
    if x.2 then none else some (x.1.1 / 7, (x.1.1 + x.1.2 - 1) / 7))
  let lostVideo := ((spansFrom head (pieces.map Piece.bytes)).zip pieces).filterMap (fun x =>
    if x.2.sends || x.1.2 == 0 then none else some ((before + x.1.1 / 184) / 7, (before + (x.1.1 + x.1.2 - 1) / 184) / 7))
  let lost := lostAudio ++ lostVideo
  let gone := if o.withheld then List.range grams
    else (List.range grams).filter (fun d => lost.any (fun p => decide (p.1 ≤ d) && decide (d ≤ p.2)))
  let size := fun (d : Nat) => (if odNat od (flI f 0) 4 = 2 then 40 else 28) + 188 * min 7 (total - 7 * d)
  let bytes := (((List.range grams).filter (fun d => !gone.contains d)).map size).sum
  let s1 := gates.2.sendFlow od f grams (grams - gone.length) bytes
  let x := s1.fl f
  let cc0 := if psi then ccBump (ccBump x.cc 0 1) (h 4) pmt else x.cc
  let cc1 := (aus.zip audio).foldl (fun t u => ccBump t (h 6 + u.1.2.1) u.2) cc0
  let lastNs := nd.add (Frac.mk' ((grams - 1) * 10528 * 1000000000) rts)
  let unit : RingUnit := { bytes := 188 * total, au := o.epoch, epochLo := o.epoch % 256, mts := g.pts o.k l, due := o.due,
                           until_ := o.due + (g.ns g.sd).floor.toNat,
                           flags := b2n o.opens + 2 * b2n o.ends + 8 * b2n o.key + 16 * b2n (pieces.any (fun p => p.subst)) }
  s1.setFl f { x with
    cc := ccBump cc1 (h 5) vp, lastPcr := pcrOf nd, psi := if psi then some (psiOf od f g) else x.psi,
    lastPts := if o.row = 0 ∧ video ≠ 0 then g.pts o.k l else x.lastPts,
    lastTs := (lastNs.mul (Frac.mk' 90000 1000000000)).floor.toNat % 4294967296,
    owed := if onRing od f && gone.isEmpty then x.owed ++ [unit] else x.owed }

/-! Every flow of a channel -/

/-- The flows of a channel that send a departure row: those enabled start with row 0 of their first picture, those
disabled stop (R352). [DEDUCED: log entry 71] -/
def State.openFlows (s : State) (n e row : Nat) : State :=
  let fs := flowsOf (s.odAt n e) n
  if row ≠ 0 then s
  else
    let s1 := (fs.filter (fun f => !(s.fl f).running || e == 0)).foldl State.startFlow s
    ((s1.flow.filter (fun kv => kv.2.running && s1.flNat kv.1 0 2 == n && videoContent s1.od kv.1 &&
      !fs.contains kv.1)).map Prod.fst).foldl State.stopFlow s1

/-- A departure row on one flow of its channel. [DESIGN CHOICE: log entry 96] -/
def State.flowRow (s : State) (od : Tab Val) (f : Nat) (g : Cfg) (l : Nat) (o : RowOut) : State :=
  if carriesTs od f then s.tsRowOut od f g l o
  else if o.nulls then s
  else if onRing od f then s.ringRow od f g l o
  else s.rtpRow od f g o
/-- A departure row on every flow of its channel. -/
def State.rowOut (s : State) (n e : Nat) (g : Cfg) (l : Nat) (o : RowOut) : State :=
  let od := s.odAt n e
  ((flowsOf od n).filter (fun f => (s.fl f).running)).foldl (fun t f => t.flowRow od f g l o) s
/-- A suffix that a departure row held back, on the flows that do not carry TS (R200). -/
def State.tailOut (s : State) (n e : Nat) (g : Cfg) (l : Nat) (o : RowOut) : State :=
  let od := s.odAt n e
  ((flowsOf od n).filter (fun f => (s.fl f).running && !carriesTs od f)).foldl (fun t f => t.flowRow od f g l o) s

end Sys2Proof.Machine
end

