-- ==== Sys2Proof/Machine/Departure.lean ====
section
/-! DEFINITION. Departure.lean: the departure gate, seams and reference tiles, output policies and return video (R13, R29, R178,
R199, R200, R231, R232, R255, R273, R316, R426, R459, R460, R465, R477, R491). -/

namespace Sys2Proof.Machine

/-! Substitution at the instant (R255) -/

/-- Every band of a departure row that is not final is substituted, with the later bands of a serial column (R255).
[DEDUCED: log entry 67] -/
def State.substituteRow (s : State) (n e d : Nat) (g : Cfg) : State :=
  let own := s.ownTilesAt n e
  (g.bandsOf d).foldl (fun t b =>
    if own.1 ≤ b.2 ∧ b.2 < own.2 ∧ !(t.ch n).bandDone e b.1 b.2 then t.substitute n e b.1 b.2 else t) s

/-- The gate's decision on a picture's fixed part, made once (R477). [DESIGN CHOICE: log entry 113] -/
def State.gateFixed (s : State) (n e : Nat) : Bool × State :=
  match (s.ch n).headSent with
  | some (k, b) => if k = e then (b, s) else
    let r := s.gate (some n) e n 1 0 0
    (r.1, r.2.setCh n { r.2.ch n with headSent := some (e, r.1) })
  | none =>
    let r := s.gate (some n) e n 1 0 0
    (r.1, r.2.setCh n { r.2.ch n with headSent := some (e, r.1) })

/-- The parts of departure unit i of a row (R195, R356): a NAL unit or OBU of its own, filler after the last unit of a FILLED row in
another; the two slices of a JPEG XS band, padding after the last (R240). [DEDUCED: log entry 72] -/
def Chan.unitParts (c : Chan) (g : Cfg) (e d i : Nat) : List Nat :=
  let z := c.unitBytes g e d i
  let filler := if i + 1 = g.unitsPerRow then c.filler g e d else 0
  if g.jxs then let a := min z (Config.sliceBytes z e d); [a, z - a + filler]
  else z :: (if filler = 0 then [] else [filler])

/-- The pieces of a departure row in raster order of tiles, and its suffix (R232, R240, R357). While the channel is REJOINING the
sizes are those of the primary's records (R484). -/
def State.rowPieces (s : State) (n e d : Nat) (g : Cfg) : List Piece × List Piece × State :=
  let c := s.ch n
  let fx := c.rowFixed g e d
  let theirs := fun (type row i : Nat) (own : List Nat) =>
    if (s.pc n).rejoining then ((s.peerRecord e n type row i).map (fun r => [r.size])).getD own else own
  let front : List Piece × State := if fx.1.isEmpty then ([], s)
    else let r := s.gateFixed n e; ([⟨theirs 1 0 0 fx.1, r.1, false⟩], r.2)
  let mid := (List.range g.unitsPerRow).foldl (fun (a : List Piece × State) i =>
    let r := a.2.gate (some n) e n 0 d i
    (a.1 ++ [⟨theirs 0 d i (c.unitParts g e d i), r.1, c.unitSubst g e d i⟩], r.2)) front
  if fx.2.isEmpty then (mid.1, [], mid.2)
  else let r := mid.2.gateFixed n e; (mid.1, [⟨fx.2, r.1, false⟩], r.2)

/-- The departure coaches of a row begin to release (R273). -/
def State.releaseRow (s : State) (n e row : Nat) : State :=
  { s with mews := { s.mews with stalls := s.mews.stalls.map (fun kv =>
      if kv.2.kind == 5 && kv.2.chan == n && kv.2.epoch == e && kv.2.row == row then
        (kv.1, { kv.2 with opmask := setBit kv.2.opmask 0, tokens := clrBit kv.2.tokens 0,
                           state := if bit kv.2.opmask 1 then 4 else 3 })
      else kv) } }

/-- The channel's next departure row; after the last row of a stopped channel, its part in a transition is over (R34,
R36). -/
def State.nextRow (s : State) (n e d : Nat) (g : Cfg) : State :=
  let c := s.ch n
  let done := decide (g.drows ≤ d + 1)
  let s1 := s.setCh n { c with depE := if done then e + 1 else e, depRow := if done then 0 else d + 1 }
  if done && !c.running && e + 1 == c.epoch then s1.reached n (c.expected c.epoch) else s1

/-- The lead of a span that cannot send a row (R465) sends the records of the units that it lacks with ABSENT set (R492). -/
def State.sayAbsent (s : State) (n e d : Nat) (g : Cfg) : State :=
  ((List.range g.unitsPerRow).filter (fun i => !s.holdsUnit n e d i)).foldl (fun t i => t.sendDigest e n 0 d i 2 0) s

/-- A departure row of a coded picture leaves (R231). -/
def State.departCoded (s : State) (n e d : Nat) (g : Cfg) (l due : Nat) : State :=
  let s1 := s.substituteRow n e d g
  if s.leadAt n e ≠ s.node then s1.nextRow n e d g
  else if (tgetD s.cluster.spans n {}).broken || !(List.range g.unitsPerRow).all (s.holdsUnit n e d) then
    let sp := tgetD s1.cluster.spans n {}
    (({ s1 with cluster := { s1.cluster with spans := tset s1.cluster.spans n { sp with broken := true } } }).sayAbsent n e d
      g).nextRow n e d g
  else
    let s2 := (s1.openFlows n e d).raise (chI n 0x68) 0x12 ((s.now : Int) - due)
    let s3 := if d = 0 then s2.rejoinPeriod n e g else s2
    let p := s3.rowPieces n e d g
    let c := s.ch n
    let kind := tgetD c.kinds e 1
    let hashed := p.2.1 != [] && g.carries .hash (bit kind 0) (kind / 2)
    let held := hashed && !c.seams.contains (rowKey e (g.rows - 1))
    let s4 := p.2.2.rowOut n e g l { row := d, epoch := e, k := c.media e, pieces := p.1, tail := p.2.1, held := held,
                                     opens := d == 0, ends := d + 1 == g.drows, key := g.access (bit kind 0) (kind / 2), due := due }
    let s5 := if held then s4.setCh n { s4.ch n with tails := p.2.1.foldl (fun t x => tset t e (x.parts, x.sends)) (s4.ch n).tails }
      else s4
    (s5.releaseRow n e (d * g.perRow)).nextRow n e d g

/-- A departure row of a picture that the output policy of HOLD or SAFE stands for (R29, R365, R491).
[DEDUCED: log entry 71] -/
def State.departPolicy (s : State) (n e d : Nat) (g : Cfg) (l due : Nat) : State :=
  let policy := s.nat 0x1002 (if s.chanMode n = .hold then 1 else 2)
  let au := ceilDiv ((s.ch n).slateAu.getD 0) 8
  let o : RowOut := { row := d, epoch := e, k := (s.ch n).media e,
                      withheld := !s.policySends || decide ((s.ch n).expected e < s.clk.lockedAt),
                      nulls := policy == 1, policy := true, opens := d == 0, ends := d == 0, key := true, due := due,
                      pieces := if policy = 2 ∧ d = 0 then [⟨[au], true, false⟩] else [] }
  (if policy = 0 then s else s.rowOut n e g l o).nextRow n e d g

/-- The last whole ns in which the first packet of a row may start: half a line after the departure instant (R231). -/
def Cfg.departEnd (g : Cfg) (stamp row l : Nat) : Nat := stamp + (g.ns ((g.departs row l).add (Frac.mk' 1 2))).floor.toNat
/-- Whether the output policy stands for the picture whose rows a channel sends (R29, R37). -/
def Chan.byPolicy (c : Chan) : Bool := match c.policy with | some p => decide (p ≤ c.depE) | none => false
/-- The L by which a channel's rows leave (R238). -/
def State.departL (s : State) (n : Nat) : Nat :=
  if (s.ch n).byPolicy && s.lInForce n == 0 then (s.cfgAt n (s.ch n).depE).l else s.lInForce n
/-- The first and the last whole ns in which a channel's next departure row may start (R10, R13, R231); none where it has
none. -/
def State.nextRowTime (s : State) (n : Nat) : Option (Nat × Nat) :=
  let c := s.ch n
  let g := s.cfgAt n c.depE
  let l := s.departL n
  if g.drows ≤ c.depRow ∨ s.chanMode n = .decode then none
  else (if c.byPolicy then some (c.expected c.depE) else tget c.stamps c.depE).map (fun t =>
    (t + (g.ns (g.departs c.depRow l)).ceil.toNat, g.departEnd t c.depRow l))
/-- The NET ports by which a channel's flows leave (R233). -/
def State.portsOf (s : State) (n : Nat) : List Nat :=
  ((flowsOf s.od n).filter (fun f => !onRing s.od f)).flatMap (fun f =>
    s.flNat f 0 5 :: (if s.flag (flI f 0) 8 then [s.flNat f 0 9] else []))
/-- Whether no channel of a lower number that shares a port has a row due at the same instant still to start (R233). -/
def State.rowTurn (s : State) (n due : Nat) : Bool :=
  (List.range n).all (fun k =>
    match s.nextRowTime k with
    | some t => !(t.1 == due && decide (s.now ≤ t.2) && (s.portsOf k).any (fun p => (s.portsOf n).contains p))
    | none => true)
/-- DEPARTURE_ROW (R10, R13, R231, R233): departure row `row` of the channel's picture whose rows are leaving, at its instant,
never before it and no later than half a line after it, rows that fall due together in ascending channel number. A command
outside that time or turn has no effect. [DESIGN CHOICE: log entry 110] -/
def execDepartureRow (chan row : Nat) (s : State) : Host.Outcome State Fault Refusal :=
  if 128 ≤ chan then .fault .noSuchUnit
  else
    let c := s.ch chan
    let e := c.depE
    match s.nextRowTime chan with
    | none => .next s
    | some t =>
      if row ≠ c.depRow ∨ s.now < t.1 ∨ t.2 < s.now ∨ !s.rowTurn chan t.1 then .next s
      else
        let g := s.cfgAt chan e
        let l := s.departL chan
        let s0 := if row = 0 then (flowsOf (s.odAt chan e) chan).foldl (fun t f => t.snoop 1 f e true) s else s
        .next (if c.byPolicy then s0.departPolicy chan e row g l t.1 else s0.departCoded chan e row g l t.1)

/-- DEPARTURE_UNIT_RELEASE (R262, R273): the last bit of a unit leaves; its stall is freed, and the next unit of the same
flow may be released. -/
def execDepartureUnitRelease (stall : Nat) (s : State) : Host.Outcome State Fault Refusal :=
  if 49152 ≤ stall then .fault .noSuchUnit
  else match s.stall stall with
    | none => .next s
    | some x =>
      let key := fun (y : Stall) => (y.epoch * 65536 + y.row) * 64 + y.col
      let mine := fun (y : Stall) => y.kind == 5 && y.flow == x.flow && y.chan == x.chan
      if x.kind ≠ 5 ∨ x.state ≠ 4 ∨ s.now < x.depart then .next s
      else
        let s1 := (s.freeStall stall).perfAdd 0x30 x.chan 1
        let rest := s1.mews.stalls.filter (fun kv => mine kv.2)
        let next := rest.foldl (fun (a : Option (Nat × Stall)) kv =>
          match a with
          | none => some kv
          | some b => if key kv.2 < key b.2 then some kv else a) none
        match next with
        | none => .next s1
        | some (k, y) => .next (s1.setStall k { y with opmask := setBit y.opmask 1,
                                                       state := if bit y.opmask 0 then 4 else y.state })

/-! Seams and reference tiles (R178, R184, R199, R200, R459, R460) -/

/-- The reference tiles of CTU row r of a picture that cover luma columns x0 to x1 − 1 of those this device codes, by plane and in
raster order, each at the place of its granules when raw. [DEDUCED: log entry 101] -/
def Chan.rowTiles (c : Chan) (g : Cfg) (own : Nat × Nat) (e r x0 x1 : Nat) : List (Nat × List Byte) :=
  (List.range 3).flatMap (fun p =>
    let d := g.planeDiv p
    let tw := ceilDiv (g.cw / d.1) 32
    let ys := upFrom (r * g.ctu / d.2 / 8) (ceilDiv (min g.chh ((r + 1) * g.ctu) / d.2) 8)
    let xs := upFrom (x0 / d.1 / 32) (ceilDiv (x1 / d.1) 32)
    ys.flatMap (fun ty => xs.map (fun tx =>
      encodeTile g.odepth ((ty * tw + tx) * g.odepth) ((List.range 256).map (fun (k : Nat) =>
        c.reconAt g own e p (fun _ _ _ => 0) ((32 * tx + k % 32 : Nat) : Int) ((8 * ty + k / 32 : Nat) : Int))))))

/-- The luma columns of the coded picture that this device codes. -/
def Cfg.codedCols (g : Cfg) (own : Nat × Nat) : Nat × Nat := (min g.cw (g.tileX own.1 * g.ctu), min g.cw (g.tileX own.2 * g.ctu))
/-- The tiles of CTU row r written to DRAM (R178, R184). -/
def Chan.writeTiles (c : Chan) (g : Cfg) (own : Nat × Nat) (e r : Nat) : Chan :=
  let cols := g.codedCols own
  { c with tiles := tset c.tiles (rowKey e r) (c.rowTiles g own e r cols.1 cols.2) }

/-- The finished samples of this device's side of a stripe edge, as the member to the left sent them, in place of its own (R460).
[DEDUCED: log entry 86] -/
def Chan.patchEdge (c : Chan) (g : Cfg) (e r i : Nat) (sent : List Byte) : Chan :=
  let planes := (tgetD c.recon (bandKey e r i) []).zipIdx.map (fun lp => lp.1.zipIdx.map (fun ly => ly.1.zipIdx.map (fun vx =>
    if vx.2 < 16 / (g.planeDiv lp.2).1 then
      Config.farSample sent lp.2 ((g.tileX i * g.ctu / (g.planeDiv lp.2).1 + vx.2 : Nat) : Int)
        ((r * g.ctu / (g.planeDiv lp.2).2 + ly.2 : Nat) : Int)
    else vx.1)))
  { c with recon := tset c.recon (bandKey e r i) planes }

/-- The SEAM data of a row that some neighbours have sent: unfiltered columns (0) or finished samples (1). -/
def State.seamData (s : State) (n e r kind : Nat) (ks : List Nat) : List (List Byte) :=
  ks.filterMap (fun k => tget (tgetD s.cluster.spans n {}).seams (rowKey e r * 32 + k * 2 + kind))

/-- The seams of CTU row r finished (R199, R460): the bands of the row and of the one above it, and the far side of the stripe edge
to the right. -/
def State.finishSeams (s : State) (n e r : Nat) : List Planes × State :=
  let g := s.cfgAt n e
  let c := s.ch n
  let own := s.ownTilesAt n e
  let nb := s.neighbours n
  let is := upFrom own.1 own.2
  let row := fun (k : Nat) => is.map (fun i => tgetD c.recon (bandKey e k i) [])
  let out := Config.seam (channelSettings (s.odAt n e) n) (s.seamData n e r 0 nb.2) (if r = 0 then [] else row (r - 1)) (row r)
  let put := fun (t : Tab Planes) (k : Nat) (l : List Planes) => (is.zip l).foldl (fun t ib => tset t (bandKey e k ib.1) ib.2) t
  let c1 := { c with recon := put (if r = 0 then c.recon else put c.recon (r - 1) out.1) r out.2, seams := rowKey e r :: c.seams }
  let c2 := (s.seamData n e r 1 nb.1).foldl (fun d b => d.patchEdge g e r own.1 b) c1
  let c3 := if r = 0 then c2 else c2.writeTiles g own e (r - 1)
  (out.2.drop is.length, s.setCh n (c3.writeTiles g own e r))

/-- Numbers of a message from planes of samples. -/
def planeData (l : List Planes) : List Nat := l.flatMap (fun p => p.flatMap (fun q => q.flatMap id))
/-- Numbers of a message from reference tiles: header and payload of each. -/
def tileData (l : List (Nat × List Byte)) : List Nat := l.flatMap (fun t => (leBytes 4 t.1 ++ t.2).map BitVec.toNat)

/-- BORDER of CTU row r to the neighbours (R459): the tiles within 1,056 luma columns of the shared edge. -/
def State.sendBorders (s : State) (n e r : Nat) : State :=
  let g := s.cfgAt n e
  let own := s.ownTilesAt n e
  let cols := g.codedCols own
  let nb := s.neighbours n
  let data := fun (a b : Nat) => [n, e, r] ++ tileData ((s.ch n).rowTiles g own e r a b)
  (s.sayAll nb.1 0x34 (data cols.1 (min cols.2 (cols.1 + 1056)))).sayAll nb.2 0x34 (data (max cols.1 (cols.2 - 1056)) cols.2)
/-- PYRAMID of a picture to the neighbours (R459): the two source pyramids of those columns. -/
def State.sendPyramids (s : State) (n e : Nat) : State :=
  let c := s.ch n
  let nb := s.neighbours n
  let lines := fun (t : Tab (List Nat)) (f : List Nat → List Nat) => (t.filter (fun kv => kv.1 / 65536 == e)).flatMap (fun kv => f kv.2)
  let data := fun (f : Nat → List Nat → List Nat) => [n, e] ++ lines c.half (f 528) ++ lines c.quarter (f 264)
  (s.sayAll nb.1 0x35 (data (fun k l => l.take k))).sayAll nb.2 0x35 (data (fun k l => l.drop (l.length - k)))

/-- The suffix that the last departure row of a picture held back leaves (R200). -/
def State.sendTail (s : State) (n e : Nat) : State :=
  let c := s.ch n
  match tget c.tails e with
  | none => s
  | some x =>
    let g := s.cfgAt n e
    let kind := tgetD c.kinds e 1
    (s.setCh n { c with tails := tdel c.tails e }).tailOut n e g (s.lInForce n)
      { row := g.drows - 1, epoch := e, k := c.media e, pieces := [⟨x.1, x.2, false⟩], ends := true,
        key := g.access (bit kind 0) (kind / 2), due := s.now }

/-- SEAM_COACH_COMPLETE (R178, R184, R199, R200, R459, R460): the seams of a CTU row are finished and its tiles written; its stall
and its Pavilion are freed, and after the last row a picture hash that waited leaves. -/
def execSeamCoachComplete (stall : Nat) (s : State) : Host.Outcome State Fault Refusal :=
  if 49152 ≤ stall then .fault .noSuchUnit
  else match s.stall stall with
    | none => .next s
    | some x =>
      if x.kind = 2 ∧ x.state = 4 then
        let s1 := (s.freeStall stall).setPav x.pav { s.pav x.pav with busy := none }
        let r := s1.finishSeams x.chan x.epoch x.row
        let s3 := (r.2.sayAll (r.2.neighbours x.chan).2 0x33 ([x.chan, x.epoch, x.row, 1] ++ planeData r.1)).sendBorders x.chan x.epoch
          x.row
        let last := decide ((s.cfgAt x.chan x.epoch).rows ≤ x.row + 1)
        .next (if last then (s3.sendPyramids x.chan x.epoch).sendTail x.chan x.epoch else s3)
      else .next s

/-! Return video (R316, R317, R417–R419, R426) -/

/-- The RATE code of a frame rate (R417); 0 for a rate it has no code for. -/
def rateCode (num den : Nat) : Nat := (List.range 11).find? (fun k =>
  let r := rateCodes.getD k (0, 1); r.1 * den == r.2 * num) |>.getD 0

/-- A line's header with LANE set to `lane` (R417). -/
def returnHead (g : Cfg) (lanes line flags seq lane : Nat) (tc : List Byte) : List Byte :=
  leBytes 1 1 ++ leBytes 1 flags ++ leBytes 2 line ++ leBytes 2 g.ow ++ leBytes 2 g.oh ++
    leBytes 1 (rateCode g.num g.den) ++ g.ofmt.flatMap (leBytes 1) ++ leBytes 1 lane ++ leBytes 1 lanes ++ zeros 1 ++
    leBytes 2 0 ++ leBytes 2 seq ++ (if tc = [] then zeros 5 else tc) ++ zeros 5

/-- The samples of a line of three planes in the order of R418. -/
def lineOrder (sub y : Nat) (planes : List (List Nat)) : List Nat :=
  let p := fun (c x : Nat) => (planes.getD c []).getD x 0
  let w := (planes.headD []).length
  if sub = 0 then (List.range w).flatMap (fun x => [p 0 x, p 1 x, p 2 x])
  else if sub = 2 ∧ y % 2 = 1 then planes.headD []
  else (List.range (ceilDiv w 2)).flatMap (fun k =>
    [p 1 k, p 0 (2 * k), p 2 k] ++ (if 2 * k + 1 < w then [p 0 (2 * k + 1)] else []))

/-- The words of a padded body that go to lane index `j` of `n` (R419). -/
def laneShare (body : List Byte) (j n : Nat) : List Byte :=
  (List.range (body.length / (4 * n))).flatMap (fun k => (body.drop (4 * (k * n + j))).take 4)

/-- The segments of one return-video line (R418, R419, R426). -/
def returnSegments (g : Cfg) (b : Bond) (line flags seq : Nat) (tc : List Byte) (samples : List Nat) : List Segment :=
  let n := b.data.length
  let head := fun lane => returnHead g n line flags seq lane tc
  let plain := pack g.odepth samples
  let body := plain ++ leBytes 4 (crc32c (head 0 ++ plain))
  let padded := body ++ zeros (ceilDiv body.length (4 * n) * (4 * n) - body.length)
  let shares := (List.range n).map (fun j => laneShare padded j n)
  let seg := fun (lane : Nat) (h share : List Byte) =>
    ({ lane := lane, lag := 0, violations := 0, disparity := 0, aborted := false,
       bytes := h ++ share ++ leBytes 4 (crc32c (h ++ share)) } : Segment)
  let data := (b.data.zip (shares.zip (List.range n))).map (fun t => seg t.1 (head t.2.2) t.2.1)
  match b.parity with
  | none => data
  | some k =>
    let x := shares.foldl (fun (a : List Byte) v => if a = [] then v else List.zipWith (fun p q => p ^^^ q) a v) []
    data ++ [seg k (head 128) x]

/-- RETURN_VIDEO_LINE (R316, R317, R426): in DECODE, output line `line` of the picture that leaves on the return-video
lanes starts at the boundary plus (line + 5) lines. -/
def execReturnVideoLine (chan line : Nat) (s : State) : Host.Outcome State Fault Refusal :=
  if 128 ≤ chan then .fault .noSuchUnit
  else
    let c := s.ch chan
    let e := c.retE
    match tget c.stamps e with
    | none => .next s
    | some stamp =>
      let g := s.cfgAt chan e
      let b := bondOf (s.nat (chI chan 10) 4) (s.flag (chI chan 10) 5)
      let due := stamp + (g.ns (Frac.ofInt (line + 5 : Nat))).ceil.toNat
      if s.chanMode chan ≠ .decode ∨ b.data.isEmpty ∨ line ≠ c.retLine ∨ g.oh ≤ line ∨ s.now < due then .next s
      else
        let s1 := if e = c.epoch then s.fillMissing chan (g.lastInput line + 1) else s
        let c1 := s1.ch chan
        let lines := if e = c1.epoch then c1.lines else c1.prev
        let planes := pergolaLine (s1.odAt chan e) s1.dramMem g (s1.lineWindowAt chan e) (0, g.ow) chan lines line
        let m := tgetD c1.marks e 0
        let tc := if line = 0 then tgetD c1.timecodes e [] else []
        let flags := b2n (line + 1 == g.oh) + (if bit m 3 then 2 else 0) + (if bit m 2 then 4 else 0) +
          (if b.parity.isSome then 8 else 0) + (if tc = [] then 0 else 16)
        let segs := returnSegments g b line flags (e % 65536) tc (lineOrder g.osub line planes)
        let done := decide (g.oh ≤ line + 1)
        let s2 := s1.setCh chan { c1 with retE := if done then e + 1 else e, retLine := if done then 0 else line + 1 }
        .next { s2 with ret := tset s2.ret chan (segs.filter (fun x => (s2.laneAt x.lane).tx == 2)) }

end Sys2Proof.Machine
end

