-- ==== Sys2Proof/Machine/Audio.lean ====
section
/-! DEFINITION. Audio.lean: serial audio ports, groups, fades, outputs, access units and SMPTE ST 2110-30 packets
(R366, R367, R381–R405). -/

namespace Sys2Proof.Machine

/-! Settings (R381, R384, R388, R397) -/

/-- The format word of port k (R381). -/
def apWord (od : Tab Val) (k : Nat) : Nat := odNat od (0x1B00 + k) 1
/-- Sample rate code to Hz (R381); 0 for a code that is refused. -/
def rateHz (code : Nat) : Nat := [32000, 44100, 48000, 96000, 192000].getD code 0
/-- fs of port k in Hz. -/
def apFs (od : Tab Val) (k : Nat) : Nat := rateHz (apWord od k / 536870912)
/-- SLOTS of port k. -/
def apSlots (od : Tab Val) (k : Nat) : Nat := apWord od k / 8388608 % 32
/-- WORD of port k in bits. -/
def apBits (od : Tab Val) (k : Nat) : Nat := [16, 20, 24, 32].getD (apWord od k / 2097152 % 4) 32
/-- F of R388. -/
def fadeLen (fs : Nat) : Nat := (2 * fs + 500) / 1000
/-- R of R388 by clock mode. -/
def readLag (mode : Nat) : Nat := if mode = 2 then 16 else 2
/-- Clock mode of port k (R384): 0 MASTER, 1 LOCKED, 2 FOLLOW. -/
def apMode (od : Tab Val) (k : Nat) : Nat := odNat od (0x1B00 + k) 3
/-- Port k is an output. -/
def apOut (od : Tab Val) (k : Nat) : Bool := odFlag od (0x1B00 + k) 2
/-- Group of port k. -/
def apGroup (od : Tab Val) (k : Nat) : Nat := odNat od (0x1B00 + k) 4
/-- `n` sample periods in ns. -/
def samples (n fs : Nat) : Frac := Frac.mk' (n * 1000000000) fs
/-- The port delay Dp in ns (R388). [DEDUCED: log entry 82] -/
def apDelay (od : Tab Val) (k : Nat) : Frac :=
  let fs := apFs od k
  samples (readLag (apMode od k) + fadeLen fs + 4) fs

/-- Port k's running state. -/
def State.ap (s : State) (k : Nat) : AudioPort := tgetD s.audio.ports k {}
/-- The machine with port k's running state changed. -/
def State.setAp (s : State) (k : Nat) (p : AudioPort) : State :=
  { s with audio := { s.audio with ports := tset s.audio.ports k p } }
/-- Audio output o. -/
def State.ao (s : State) (o : Nat) : AudioOut := tgetD s.audio.outs o {}
/-- The machine with audio output o changed. -/
def State.setAo (s : State) (o : Nat) (x : AudioOut) : State :=
  { s with audio := { s.audio with outs := tset s.audio.outs o x } }
/-- A counter of OD 0x1B10 of port k (R404). -/
def State.apBump (s : State) (k j n : Nat) : State := s.bumpBy (0x1B10 + k) j (0x1B10 + k) 0x0B n
/-- An event of class 0x0C (R403). -/
def State.audioEvent (s : State) (what port sample : Nat) : State := s.ev 12 what port (sample : Nat)

/-- G of the group of port k, while the group is armed or runs (R389). -/
def State.portStart (s : State) (k : Nat) : Option Nat :=
  if apSlots s.od k = 0 then none else tget s.audio.start (apGroup s.od k)
/-- Cn in ns: the nominal instant of the edge of frame n (R384). -/
def State.frameAt (s : State) (k g n : Nat) : Frac :=
  (((Frac.ofInt g).sub (apDelay s.od k)).add (samples n (apFs s.od k))).add (Frac.ofInt (s.num (0x1B00 + k) 5))
/-- The index whose window holds a frame edge (R385): within a quarter of a sample period of Cn. -/
def State.frameIndex (s : State) (k g time : Nat) : Option Nat :=
  let x := (Frac.ofInt time).sub (s.frameAt k g 0)
  let per := samples 1 (apFs s.od k)
  let n := (x.div per).round
  let off := x.sub (per.mul (Frac.ofInt n))
  let lim := per.div (Frac.ofInt 4)
  if 0 ≤ n ∧ off.le lim ∧ (Frac.ofInt 0).le (off.add lim) then some n.toNat else none
/-- Capture is discarded (R392). -/
def State.capturing (s : State) : Bool := s.mode != .hold && s.mode != .safe

/-- A sample with only the received bits kept (R382, R383). -/
def wordOf (bits_ : Nat) (v : Int) : Int := v / (2 ^ (32 - bits_) : Nat) * (2 ^ (32 - bits_) : Nat)
/-- A frame as a port holds it: SLOTS samples. -/
def frameOf (od : Tab Val) (k : Nat) (l : List Int) : List Int :=
  (List.range (apSlots od k)).map (fun j => wordOf (apBits od k) (l.getD j 0))

/-! The fade (R394) -/

/-- π in 2^−60. [DEDUCED: log entry 82] -/
def pi60 : Int := 3622009729038561421
/-- The cosine of x in 2^−60, by its series. [DEDUCED: log entry 82] -/
def cos60 (x : Int) : Int :=
  let one : Int := 1152921504606846976
  let x2 := x * x / one
  ((List.range 16).foldl (fun (a : Int × Int) k =>
    let t := (-a.1 * x2) / one / (((2 * k + 1) * (2 * k + 2) : Nat) : Int)
    (t, a.2 + t)) (one, one)).2
/-- g_i of R394 for a fade of `f` samples. [DEDUCED: log entry 82] -/
def fadeGain (f i : Nat) : Nat :=
  let one : Int := 1152921504606846976
  ((32768 * (one + cos60 (pi60 * ((i : Int) + 1) / ((f : Int) + 1))) + one) / (2 * one)).toNat
/-- A sample times a gain (R394). -/
def gained (g : Nat) (v : Int) : Int := if g = 32768 then v else (v * g + 16384) / 32768

/-- The fade line after an underrun whose first missing sample stands `held` places before its end (R394): the F samples
before it fade from the gain reached, and every later one is silence. -/
def fadeLine (line : List FadeSample) (f held : Nat) : List FadeSample :=
  let n := line.length
  let a := n - held - f
  let base := if a = 0 then 32768 else ((line.drop (a - 1)).headD ⟨[], 32768, 1⟩).gain
  (line.zip (List.range n)).map (fun xk =>
    if xk.2 < a then xk.1
    else if xk.2 + held < n then
      { xk.1 with gain := (base * fadeGain f (xk.2 + f + held - n) + 16384) / 32768, kind := 1 }
    else { xk.1 with frame := xk.1.frame.map (fun _ => 0), gain := 32768, kind := 3 })

/-- An underrun found while sample n is read, `held` samples having been repeated before it (R393–R395). -/
def State.underrun (s : State) (k n held : Nat) : State :=
  let p := s.ap k
  let f := fadeLen (apFs s.od k)
  let s1 := s.setAp k { p with line := fadeLine p.line f held, silent := true, good := 0, ramp := none, ramped := false }
  ((s1.apBump k 8 1).apBump k 7 held).audioEvent 1 k (n - held)

/-! Capture (R385, R386, R393) -/

/-- The frame rate measured from the last 64 edges, mHz (R395). [DEDUCED: log entry 82] -/
def measured (edges : List Nat) : Nat :=
  match edges, edges.getLast? with
  | a :: _, some b => if b < a then ((edges.length - 1) * 1000000000000) / (a - b) else 0
  | _, _ => 0

/-- OD 0x1B10.02 (R395): 0 when no edge has come for 1 ms. -/
def State.frameRate (s : State) (k : Nat) : Nat :=
  match (s.ap k).edges with
  | a :: _ => if a + 1000000 ≤ s.now then 0 else measured (s.ap k).edges
  | [] => 0

/-- A frame of a LOCKED port (R385, R394). -/
def State.lockedFrame (s : State) (k g : Nat) (l : List Int) (good : Bool) (time : Nat) : State :=
  let p := s.ap k
  let edges := (time :: p.edges).take 64
  let ok := match s.frameIndex k g time with
    | some n => if good ∧ p.read ≤ n ∧ (tget p.frames n).isNone then some n else none
    | none => none
  match ok with
  | some n =>
    s.setAp k { p with frames := tset p.frames n (frameOf s.od k l), edges := edges,
                       good := if p.silent then p.good + 1 else 0, frame := n + 1 }
  | none =>
    (s.setAp k { p with edges := edges, good := 0 }).apBump k 5 1

/-- A frame of a FOLLOW port, from G − Dp on (R386, R389, R393). -/
def State.followFrame (s : State) (k g : Nat) (l : List Int) (time : Nat) : State :=
  let p := s.ap k
  if (Frac.ofInt time).lt ((Frac.ofInt g).sub (apDelay s.od k)) then s else
  let edges := (time :: p.edges).take 64
  if 32 ≤ p.fifo.length then (s.setAp k { p with edges := edges }).underrun k p.read 0
  else
    let q := { p with fifo := p.fifo ++ [frameOf s.od k l], edges := edges,
                      centring := p.centring && decide (p.fifo.length + 1 < 16) }
    (s.setAp k q).put (0x1B10 + k) 3 q.fifo.length

/-- The audio settings that armed sets bring with the groups they enable (R389): a group captures from G − Dp, before its
set fires, with these settings. -/
def State.armedAudio (s : State) : Tab Val :=
  s.armedSets.flatMap (fun k =>
    let x := s.set k
    if (List.range 8).any (fun g => x.staged (0x1B20 + g) 1 == some (.num 1)) then
      x.writes.filter (fun kv => decide (0x1B0000 ≤ kv.1) && decide (kv.1 < 0x1C0000))
    else [])

/-- What a command does at an audio port, with the settings that armed groups bring (R389); the settings in force stay as
they were. -/
def State.onArmed (s : State) (f : State → Host.Outcome State Fault Refusal) : Host.Outcome State Fault Refusal :=
  let w := s.armedAudio
  if w.isEmpty then f s
  else match f { s with od := odApply s.od w } with
    | .next t => .next { t with od := w.foldl (fun m kv =>
        odPut m (kv.1 / 256) (kv.1 % 256) (odGet s.od (kv.1 / 256) (kv.1 % 256))) t.od }
    | o => o

/-- AUDIO_FRAME_RECEIVED (R385, R386): a frame on the pins of a slave input port, the time of its edge, and whether it
holds exactly SLOTS × 32 bit clocks. [DEDUCED: log entry 14] -/
def execAudioFrameReceived (port : Nat) (samples : List Int) (good : Bool) (time : Nat) (s0 : State) :
    Host.Outcome State Fault Refusal :=
  s0.onArmed (fun (s : State) =>
    if 16 ≤ port then .fault .noSuchUnit
    else match s.portStart port with
      | none => .next s
      | some g =>
        if apOut s.od port || apMode s.od port == 0 || !s.capturing then .next s
        else if apMode s.od port = 2 then
          if good then .next (s.followFrame port g samples time) else .next (s.apBump port 5 1)
        else .next (s.lockedFrame port g samples good time))

/-- AUDIO_MASTER_FRAME (R384, R389): a master input port captures its next frame at Cn. -/
def execAudioMasterFrame (port : Nat) (samples : List Int) (s0 : State) : Host.Outcome State Fault Refusal :=
  s0.onArmed (fun (s : State) =>
    if 16 ≤ port then .fault .noSuchUnit
    else match s.portStart port with
      | none => .next s
      | some g =>
        let p := s.ap port
        if apOut s.od port || apMode s.od port != 0 || (Frac.ofInt s.now).lt (s.frameAt port g p.frame) then .next s
        else
          let frames := if s.capturing then tset p.frames p.frame (frameOf s.od port samples) else p.frames
          .next (s.setAp port { p with frames := frames, frame := p.frame + 1 }))

/-! Reading and the sample stream (R388, R393–R395) -/

/-- Whether the read of sample n is due (R386, R388): Cn + 2 ÷ fs on a LOCKED or master port; a FOLLOW port reads by its own
divider, once 16 frame periods of capture have passed. [DEDUCED: log entry 82] -/
def State.readDue (s : State) (k g n : Nat) : Bool :=
  let lag := fun (m : Nat) => ((s.frameAt k g m).add (samples (readLag (apMode s.od k)) (apFs s.od k))).le (Frac.ofInt s.now)
  if apMode s.od k = 2 then n != 0 || lag 0 else lag n

/-- Silence that begins to end at index n (R392, R394). -/
def AudioPort.rampFrom (p : AudioPort) (n : Nat) : AudioPort :=
  { p with silent := false, good := 0, ramp := some n, ramped := false, missing := 0 }

/-- A sample put into the fade line at index n, the oldest one leaving into the stream (R388). -/
def State.pushSample (s : State) (k n : Nat) (x : FadeSample) : State :=
  let p := s.ap k
  let f := fadeLen (apFs s.od k)
  let line := p.line ++ [x]
  if line.length ≤ f + 4 then s.setAp k { p with line := line }
  else
    let y := line.headD x
    let m := n - (f + 4)
    let out := y.frame.map (gained y.gain)
    let endsRamp := p.ramp == some (m + 1 - f) && decide (f ≤ m + 1)
    let q := { p with line := line.drop 1, stream := (tset p.stream m out).filter (fun kv => decide (m ≤ kv.1 + 8400)),
                      ramped := p.ramped || endsRamp }
    (s.setAp k q).put (0x1B10 + k) 1 (if endsRamp then 1 else y.kind)

/-- The sample of index n as it enters the fade line (R393, R394): `frame` is what was read. -/
def State.sampleIn (s : State) (k n : Nat) (frame : List Int) : State :=
  let p := s.ap k
  let f := fadeLen (apFs s.od k)
  let zero := (List.range (apSlots s.od k)).map (fun _ => (0 : Int))
  let x : FadeSample :=
    if p.silent then ⟨zero, 32768, 3⟩
    else match p.ramp with
      | none => ⟨frame, 32768, 1⟩
      | some r =>
        if n < r then ⟨zero, 32768, 3⟩
        else if n < r + f then ⟨frame, fadeGain f (f - 1 - (n - r)), 2⟩
        else ⟨frame, 32768, 1⟩
  let s1 := if x.kind = 3 then s.apBump k 7 1 else s
  s1.pushSample k n x

/-- Sample n of a port read (R393–R395). -/
def State.readSample (s : State) (k : Nat) : State :=
  let p := s.ap k
  let n := p.read
  let follow := apMode s.od k == 2
  let s0 := s.put (0x1B10 + k) 9 n
  if !s.capturing then
    let zero := (List.range (apSlots s.od k)).map (fun _ => (0 : Int))
    (s0.setAp k { p with read := n + 1, muted := true, missing := 0, frames := tdel p.frames n }).pushSample k n
      ⟨zero, 32768, 3⟩
  else
    let p := if p.muted then { p.rampFrom n with muted := false, centring := follow } else p
    let got : Option (List Int) := if follow then (if p.centring then none else p.fifo.head?) else tget p.frames n
    match got with
    | some v =>
      let q := { p with read := n + 1, frames := tdel p.frames n, last := v, missing := 0,
                        fifo := if follow then p.fifo.drop 1 else p.fifo }
      let s1 := (s0.setAp k q).sampleIn k n v
      if follow then s1.put (0x1B10 + k) 3 q.fifo.length else s1
    | none =>
      let miss := p.missing + 1
      let q := { p with read := n + 1, missing := miss }
      let s1 := s0.setAp k q
      if p.silent || (follow && p.centring) then s1.sampleIn k n p.last
      else if follow then ((s1.setAp k { q with centring := true }).underrun k n 0).sampleIn k n p.last
      else if miss ≤ 2 then (s1.apBump k 6 1).sampleIn k n p.last
      else (s1.underrun k n 2).sampleIn k n p.last

/-- AUDIO_SAMPLE_READ (R388, R393): an input port reads its next sample. -/
def execAudioSampleRead (port : Nat) (s0 : State) : Host.Outcome State Fault Refusal :=
  s0.onArmed (fun (s : State) =>
    if 16 ≤ port then .fault .noSuchUnit
    else match s.portStart port with
      | none => .next s
      | some g =>
        if apOut s.od port || !s.readDue port g (s.ap port).read then .next s else .next (s.readSample port))

/-- AUDIO_SILENCE_END (R394): 64 consecutive good frames have come on a LOCKED port, or a FOLLOW port's FIFO has been
re-centred to 16 frames; the next sample begins the ramp. -/
def execAudioSilenceEnd (port : Nat) (s : State) : Host.Outcome State Fault Refusal :=
  if 16 ≤ port then .fault .noSuchUnit
  else
    let p := s.ap port
    let follow := apMode s.od port == 2
    let ready := if follow then decide (16 ≤ p.fifo.length) else if apMode s.od port = 0 then true else decide (64 ≤ p.good)
    if p.silent && ready then
      let n := if follow then p.read else max p.read p.frame
      let q := p.rampFrom n
      let q := if follow then { q with fifo := p.fifo.drop (p.fifo.length - 16), centring := false } else q
      .next ((s.setAp port q).audioEvent 2 port n)
    else .next s

/-- AUDIO_RAMP_COMPLETE (R394, R403): the last sample of a ramp has left the fade line. -/
def execAudioRampComplete (port : Nat) (s : State) : Host.Outcome State Fault Refusal :=
  if 16 ≤ port then .fault .noSuchUnit
  else
    let p := s.ap port
    match p.ramp with
    | none => .next s
    | some r =>
      if p.ramped then
        .next ((s.setAp port { p with ramp := none, ramped := false }).audioEvent 3 port
          (r + fadeLen (apFs s.od port) - 1))
      else .next s

/-- FOLLOW_LOOP_UPDATE (R386): every 1 ms the loop steers a FOLLOW port's divider; the steering is a free value within
±1,000 ppm. [DESIGN CHOICE: log entry 81] -/
def execFollowLoopUpdate (port : Nat) (s0 : State) : Host.Outcome State Fault Refusal :=
  s0.onArmed (fun (s : State) =>
    if 16 ≤ port then .fault .noSuchUnit
    else if apMode s.od port ≠ 2 ∨ (s.portStart port).isNone then .next s
    else
      let d := s.draw
      let ppb : Int := (d.1 % 2000001 : Nat) - 1000000
      let s1 := d.2.put (0x1B10 + port) 4 ppb
      .next (if ppb = 1000000 ∨ ppb = -1000000 then s1.audioEvent 6 port (s.ap port).read else s1))

/-! Output ports (R396) -/

/-- The frame an output port sends at frame edge n (R396): stream sample n − d of each slot's source. -/
def State.outFrame (s : State) (k n : Nat) : List Int :=
  let map_ := odBytes s.od (0x1B00 + k) 6
  let d := s.nat (0x1B00 + k) 7
  (List.range (apSlots s.od k)).map (fun j =>
    let src := (map_.getD (2 * j) 0).toNat
    let slot := (map_.getD (2 * j + 1) 0).toNat
    if n < d then 0 else wordOf (apBits s.od k) (((tget (s.ap src).stream (n - d)).getD []).getD slot 0))

/-- What the serial audio ports do in a mode (R30): 2 as committed, 1 clocks with data zero, 0 nothing. -/
def Mode.audio (m : Mode) : Nat :=
  match m with
  | .encode => 2 | .transcode => 2 | .decode => 2 | .span => 2 | .standby => 1 | .hold => 1 | .safe => 1 | _ => 0
/-- The frame that an output port sends at frame edge n in the mode (R30, R396). -/
def State.sendFrame (s : State) (k n : Nat) : List Int :=
  if s.mode.audio = 2 then s.outFrame k n else (List.range (apSlots s.od k)).map (fun _ => 0)
/-- The output port of the audio built-in test that runs (R30, R639). -/
def State.testPort (s : State) : Option Nat :=
  match s.mode, s.perf.test with
  | .test, some (0x0A, _, b, _) => some (b.headD 0).toNat
  | _, _ => none
/-- A frame of the test's tone: free values, since the spec gives its pitch alone (R639). [DESIGN CHOICE: log entry 114] -/
def State.testFrame (s : State) (k : Nat) : State :=
  let r := (List.range (apSlots s.od k)).foldl (fun (a : List Int × State) _ =>
    let d := a.2.draw
    (a.1 ++ [wordOf (apBits s.od k) ((d.1 % 4294967296 : Nat) - 2147483648 : Int)], d.2)) ([], s)
  r.2.setAp k { r.2.ap k with sent := r.1 }

/-- AUDIO_OUTPUT_FRAME (R30, R384, R396): an output port's frame edge, at Cn on a master port and at PTP ns `edge` on a LOCKED
one, which sends zeros for an edge outside the window and counts it as bad. In STANDBY, HOLD and SAFE it sends zeros; in TEST
the port that the audio test names sends its tone. -/
def execAudioOutputFrame (port edge : Nat) (s0 : State) : Host.Outcome State Fault Refusal :=
  s0.onArmed (fun (s : State) =>
    if 16 ≤ port then .fault .noSuchUnit
    else if s.testPort = some port then .next (s.testFrame port)
    else match s.portStart port with
      | none => .next s
      | some g =>
        let p := s.ap port
        if !apOut s.od port || s.mode.audio == 0 then .next s
        else if apMode s.od port = 0 then
          if (Frac.ofInt s.now).lt (s.frameAt port g p.frame) then .next s
          else .next ((s.setAp port { p with sent := s.sendFrame port p.frame, frame := p.frame + 1 }).put
            (0x1B10 + port) 9 p.frame)
        else match s.frameIndex port g edge with
          | some n =>
            .next ((s.setAp port { p with sent := s.sendFrame port n, frame := n + 1 }).put (0x1B10 + port) 9 n)
          | none =>
            .next ((s.setAp port { p with sent := (List.range (apSlots s.od port)).map (fun _ => 0) }).apBump port 5 1))

/-! Groups (R389–R391) -/

/-- The ports of a group under a dictionary. -/
def groupPorts (od : Tab Val) (g : Nat) : List Nat :=
  (List.range 16).filter (fun k => apSlots od k != 0 && apGroup od k == g)
/-- The outputs whose source port is in a group and that are enabled, under a dictionary. -/
def groupOuts (od : Tab Val) (g : Nat) : List Nat :=
  (List.range 32).filter (fun o => odFlag od (0x1B40 + o) 1 && apGroup od (odNat od (0x1B40 + o) 2) == g)

/-- A group armed with start time G under the dictionary that starts it (R389): its ports begin at G − Dp with n = 0. -/
def State.armGroup (s : State) (od : Tab Val) (g start : Nat) : State :=
  let a := { s.audio with
    ports := (groupPorts od g).foldl (fun t k => tset t k {}) s.audio.ports
    outs := (groupOuts od g).foldl (fun t o => tset t o {}) s.audio.outs
    start := tset s.audio.start g start }
  ({ s with audio := a }).put (0x1B20 + g) 3 1

/-- The ring flows, or the SMPTE ST 2110-30 flows, of an audio output. -/
def State.outFlows (s : State) (transport o : Nat) : List Nat :=
  (enabledFlows s.od).filter (fun f => s.flNat f 0 4 == transport && s.flNat f 0 3 == 0x20 + o)
/-- A group stopped (R352, R391): its ports and SMPTE ST 2110-30 flows stop, and each of its outputs completes its current access
unit. -/
def State.stopGroup (s : State) (g : Nat) : State :=
  match tget s.audio.start g with
  | none => s
  | some start =>
    let a := { s.audio with
      start := tdel s.audio.start g
      outs := (groupOuts s.od g).foldl (fun t o => tset t o { tgetD t o {} with ending := some start }) s.audio.outs }
    let s0 := ((groupOuts s.od g).flatMap (s.outFlows 3)).foldl State.stopFlow { s with audio := a }
    let s1 := (groupPorts s.od g).foldl (fun t k => t.put (0x1B10 + k) 1 0) s0
    (s1.put (0x1B20 + g) 3 0).audioEvent 5 (0x20 + g) 0

/-- A group's start comes due (R389): it runs, its ports' stream begins at n = 0. -/
def State.runGroup (s : State) (g : Nat) : State :=
  match tget s.audio.start g with
  | none => s
  | some start =>
    if s.nat (0x1B20 + g) 3 ≠ 1 then s
    else
      let s1 := (s.put (0x1B20 + g) 3 2).putVal (0x1B20 + g) 4 (.num start)
      ((groupPorts s.od g).foldl (fun t k => t.put (0x1B10 + k) 1 1) s1).audioEvent 4 (0x20 + g) 0

/-- AUDIO_GROUP_START (R284, R389): the entry of kind 0x08 of a group is due. -/
def execAudioGroupStart (group : Nat) (s : State) : Host.Outcome State Fault Refusal :=
  if 8 ≤ group then .fault .noSuchUnit
  else match tget s.audio.start group with
    | none => .next s
    | some g =>
      if g ≤ s.now then
        .next ((s.ttRemove (fun e => e.kind == 8 && e.target == group && decide (e.due ≤ s.tick))).runGroup group)
      else .next s

/-! Outputs (R397–R401) -/

/-- AU and d of a codec in samples (R397). -/
def codecAu (codec : Nat) : Nat × Nat := [(240, 0), (1024, 2048), (2048, 3072), (960, 312)].getD codec (240, 0)
/-- The bit rate of output o in b/s (R397). -/
def aoRate (od : Tab Val) (o : Nat) : Nat :=
  if odNat od (0x1B40 + o) 5 = 0 then
    let w := odNat od (0x1B40 + o) 7
    apFs od (odNat od (0x1B40 + o) 2) * odNat od (0x1B40 + o) 4 / 2 * (if w = 16 then 40 else if w = 20 then 48 else 56)
  else odNat od (0x1B40 + o) 6
/-- The nominal end of access unit j of output o whose group started at `g`, ns (R399). -/
def aoEnd (od : Tab Val) (o g j : Nat) : Frac :=
  let c := codecAu (odNat od (0x1B40 + o) 5)
  (Frac.ofInt g).add (samples ((j + 1) * c.1 + c.2) (apFs od (odNat od (0x1B40 + o) 2)))
/-- The most bits of a coded access unit (R399): 1.5 × the bit rate × AU ÷ fs. -/
def aoMax (od : Tab Val) (o : Nat) : Nat :=
  let c := codecAu (odNat od (0x1B40 + o) 5)
  let fs := max 1 (apFs od (odNat od (0x1B40 + o) 2))
  3 * aoRate od o * c.1 / (2 * fs)
/-- The bits that 8 access units may hold (R399). -/
def aoEight (od : Tab Val) (o : Nat) : Nat :=
  let c := codecAu (odNat od (0x1B40 + o) 5)
  8 * aoRate od o * c.1 / max 1 (apFs od (odNat od (0x1B40 + o) 2))

/-- Da of output o in ns, and Dv (R400). -/
def State.aoDa (s : State) (o : Nat) : Frac × Frac :=
  let i := 0x1B40 + o
  let k := s.nat i 2
  let g := s.cfg (s.nat i 8)
  let au := codecAu (s.nat i 5)
  let dv := Frac.mk' ((g.h + g.l) * g.den * 1000000000) (g.h * g.num)
  let dmin := (((apDelay s.od k).add (samples (au.1 + au.2) (apFs s.od k))).add (g.ns g.sd)).add (Frac.ofInt 1000000)
  (if dv.lt dmin then dmin else dv, dv)
/-- The PTS of access unit j of output o whose group started at `g`, and its MTS (R400). -/
def State.aoPts (s : State) (o g j : Nat) : Nat :=
  let k := s.nat (0x1B40 + o) 2
  let t := (((Frac.ofInt g).sub (apDelay s.od k)).add (samples (j * (codecAu (s.nat (0x1B40 + o) 5)).1) (apFs s.od k))).add (s.aoDa o).1
  (t.mul (Frac.mk' 90000 1000000000)).floor.toNat % 8589934592
/-- Whether audio flows carry anything (R29, R30): as the channels' media flows, and under HOLD and SAFE with the SLATE policy. -/
def State.audioFlows (s : State) : Bool :=
  match s.mode with
  | .encode => true | .transcode => true | .span => true
  | .hold => s.nat 0x1002 1 == 2
  | .safe => s.nat 0x1002 2 == 2
  | _ => false
/-- The output policy carries the audio flows (R29). -/
def State.audioByPolicy (s : State) : Bool := s.mode == .hold || s.mode == .safe
/-- The delivery-ring flows that carry output o (R350, R379). -/
def State.ringOuts (s : State) (o : Nat) : List Nat := s.outFlows 4 o
/-- An access unit of output o handed to its delivery rings (R372, R373, R399, R400). -/
def State.audioToRings (s : State) (o g j bytes : Nat) : State :=
  let ends := (aoEnd s.od o g j).ceil.toNat
  let c := s.cfg (s.nat (0x1B40 + o) 8)
  let r := if s.audioByPolicy then (s.policySends, s) else s.gateAudio o (2 * j)
  let u : RingUnit := { bytes := bytes, au := j, epochLo := 0, mts := s.aoPts o g j, flags := 3, due := ends,
                        until_ := ends + (c.ns c.sd).floor.toNat }
  if !s.audioFlows || (s.ringOuts o).isEmpty then s
  else (s.ringOuts o).foldl (fun (t : State) f =>
    let t1 := t.generate t.od f 1
    t1.setFl f { t1.fl f with running := true, owed := (t1.fl f).owed ++ (if r.1 then [u] else []) }) r.2

/-- AUDIO_ACCESS_UNIT_CODED (R373, R391, R397, R399): the next access unit of an output is complete, at its nominal end, within
the size that R399 allows, or, for SMPTE ST 302M, of its samples and a 4-byte header; a delivery ring that carries it may be
written from then on. The unit that a stopped group completes is its flows' last. [PRESUMED: log entry 106] -/
def execAudioAccessUnitCoded (output : Nat) (data : List Byte) (s : State) : Host.Outcome State Fault Refusal :=
  if 32 ≤ output then .fault .noSuchUnit
  else
    let x := s.ao output
    let port := s.nat (0x1B40 + output) 2
    let coded := s.nat (0x1B40 + output) 5 != 0
    let bits_ := 8 * data.length
    let pcm := (codecAu 0).1 * aoRate s.od output / (8 * max 1 (apFs s.od port)) + 4
    let fits := if !coded then decide (data.length = pcm) else (decide (bits_ ≤ aoMax s.od output) &&
      decide (bits_ + (x.recent.take 7).sum ≤ aoEight s.od output))
    let start := match tget s.audio.start (apGroup s.od port) with | some g => some g | none => x.ending
    match start with
    | none => .next s
    | some g =>
      let ends := aoEnd s.od output g x.next
      if !s.flag (0x1B40 + output) 1 || s.nat (0x1B40 + output) 4 == 0 || !fits ||
          (x.ending.isNone && (Frac.ofInt s.now).lt ends) then .next s
      else
        let y := { x with next := x.next + 1, recent := (bits_ :: x.recent).take 8, ending := none,
                          ready := (x.ready ++ [(ends.floor.toNat, data.length, x.next)]).drop (x.ready.length - 63) }
        let s1 := (s.setAo output y).bump (0x1B40 + output) 0x0C (0x1B40 + output) 0x0D
        let s2 := (s1.sendDigest x.next (0x80 + output) 2 0 0 0 data.length).audioToRings output g x.next data.length
        .next (if x.ending.isSome then (s2.ringOuts output).foldl State.stopFlow s2 else s2)

/-! SMPTE ST 2110-30 (R366, R367) -/

/-- Samples per packet of a flow (R366): 1 ms or 125 µs. -/
def packetSamples (fs time : Nat) : Nat := if time = 0 then fs / 1000 else fs / 8000

/-- ST_2110_30_PACKET (R29, R30, R367): the next packet of a flow leaves, its samples those of its audio output. The sample count
goes on in every mode. -/
def execSt211030Packet (flow : Nat) (s : State) : Host.Outcome State Fault Refusal :=
  if 1024 ≤ flow then .fault .noSuchUnit
  else
    let content := s.nat (flI flow 0) 3
    let o := content - 0x20
    let port := s.nat (0x1B40 + o) 2
    let fs := apFs s.od port
    let np := packetSamples fs (s.nat (flI flow 1) 5)
    if !s.flag (flI flow 0) 1 || s.nat (flI flow 0) 4 != 3 || decide (content < 0x20) || !s.flag (0x1B40 + o) 1 then .next s
    else match tget s.audio.start (apGroup s.od port) with
      | none => .next s
      | some g =>
        let x := s.fl flow
        let y := if x.running ∧ x.audioFrom = g then x
          else { running := true, audioFrom := g, generated := 0, cc := x.cc, counts := x.counts, sdp := x.sdp }
        let n := y.audioSent
        let due := (Frac.ofInt g).add (samples (n + 2 * np) fs)
        if (Frac.ofInt s.now).lt due ∨ np = 0 then .next s
        else
          let bytes := 40 + np * s.nat (0x1B40 + o) 4 * (if s.nat (flI flow 1) 6 = 0 then 3 else 2)
          let stamp := ((Frac.mk' (g * fs) 1000000000).floor.toNat + n) % 4294967296
          let s1 := s.setFl flow { y with audioSent := n + np, lastTs := stamp }
          if !s.audioFlows then .next s1
          else
            let key := 2 * (n / np) + 1
            let known := (tget (s.ao o).gated key).isSome
            let d := if known then s1 else s1.sendDigest (n / np) (0x80 + o) 2 0 0 0 (bytes - 40)
            let r := if s.audioByPolicy then (s.policySends, d) else d.gateAudio o key
            .next (r.2.sendFlow s.od flow 1 (b2n r.1) (if r.1 then bytes else 0))

end Sys2Proof.Machine
end

