-- ==== Sys2Proof/Machine/BlackBox.lean ====
section
/-! DEFINITION. BlackBox.lean: writing, coalescing and reading the black box (R630–R638), and the time anchor
(R549). -/

namespace Sys2Proof.Machine

/-- Whether a coalescing second concerns an entry's code, unit and channel (R633). -/
def Coalesce.matches (c : Coalesce) (code unit chan : Nat) : Bool :=
  c.latest.code == code && c.latest.unit == unit && c.latest.chan == chan

/-- The coalescing seconds with one begun by an entry written now; severity 3 is never coalesced (R633). -/
def BlackBox.begin (b : BlackBox) (e : BbEntry) (us : Nat) : BlackBox :=
  if e.sev = 3 then b
  else { b with recent := (b.recent.filter (fun c => !c.matches e.code e.unit e.chan)) ++ [⟨us, 0, e⟩] }

/-- Whether an entry falls within 1 s of an equal one written (R633). -/
def BlackBox.coalesces (b : BlackBox) (e : BbEntry) (us : Nat) : Bool :=
  decide (e.sev < 3) && b.recent.any (fun c => c.matches e.code e.unit e.chan && decide (us < c.since + 1000000))

/-- The entry counted in its coalescing second (R633). -/
def BlackBox.countIn (b : BlackBox) (e : BbEntry) : BlackBox :=
  { b with recent := b.recent.map (fun c =>
      if c.matches e.code e.unit e.chan then { c with count := c.count + 1, latest := e } else c) }

/-- The black box after the Lodge takes the next thing to write (R633): the report of discards first, else the
head of the queue, which is written or counted. The flag says that an occurrence was coalesced. -/
def BlackBox.take (b : BlackBox) (report : BbEntry) (us : Nat) (direct : Bool) : BlackBox × Bool :=
  if b.dropped ≠ 0 then (({ b with dropped := 0 }.write report direct).begin report us, false)
  else match b.queue with
    | [] => (b, false)
    | e :: q =>
      let b1 := { b with queue := q }
      if b1.coalesces e us then (b1.countIn e, true)
      else ((b1.write e direct).begin e us, false)

/-- BLACK_BOX_WRITE (R632, R633): the Lodge, while it is powered, writes the next queued entry in SEQ order. -/
def execBlackBoxWrite (s : State) : Host.Outcome State Fault Refusal :=
  if s.lodge.powered then
    let r := s.bb.take (s.bbEntry 0x41 0xFFFF 0xFF [s.bb.dropped]) (s.lodge.time / 10) (decide (s.mode = .dormant))
    let s1 : State := { s with bb := r.1 }
    .next (if r.2 then s1.bump 0x1E00 5 0x1E00 7 else s1)
  else .next s

/-- COALESCE_EXPIRY (R633): the coalescing second of a code, unit and channel has ended; where occurrences were
counted, one entry with the latest values and the count in REPEAT is written. -/
def execCoalesceExpiry (code unit chan : Nat) (s : State) : Host.Outcome State Fault Refusal :=
  match s.bb.recent.find? (fun c => c.matches code unit chan) with
  | none => .next s
  | some c =>
    let us := s.lodge.time / 10
    if us < c.since + 1000000 then .next s
    else
      let b := { s.bb with recent := s.bb.recent.filter (fun d => !d.matches code unit chan) }
      if c.count = 0 then .next { s with bb := b }
      else
        let e := { c.latest with rep := c.count }
        .next { s with bb := (b.write e (decide (s.mode = .dormant))).begin e us }

/-- TIME_ANCHOR (R549): the Gatehouse records the pair of Lodge time (LTIME) and PTP time. -/
def execTimeAnchor (s : State) : Host.Outcome State Fault Refusal :=
  match s.mode with
  | .dormant => .next s
  | .starting => .next s
  | _ => .next (s.log 0x42 0xFFFF 0xFF [s.now / 1000000000, s.now % 1000000000])

/-- A write of OD 0x1E00.06 queues a host note (R635). -/
def hostNote (b : List Byte) (s : State) : Code × State :=
  (.ok, s.log 0x44 0xFFFF 0xFF [leNat (b.take 8), leNat ((b.drop 8).take 8), leNat ((b.drop 16).take 8),
    leNat ((b.drop 24).take 8)])

/-- A slot as it stands; a slot never written reads as zero bytes, which are not a whole entry (R632). -/
def BlackBox.slot (b : BlackBox) (k : Nat) : List Byte := tgetD b.slots k (zeros 64)

/-- OD 0x1E00.02: whole entries in the ring (R638). -/
def BlackBox.wholeRing (b : BlackBox) : Nat :=
  (b.slots.filter (fun kv => decide (64 ≤ kv.1) && bbWhole kv.2)).length

/-- OD 0x1E00.03: whole pinned slots (R638). -/
def BlackBox.wholePinned (b : BlackBox) : Nat :=
  maskOf ((b.slots.filter (fun kv => decide (kv.1 < 64) && bbWhole kv.2)).map Prod.fst)

/-- OD 0x1E01.03: the ring slots of `n` sequence numbers from `start` (R637). -/
def BlackBox.entries (b : BlackBox) (start n : Nat) : List Byte :=
  (List.range n).flatMap (fun k => b.slot (64 + (start + k) % 4294967296 % 8128))

/-- OD 0x1E02: the pinned slots (R638). -/
def BlackBox.pinned (b : BlackBox) : List Byte := (List.range 64).flatMap b.slot

/-- The entries written from VLODGE energy pinned where their slots are still not whole (R634). -/
def BlackBox.pinLate (b : BlackBox) : BlackBox :=
  { b with
    slots := b.unpinned.foldl (fun t e => if ((tget t e.1).map bbWhole).getD false then t else tset t e.1 e.2) b.slots,
    unpinned := [] }

end Sys2Proof.Machine
end

