-- ==== Sys2Proof/Machine/Carriageway.lean ====
section
/-! DEFINITION. Carriageway.lean: frames, link control words, credits and retry (R427–R437). -/

namespace Sys2Proof.Machine

/-- Carriageway port p's state. -/
def State.cwAt (s : State) (p : Nat) : CwPort := tgetD s.cw p {}
/-- The machine with port p's state changed. -/
def State.setCw (s : State) (p : Nat) (c : CwPort) : State := { s with cw := tset s.cw p c }
/-- A port counter of OD 0x1950 + p advanced (R439). -/
def State.cwBump (s : State) (p j : Nat) : State := s.bump (0x1950 + p) j (0x1950 + p) 9
/-- Whether port p is up (R437). -/
def State.cwUp (s : State) (p : Nat) : Bool := s.nat (0x1950 + p) 1 == 2

/-- Credit units a frame uses (R431). -/
def frameUnits (f : CwFrame) : Nat := ceilDiv (f.payload.length + 12) 64
/-- The 8 header bytes of a frame (R427). -/
def frameHeader (f : CwFrame) : List Byte :=
  leBytes 8 (f.seq % 4096 * 2 ^ 52 + f.payload.length % 1024 * 2 ^ 42 + f.vc % 4 * 2 ^ 40 + f.dst % 16 * 2 ^ 36 +
    f.src % 16 * 2 ^ 32 + b2n f.dom * 2 ^ 31 + f.hops % 8 * 2 ^ 28 + f.tag % 16384 * 2 ^ 14 + f.kind % 256 * 64)
/-- The CRC of a frame (R427): over header, payload and zero padding. -/
def frameCrc (f : CwFrame) : Nat :=
  crc32c (frameHeader f ++ f.payload ++ zeros (ceilDiv f.payload.length 4 * 4 - f.payload.length))
/-- The bytes of a frame's symbols, SOF to the last PAD, special symbols by their bytes of R408 (R427). -/
def frameSymbols (f : CwFrame) : List Byte :=
  let b := leBytes 1 0xFB ++ frameHeader f ++ f.payload ++ zeros (ceilDiv f.payload.length 4 * 4 - f.payload.length) ++
    leBytes 4 f.crc ++ leBytes 1 0xFD
  b ++ (List.range (ceilDiv b.length 4 * 4 - b.length)).flatMap (fun _ => leBytes 1 0xDC)
/-- The time a frame takes on its four lanes at 20 Gbaud, in eighths of a nanosecond (R406, R427). -/
def frameEighths (f : CwFrame) : Nat := ceilDiv (14 + ceilDiv f.payload.length 4 * 4) 4 * 4
/-- The bytes of a link control word's symbols (R408, R429). -/
def wordSymbols (w : Nat × Nat × Nat) : List Byte :=
  let b := if w.1 = 3 then leBytes 1 3 ++ leBytes 1 w.2.1 ++ leBytes 2 w.2.2 ++ zeros 1
    else leBytes 1 w.1 ++ leBytes 2 w.2.1 ++ zeros 2
  leBytes 1 0x9C ++ b ++ leBytes 2 (crc16 b)
/-- A frame fit to be looked at: no violation, at most 512 payload bytes, CRC right (R409, R427). -/
def frameGood (f : CwFrame) : Bool :=
  f.violated.isNone && decide (f.payload.length ≤ 512) && f.crc == frameCrc f

/-- A link control word queued, in place of an earlier one of its type and first field (R429: every word is
cumulative). [DEDUCED: log entry 84] -/
def CwPort.say (c : CwPort) (type d12 d34 : Nat) : CwPort :=
  { c with words := c.words.filter (fun w => !(w.1 == type && (type != 3 || w.2.1 == d12))) ++ [(type, d12, d34)] }

/-- The sender's choice of the next frame (R432): VC0, VC2, VC1, VC3, but a waiting VC3 frame at least once in
every 4 frames; a frame may start only with credit for it (R431). [DEDUCED: log entry 84] -/
def CwPort.pick (c : CwPort) : Option CwFrame :=
  let fits := fun (f : CwFrame) =>
    decide (tgetD c.consumed f.vc 0 + frameUnits f ≤ tgetD c.advertised f.vc 0)
  let first := fun (v : Nat) => (c.waiting.find? (fun f => f.vc == v)).bind (fun f => if fits f then some f else none)
  let by_ := [0, 2, 1, 3].findSome? first
  if 3 ≤ c.sinceVc3 then (match first 3 with | some f => some f | none => by_) else by_

/-- One frame moved from the waiting frames to the line (R431, R432). -/
def CwPort.sendOne (c : CwPort) (now : Nat) : Option CwPort :=
  if 64 ≤ c.replay.length then none
  else match c.pick with
    | none => none
    | some f =>
      let g : CwFrame := { f with seq := c.next }
      let g := { g with crc := frameCrc g }
      some { c with next := (c.next + 1) % 4096, replay := c.replay ++ [g], waiting := c.waiting.erase f,
                    consumed := tset c.consumed f.vc (tgetD c.consumed f.vc 0 + frameUnits f),
                    sinceVc3 := if f.vc = 3 then 0 else c.sinceVc3 + 1,
                    ackAt := if c.replay.isEmpty then now else c.ackAt, idleSince := now }

/-- Every frame that may start now sent; the number sent is counted (R432, R439). -/
def State.cwPump (s : State) (p : Nat) : State :=
  let rec go : Nat → CwPort → Nat → CwPort × Nat
    | 0, c, n => (c, n)
    | k + 1, c, n => match c.sendOne s.now with
      | some d => go k d (n + 1)
      | none => (c, n)
  if s.cwUp p then
    let r := go 64 (s.cwAt p) 0
    let s1 := s.setCw p r.1
    let s2 : State := if r.2 = 0 then s1 else
      (s.portLanes p).foldl (fun t k =>
        let l := t.laneAt k
        if l.tx = 3 then (t.setLane k { l with tx := 2 }).laneBump k 6 1 else t) s1
    (r.1.replay.drop (s.cwAt p).replay.length).foldl (fun t f => t.perfAdd 0x20 (p * 4 + f.vc) 1)
      (s2.bumpBy (0x1950 + p) 2 (0x1950 + p) 9 r.2)
  else s

/-- A message handed to port p for sending (R431, R432). -/
def State.cwQueue (s : State) (p : Nat) (f : CwFrame) : State :=
  let c := s.cwAt p
  (s.setCw p { c with waiting := c.waiting ++ [f] }).cwPump p

/-- The port trains in full: sequence numbers, credits and acknowledgements start from zero (R434). -/
def State.cwReset (s : State) (p : Nat) : State := (s.setCw p {}).trainPort p

/-- The port fails by retry exhaustion (R433): the frames are reported upward and the port trains in full. -/
def State.cwExhaust (s : State) (p : Nat) : State :=
  let n := (s.cwAt p).replay.length
  (((s.cwBump p 7).laneEvent 6 (0x40 + p) n).log 0x24 p 0xFF [6, n]).cwReset p

/-- The frames that a replay sends again, counted (R433, R619). -/
def State.countReplay (s : State) (p : Nat) : State :=
  (s.cwAt p).replay.foldl (fun t f => t.perfAdd 0x21 (p * 4 + f.vc) 1) (s.cwBump p 5)

/-- A failure event for the oldest unacknowledged frame (R433): a replay, or exhaustion; while a replay of that frame is under
way, it counts as one with it. [DEDUCED: log entry 84] -/
def State.cwFailure (s : State) (p : Nat) : State :=
  let c := s.cwAt p
  let ends := s.now + ceilDiv ((c.replay.map frameEighths).sum) 8
  let again := fun (d : CwPort) => (s.setCw p { d with ackAt := s.now, replayTo := ends }).countReplay p
  if c.replay.isEmpty then s
  else match c.envelope with
    | none => again { c with envelope := some s.now, retries := 1 }
    | some e =>
      if e + 2000 ≤ s.now then s.cwExhaust p
      else if s.now < c.replayTo then s
      else if 4 ≤ c.retries then s.cwExhaust p
      else again { c with retries := c.retries + 1 }

/-- The replay buffer after an acknowledgement of everything up to `seq` (R429); unchanged where `seq` names no
outstanding frame. [DEDUCED: log entry 84] -/
def CwPort.release (c : CwPort) (seq now : Nat) : CwPort :=
  if c.replay.any (fun f => f.seq == seq) then
    let rest := (c.replay.dropWhile (fun f => f.seq != seq)).drop 1
    { c with replay := rest, envelope := none, retries := 0, replayTo := 0, ackAt := now, idleSince := now }
  else c

/-- ACK (R429): acknowledged frames leave the replay buffer, and waiting frames may start. [DEDUCED: log entry 84] -/
def execCwAck (port seq : Nat) (s : State) : Host.Outcome State Fault Refusal :=
  if 4 ≤ port then .fault .noSuchUnit
  else if s.cwUp port then .next ((s.setCw port ((s.cwAt port).release seq s.now)).cwPump port)
  else .next s

/-- CREDIT (R429, R431): the far receiver's units of a virtual channel since port-up, modulo 65,536. -/
def execCwCredit (port vc total : Nat) (s : State) : Host.Outcome State Fault Refusal :=
  if 4 ≤ port ∨ 4 ≤ vc then .fault .noSuchUnit
  else
    let c := s.cwAt port
    let old := tgetD c.advertised vc 0
    let new := old + (total + 65536 - old % 65536) % 65536
    let s1 := s.setCw port { c with advertised := tset c.advertised vc new }
    if s.nat (0x1950 + port) 1 = 0 then .next s else .next (s1.cwPump port)

/-- CARRIAGEWAY_IDLE_TIMEOUT (R414): a direction with nothing to send for the idle time enters electrical idle. -/
def execCarriagewayIdleTimeout (port : Nat) (s : State) : Host.Outcome State Fault Refusal :=
  if 4 ≤ port then .fault .noSuchUnit
  else
    let c := s.cwAt port
    let t := s.nat 0x1903 1
    if s.cwUp port && decide (t ≠ 0) && c.replay.isEmpty && c.waiting.isEmpty &&
        decide (c.idleSince + t ≤ s.now) then
      .next ((s.portLanes port).foldl (fun u k =>
        let l := u.laneAt k
        if l.tx = 2 then (u.setLane k { l with tx := 3 }).laneBump k 5 1 else u) s)
    else .next s

/-- A NAK for the gap, once per gap (R430). -/
def State.cwNakGap (s : State) (p : Nat) : State :=
  let c := s.cwAt p
  if c.gap then s
  else (s.setCw p { (c.say 2 ((c.expect + 4095) % 4096) 0) with gap := true }).cwBump p 4

/-- CW_FRAME_RECEIVED (R409, R428–R431): a frame is accepted in order, or discarded as aborted, bad, duplicate,
out of order or beyond its credit. `mine` says that the frame is for this device; `forward` is applied to an accepted frame that is
not. -/
def cwReceive (forward : CwFrame → State → State) (port : Nat) (f : CwFrame) (mine : Bool) (s : State) : State :=
  let c := s.cwAt port
  if !s.cwUp port || f.aborted then s
  else if !frameGood f then
    let s1 := match f.violated with
      | some k =>
        let lane := (s.portLanes port).getD (k % 4) 0
        ((s.laneBump lane 1 1).laneBump lane 3 1).perfAdd 0x50 lane 1
      | none => s
    (s1.cwBump port 3).cwNakGap port
  else if f.seq % 4096 = c.expect then
    let total := tgetD c.received f.vc 0 + frameUnits f
    let allot := tgetD c.allot (f.vc % 4) 0
    if allot < frameUnits f then
      ((((s.cwBump port 8).cwBump port 7).laneEvent 7 (0x40 + port) 0).log 0x24 port 0xFF [7, 0]).cwReset port
    else
      let d := { c with expect := (c.expect + 1) % 4096, gap := false, received := tset c.received f.vc total }
      let d := (d.say 1 c.expect 0).say 3 f.vc ((allot + total) % 65536)
      let s1 := s.setCw port d
      if mine then s1
      else if f.hops = 0 then s1.cwBump port 8
      else forward { f with hops := f.hops - 1 } s1
  else if (c.expect + 4096 - f.seq % 4096) % 4096 ≤ 64 then
    (s.setCw port (c.say 1 ((c.expect + 4095) % 4096) 0)).cwBump port 6
  else s.cwNakGap port

end Sys2Proof.Machine
end

