-- ==== Sys2Proof/Machine/Clock.lean ====
section
/-! DEFINITION. Clock.lean: the root clock, its reference, loss of lock and the bypass clock (R527–R547). -/

namespace Sys2Proof.Machine

/-- The machine with the root clock changed. -/
def State.setClk (s : State) (c : Clock) : State := { s with clk := c }
/-- A counter of OD 0x1601 (R545). -/
def State.clkBump (s : State) (j : Nat) : State := s.bump 0x1601 j 0x1601 0x0B
/-- An event of class 0x11 (R544). -/
def State.clkEvent (s : State) (what cause : Nat) (value : Int) : State := s.ev 0x11 what cause value

/-- OD 0x1601.01 (R546). -/
def Clock.word (c : Clock) : Nat :=
  c.state % 16 * 0x10000000 + c.ref % 16 * 0x1000000 + b2n c.bypass * 0x800000 + b2n c.alarm * 0x400000 +
    c.cause % 256 * 256 + c.nominal % 64

/-- OD 0x1601.04: duration of the current HOLDOVER in ms (R545). -/
def State.holdoverMs (s : State) : Nat := if s.clk.state = 3 then (s.now - s.clk.since) / 1000000 else 0

/-- The phase-detector frequency in kHz of a REF_IN code and a reference mode (R527). -/
def detectorKHz (ref mode : Nat) : Nat :=
  let f := [25000, 50000, 100000].getD ref 25000
  if mode = 1 then 2 * f else if mode = 2 then f / 2 else f

/-- A reference combination that R527 refuses: 100 MHz doubled. -/
def refRefused (ref mode : Nat) : Bool := ref == 2 && mode == 1

/-- Nominal divisors of outputs 0–5 (R530). -/
def nominalDivisor (k : Nat) : Nat := [3, 8, 16, 24, 32, 128].getD k 0
/-- Re-lock divisors of outputs 0–5 (R530). -/
def relockDivisor (k : Nat) : Nat := [4, 10, 20, 32, 40, 160].getD k 0
/-- The outputs (R530). -/
def clockOutputs : List Nat := [0, 1, 2, 3, 4, 5]

/-- Every output put on its nominal or its re-lock divisor at one alignment point (R534). -/
def State.divisors (s : State) (nominal : Bool) : State :=
  let s1 := clockOutputs.foldl (fun (t : State) k =>
    t.put (0x1610 + k) 3 (if nominal then nominalDivisor k else relockDivisor k)) s
  s1.setClk { s1.clk with nominal := if nominal then 63 else 0 }

/-- The least time for which a returned reference has run well, ns (R537). -/
def State.qualified (s : State) : Bool :=
  match s.clk.qualFrom with
  | some t => decide (t + s.nat 0x1600 3 * 1000000 ≤ s.now)
  | none => true

/-- The qualification time starts again (R537). -/
def State.requalify (s : State) : State := s.setClk { s.clk with qualFrom := some s.now }

/-- The root enters HOLDOVER on its frozen word (R535, R536, R538). -/
def State.clockHoldover (s : State) (cause ref : Nat) : State :=
  ((s.setClk { s.clk with state := 3, ref := ref, alarm := false, cause := cause, since := s.now,
                          qualFrom := some s.now }).clkBump 7).clkEvent 1 cause 0

/-- The Timebase on the bypass clock: FREE_RUN with the nominal INC (R542). -/
def State.freeRun (s : State) : State :=
  let s1 : State := { s with tb := { s.tb with slew := none, freq := none, wasLocked := false, good := 0, bad := 0 } }
  (s1.setAdj 0).toTb 0 (s.num 0x1500 0x0A)

/-- NET0–NET3 lose link (R529, R541). -/
def State.dropNet (s : State) : State := [0, 1, 2, 3].foldl (fun (t : State) k => t.put (0x1A00 + k) 10 0) s

/-- The root begins to acquire from a declared reference (R529, R534): the outputs run from their re-lock divisors, the
control domain from the bypass clock (R542), and the NET ports lose link. [DEDUCED: log entry 91] -/
def State.relock (s : State) : State :=
  let s1 := s.divisors false
  ((s1.setClk { s1.clk with state := 1, ref := 2, bypass := true, qualFrom := none }).freeRun).dropNet

/-- A staged delay or enable of output k (R531): in force at once where the root is LOCKED or in HOLDOVER, otherwise when
it next locks. `part` 0 delay, 1 enable. [DEDUCED: log entry 91] -/
def State.stageOutput (s : State) (k part : Nat) (v : Int) : State :=
  if s.clk.state = 2 ∨ s.clk.state = 3 then s.put (0x1610 + k) (4 + part) v
  else s.setClk { s.clk with staged := tset s.clk.staged (2 * k + part) v.toNat }

/-- The staged delays and enables put into force (R531). [DEDUCED: log entry 91] -/
def State.applyStaged (s : State) : State :=
  let s1 := s.clk.staged.foldl (fun (t : State) kv => t.put (0x1610 + kv.1 / 2) (4 + kv.1 % 2) kv.2) s
  s1.setClk { s1.clk with staged := [] }

/-- REFERENCE_GLITCH (R535, R537, R538): up to three bad periods, blanked and counted; one during qualification starts it
again, and one during REACQUIRING returns the root to HOLDOVER. Glitch events come at most once per second (R544). -/
def execReferenceGlitch (s : State) : Host.Outcome State Fault Refusal :=
  let s1 := s.clkBump 6
  let n := s1.clk.glitches.1 + 1
  let s2 :=
    if s1.clk.glitches.1 = 0 ∧ s1.clk.glitches.2 = 0 ∨ s1.clk.glitches.2 + 1000000000 ≤ s1.now then
      (s1.setClk { s1.clk with glitches := (0, s1.now) }).clkEvent 8 0 (n : Nat)
    else s1.setClk { s1.clk with glitches := (n, s1.clk.glitches.2) }
  match s2.clk.state with
  | 4 => .next (s2.clockHoldover 0 4)
  | 3 => .next (s2.requalify.setClk { s2.requalify.clk with ref := 1 })
  | 0 => .next (s2.requalify.setClk { s2.requalify.clk with ref := 1 })
  | _ => .next s2

/-- REFERENCE_STOP (R535, R537, R538): a fourth bad period (`kind` 1) or a rate change (`kind` 2). -/
def execReferenceStop (kind : Nat) (s : State) : Host.Outcome State Fault Refusal :=
  let ref := if kind = 2 then 1 else 0
  match s.clk.state with
  | 2 => .next (s.clockHoldover kind ref)
  | 4 => .next (s.clockHoldover kind ref)
  | 3 => .next (s.requalify.setClk { s.requalify.clk with ref := ref })
  | _ => .next (s.requalify.setClk { s.requalify.clk with state := 0, ref := ref })

/-- REFERENCE_QUALIFIED (R537, R538, R543): a reference has run clean for the qualification time, `offset` ppb from the
frozen (or, without lock, the nominal) frequency and `phase` ps from the coasting VCO. Outside ±100 ppm it is out of
range. -/
def execReferenceQualified (offset phase : Int) (s : State) : Host.Outcome State Fault Refusal :=
  if !s.qualified ∨ s.clk.state = 1 ∨ s.clk.state = 2 ∨ s.clk.state = 4 then .next s
  else if 100000 < offset.natAbs then
    .next (((s.setClk { s.clk with ref := 3, qualFrom := some s.now }).clkBump 0x0A).clkEvent 3 0 offset)
  else if s.clk.state = 3 then
    .next ((((s.setClk { s.clk with state := 4, ref := 2, qualFrom := none }).measure 0x1601 5 phase s.now).clkBump 8).clkEvent 2 0
      phase)
  else
    let st := if s.clk.stopped then 0 else 1
    .next (((s.setClk { s.clk with state := st, ref := 2, qualFrom := none }).put 0x1601 3 offset).clkEvent 2 0 phase)

/-- ROOT_LOCKED (R534, R538, R543): a phase error below 100 ps for 1 ms. From an acquisition every output swaps to its
nominal divisor, the control domain leaves the bypass clock, lanes whose clock had stopped train, the PLL and REFERENCE causes of
R38 clear, and PTP steers the Timebase again (R333). [DEDUCED: log entry 91] -/
def execRootLocked (s : State) : Host.Outcome State Fault Refusal :=
  match s.clk.state with
  | 4 =>
    let s1 := s.setClk { s.clk with state := 2, alarm := false }
    .next ((((s1.clearCause 0).clearCause 6).applyStaged).clkEvent 4 0 0)
  | 1 =>
    let s1 := s.divisors true
    let s2 := s1.setClk { s1.clk with state := 2, bypass := false, stopped := false, alarm := false,
                                      lockedAt := if s.clk.stopped then s.now else s.clk.lockedAt }
    let s3 := s2.measure 0x1601 2 (detectorKHz (s.nat 0x1600 1) (s.nat 0x1600 2)) s.now
    let s4 := (((s3.clearCause 0).clearCause 6).applyStaged).restDram
    let s5 := ((if s.clk.stopped then s4.trainLanes else s4).clkEvent 4 0 0).clkEvent 6 0 0
    .next (if s5.ptpSteers && s5.ptp.parent.isSome then s5.acquire else s5)
  | _ => .next s

/-- Every rank in self-refresh (R541). [DEDUCED: log entry 91] -/
def State.sleepDram (s : State) : State :=
  (tkeys s.dram).foldl (fun (t : State) k =>
    let c := t.dch k
    if c.state = 0 ∨ c.state = 7 then t
    else t.setDch k { c with state := 4, debt := 0, credit := 0, owed := 0, paying := 0, owing := [], down := [] }) s

/-- Every lane enters electrical idle and the Carriageway ports go down (R541). [DEDUCED: log entry 91] -/
def State.idleLanes (s : State) : State :=
  let s1 := (List.range laneCount).foldl (fun (t : State) k =>
    let l := t.laneAt k
    if l.rx = 0 ∧ l.tx = 0 then t else t.setLane k { l with rx := 0, tx := 0 }) s
  [0, 1, 2, 3].foldl (fun (t : State) p => if t.cwUp p then t.put (0x1950 + p) 1 0 else t) s1

/-- BYPASS_ACQUISITION_ATTEMPT (R543): every 10 ms on the bypass clock, provided REF_IN has qualified. -/
def execBypassAcquisitionAttempt (s : State) : Host.Outcome State Fault Refusal :=
  if s.clk.bypass = true ∧ s.clk.state = 0 ∧ s.clk.tried + 10000000 ≤ s.now then
    .next (s.setClk { s.clk with tried := s.now, state := if s.clk.ref = 2 then 1 else 0 })
  else .next s

/-- HOLDOVER_ALARM (R536): HOLDOVER has lasted for the alarm time. -/
def execHoldoverAlarm (s : State) : Host.Outcome State Fault Refusal :=
  if s.clk.state = 3 ∧ s.clk.alarm = false ∧ s.clk.since + s.nat 0x1600 4 * 1000000000 ≤ s.now then
    .next (((s.setClk { s.clk with alarm := true }).clkEvent 7 0 0).log 0x0D 0xFFFF 0xFF [s.holdoverMs])
  else .next s

end Sys2Proof.Machine
end

