-- ==== Sys2Proof/Machine/Dram.lean ====
section
/-! DEFINITION. Dram.lean: the address map, bank queues and arbitration, refresh, temperature, power states, training
drift and demand (R498–R526). -/

namespace Sys2Proof.Machine

/-! Capacity and addresses (R499–R501) -/

/-- Raw capacity in MiB (R499). -/
def rawMib (cfg : Nat × Nat × Bool × Nat) : Nat := 16 * cfg.2.1 * ([8, 12, 16].getD cfg.1 16) * 128
/-- n_r of R500. -/
def chunksPerRow (ecc : Bool) : Nat := if ecc then 7 else 8
/-- Usable capacity in MiB (R499). -/
def usableMib (cfg : Nat × Nat × Bool × Nat) : Nat := rawMib cfg * chunksPerRow cfg.2.2.1 / 8
/-- A quarter region in bytes (R500). -/
def regionBytes (cfg : Nat × Nat × Bool × Nat) : Nat := usableMib cfg * 1048576 / 4

/-- Where a device address lies (R500). -/
structure DramPlace where
  /-- R500. channel -/
  dch : Nat
  /-- R500. rank -/
  rank : Nat
  /-- R500. bank group -/
  bg : Nat
  /-- R500. bank -/
  bank : Nat
  /-- R500. row -/
  row : Nat
  /-- R500. 64-byte granule of the row -/
  granule : Nat
deriving DecidableEq, Repr

/-- The map of R500. -/
def dramPlace (cfg : Nat × Nat × Bool × Nat) (a : Nat) : DramPlace :=
  let size := max 1 (regionBytes cfg)
  let q := a / size
  let o := a % size
  let c := o / 256
  let k := c / 4
  let nr := chunksPerRow cfg.2.2.1
  let j := k / nr
  let ranks := max 1 cfg.2.1
  let row := j / (16 * ranks)
  { dch := 4 * q + c % 4, rank := j / 16 % ranks, bg := Nat.xor (j % 4) (row % 4), bank := j / 4 % 4, row := row,
    granule := (k % nr) * 4 + o % 256 / 64 }

/-- A bank's place in the order of R506, within its rank. -/
def DramPlace.pos (p : DramPlace) : Nat := p.bank * 4 + p.bg
/-- A bank's number: rank × 16 + place. -/
def DramPlace.bankNo (p : DramPlace) : Nat := p.rank * 16 + p.pos

/-- The device address that a BAR2 offset reaches (R501). -/
def bar2Address (cfg : Nat × Nat × Bool × Nat) (x : Nat) : Nat :=
  let part := cfg.2.2.2 * 1048576 / 4
  let q := x / max 1 part
  q * regionBytes cfg + regionBytes cfg - part + (x - q * part)

/-- The device address of a place's first byte: the map of R500 read the other way. -/
def DramPlace.addr (p : DramPlace) (cfg : Nat × Nat × Bool × Nat) : Nat :=
  let j := (p.row * max 1 cfg.2.1 + p.rank) * 16 + p.bank * 4 + Nat.xor p.bg (p.row % 4)
  let c := (j * chunksPerRow cfg.2.2.1 + p.granule / 4) * 4 + p.dch % 4
  p.dch / 4 * regionBytes cfg + c * 256 + p.granule % 4 * 64

/-! Inline ECC (R502) -/

/-- The U32 of the address check of a row (R502). -/
def DramPlace.checkWord (p : DramPlace) : Nat := p.rank * 1048576 + p.bg * 262144 + p.bank * 65536 + p.row % 65536
/-- The check bytes of a data granule, one for each of its 64-bit words (R502). -/
def checkBytes (granule : List Byte) : List Byte :=
  (List.range 8).map (fun w => BitVec.ofNat 8 (Config.secded (leNat ((granule.drop (8 * w)).take 8))))
/-- ECC granule 28 + g of the row of a place (R502): the check bytes of data granules 7g to 7g + 6, the address check and zeros. -/
def State.eccGranule (s : State) (p : DramPlace) (g : Nat) : List Byte :=
  (List.range 7).flatMap (fun i => checkBytes (memBytes s.dramMem ({ p with granule := 7 * g + i }.addr s.dramCfg) 64)) ++
    leBytes 4 (crc32c (leBytes 4 p.checkWord)) ++ zeros 4

/-! Channels -/

/-- One bank of a channel. -/
def DramChan.bank (c : DramChan) (b : Nat) : DramBank := tgetD c.banks b {}
/-- Requests waiting in a rank. -/
def DramChan.rankLoad (c : DramChan) (r : Nat) : Nat :=
  ((c.banks.filter (fun kv => kv.1 / 16 == r)).map (fun kv => kv.2.queue.length)).sum
/-- Requests waiting in a channel. -/
def DramChan.load (c : DramChan) : Nat := (c.banks.map (fun kv => kv.2.queue.length)).sum
/-- A retraining window runs at a PTP ns: it lasts 1.0 µs (R517). -/
def DramChan.inWindow (c : DramChan) (now : Nat) : Bool :=
  match c.winAt with | some t => decide (now < t + 1000) | none => false
/-- STATE of R524: a channel in its retraining window reads as such, and one with every rank in power-down as in power-down. -/
def DramChan.stateNow (c : DramChan) (ranks now : Nat) : Nat :=
  if c.state = 2 ∧ c.inWindow now then 5
  else if c.state = 2 ∧ c.down ≠ [] ∧ ranks ≤ c.down.length then 3 else c.state
/-- OD 0x1810 + k, sub .01 (R524). -/
def DramChan.word (c : DramChan) (ranks now : Nat) : Nat :=
  c.stateNow ranks now * 268435456 + (if c.m = 4 then 2 else if c.m = 2 then 1 else 0) * 67108864 + b2n c.forbid * 33554432 +
    (c.debt + c.owed) / 16 % 256 * 65536 + c.credit / 16 % 256 * 256 + min 16 c.peak
/-- A counter of OD 0x1801 (R523). -/
def State.dramBump (s : State) (j : Nat) : State := s.bump 0x1801 j 0x1801 0x0B
/-- An event of class 0x10 (R525). -/
def State.dramEvent (s : State) (what dch value : Nat) : State := s.ev 16 what dch (value : Nat)
/-- The per-bank refreshes that one refresh counts as (R509). -/
def State.refreshUnit (s : State) : Nat := if s.flag 0x1800 5 then 16 else 1

/-! Queues and prediction (R504, R507) -/

/-- A request in its bank's queue (R504): the predictor learns whether it hits the row last used (R507). Where the queue is full the
request waits on the fabric. -/
def DramChan.arrive (c : DramChan) (cfg : Nat × Nat × Bool × Nat) (r : MemReq) : DramChan :=
  let p := dramPlace cfg r.addr
  let b := c.bank p.bankNo
  if 16 ≤ b.queue.length then { c with fabric := c.fabric ++ [r] }
  else
    let hit := p.row == b.last
    let b1 := { b with
      queue := b.queue ++ [{ cls := r.cls, write := r.write, addr := r.addr, seq := c.seq }]
      hist := (b.hist * 2 + b2n hit) % 16
      conf := if hit then min 7 (b.conf + 1) else b.conf - 2
      last := p.row }
    { c with banks := tset c.banks p.bankNo b1, seq := c.seq + 1, peak := max c.peak b1.queue.length,
             down := c.down.filter (· != p.rank), idle := tset c.idle p.rank 0 }

/-- Whether the predictor keeps a row open (R507). -/
def DramBank.keeps (b : DramBank) : Bool :=
  decide (4 ≤ b.conf) && decide (2 ≤ (bits b.hist 4).length)

/-! The command of a cycle (R505–R508, R510, R511) -/

/-- Column candidates: requests whose row is open, with their bank. -/
def DramChan.columns (c : DramChan) (cfg : Nat × Nat × Bool × Nat) (timed : Nat) : List (Nat × DramReq) :=
  c.banks.flatMap (fun kv =>
    if bit timed kv.1 then
      (kv.2.queue.filter (fun r => kv.2.row == some (dramPlace cfg r.addr).row)).map (fun r => (kv.1, r))
    else [])
/-- The lowest class first, the oldest within a class. -/
def firstReq (l : List (Nat × DramReq)) : Option (Nat × DramReq) :=
  l.foldl (fun a x => match a with
    | none => some x
    | some y => if x.2.cls < y.2.cls ∨ (x.2.cls = y.2.cls ∧ x.2.seq < y.2.seq) then some x else some y) none

/-- Rule 3: the column command of the cycle, if one may issue (R505). -/
def DramChan.column (c : DramChan) (cfg : Nat × Nat × Bool × Nat) (timed : Nat) : Option (Nat × DramReq) :=
  let all := c.columns cfg timed
  let same := all.filter (fun x => x.2.write == c.run.1)
  let left := c.banks.any (fun kv => kv.2.queue.any (fun r => r.write == c.run.1))
  if 8 ≤ c.run.2 ∨ !left then firstReq all else firstReq same

/-- Rule 4: the bank activated, by the rotating pick (R506). -/
def DramChan.activate (c : DramChan) (timed ranks : Nat) : Option Nat :=
  let order := (List.range 16).flatMap (fun k => (List.range ranks).map (fun r => r * 16 + (c.ptr + k) % 16))
  let wants := fun (b : Nat) => (c.bank b).row.isNone && !(c.bank b).queue.isEmpty && bit timed b
  let low := fun (b : Nat) => (c.bank b).queue.foldl (fun a r => min a r.cls) 3
  let best := (order.filter wants).foldl (fun a b => min a (low b)) 3
  order.find? (fun b => wants b && low b == best)

/-- Rule 5: a bank whose open row the page policy closes, or that a conflicting request needs, or that has been open for tRAS(max)
(R507). -/
def DramChan.precharge (c : DramChan) (cfg : Nat × Nat × Bool × Nat) (policy timed : Nat) : Option Nat :=
  (c.banks.find? (fun kv =>
    match kv.2.row with
    | none => false
    | some r =>
      bit timed kv.1 && (bit timed (kv.1 + 32) || !(kv.2.queue.any (fun q => (dramPlace cfg q.addr).row == r)) &&
        (!kv.2.queue.isEmpty || policy == 1 || (policy == 0 && !kv.2.keeps))))).map Prod.fst

/-- A refresh issued: the open row of its bank, or of every bank of an all-bank refresh, is closed first (R507). -/
def DramChan.refresh (c : DramChan) (unit bank rule : Nat) : DramChan :=
  { c with cmd := some (rule, bank), banks := c.banks.map (fun kv =>
      if unit = 16 && kv.1 / 16 == bank / 16 || kv.1 == bank then (kv.1, { kv.2 with row := none }) else kv) }

/-- Whether R510 lets a due refresh of a rank be postponed. [DEDUCED: log entry 89] -/
def State.postpones (s : State) (c : DramChan) (rank : Nat) : Bool :=
  decide (c.debt < 128) && !c.forbid && decide (s.nat 0x1800 8 ≤ c.rankLoad rank)

/-- The timing of a bank, or of every bank of its rank for an all-bank refresh, allows a refresh. -/
def refreshTimed (timed unit bank : Nat) : Bool :=
  if unit = 16 then (List.range 16).all (fun k => bit timed (bank / 16 * 16 + k)) else bit timed bank
/-- The oldest refresh owed that passes a test and whose timing allows it. -/
def DramChan.nextRefresh (c : DramChan) (timed unit : Nat) (test : Nat → Bool) : Option Nat :=
  (if c.owing = [] then [0] else c.owing).find? (fun b => test b && refreshTimed timed unit b)
/-- A refresh owed is issued. -/
def DramChan.pay (c : DramChan) (unit bank rule : Nat) : DramChan :=
  { c.refresh unit bank rule with owing := c.owing.erase bank }

/-- Rule 1 (R505, R511): a refresh of a restated debt. -/
def DramChan.rule1 (c : DramChan) (timed unit : Nat) : Option DramChan :=
  if c.state = 6 ∧ c.owed ≠ 0 then
    (c.nextRefresh timed unit (fun _ => true)).map (fun b => { c.pay unit b 1 with owed := c.owed - unit })
  else none
/-- Rule 2 (R505, R510): a refresh that would take the debt past 8. -/
def DramChan.rule2 (c : DramChan) (timed unit : Nat) : Option DramChan :=
  if 128 < c.debt then
    (c.nextRefresh timed unit (fun _ => true)).map (fun b => { c.pay unit b 2 with debt := c.debt - unit })
  else none
/-- Rule 3 (R503, R505): the column command of the cycle; the controller then holds the ECC granule of the data it moves. -/
def DramChan.rule3 (c : DramChan) (cfg : Nat × Nat × Bool × Nat) (timed : Nat) : Option DramChan :=
  (c.column cfg timed).map (fun x =>
    let k := c.bank x.1
    let p := dramPlace cfg x.2.addr
    { c with banks := tset c.banks x.1 { k with queue := k.queue.erase x.2,
                                                ecc := if cfg.2.2.1 then some (p.row, p.granule / 7) else none },
             cmd := some (3, x.1), run := if x.2.write = c.run.1 then (x.2.write, c.run.2 + 1) else (x.2.write, 1) })
/-- Rule 4 (R505, R506): an activate opens the row of the bank's oldest request of its lowest class. -/
def DramChan.rule4 (c : DramChan) (cfg : Nat × Nat × Bool × Nat) (timed : Nat) : Option DramChan :=
  (c.activate timed (max 1 cfg.2.1)).map (fun b =>
    let k := c.bank b
    let low := k.queue.foldl (fun a r => min a r.cls) 3
    let row := ((k.queue.find? (fun r => r.cls == low)).map (fun r => (dramPlace cfg r.addr).row)).getD 0
    { c with banks := tset c.banks b { k with row := some row }, ptr := (b % 16 + 1) % 16, cmd := some (4, b) })
/-- Rule 5 (R505, R507): a precharge. -/
def DramChan.rule5 (c : DramChan) (cfg : Nat × Nat × Bool × Nat) (policy timed : Nat) : Option DramChan :=
  (c.precharge cfg policy timed).map (fun b => { c with banks := tset c.banks b { c.bank b with row := none }, cmd := some (5, b) })
/-- Rule 6 (R505, R510): a refresh that is due and is not postponed. -/
def State.rule6 (s : State) (c : DramChan) (timed unit : Nat) : Option DramChan :=
  if unit ≤ c.debt then
    (c.nextRefresh timed unit (fun b => !s.postpones c (b / 16))).map (fun b => { c.pay unit b 6 with debt := c.debt - unit })
  else none
/-- A refresh pulled in for a rank whose every queue is empty (R510). -/
def DramChan.pullIn (c : DramChan) (timed unit ranks : Nat) : Option DramChan :=
  if c.credit < 128 ∧ !c.forbid then
    ((List.range ranks).map (fun r => r * 16 + c.credit / unit % 16)).find? (fun b => c.rankLoad (b / 16) == 0 && refreshTimed timed unit b)
      |>.map (fun b => { c.refresh unit b 8 with credit := c.credit + unit })
  else none

/-- One cycle of a channel (R505): the first rule that yields a command. Rule 8 stands for a refresh pulled in (R510).
[DEDUCED: log entry 88] -/
def State.cycle (s : State) (c : DramChan) (timed : Nat) (rfm : Bool) : DramChan :=
  let cfg := s.dramCfg
  let u := s.refreshUnit
  ([c.rule1 timed u, c.rule2 timed u, c.rule3 cfg timed, c.rule4 cfg timed, c.rule5 cfg (s.nat 0x1800 7) timed, s.rule6 c timed u,
    if rfm then some { c with cmd := some (7, 0) } else none, c.pullIn timed u (max 1 cfg.2.1)].findSome? id).getD
      { c with cmd := none }

/-- DRAM_COMMAND_CYCLE (R504–R507): one scheduling cycle of a channel. `arrivals` reach its bank queues behind those that wait on
the fabric, `timed` has bit b set where bank b's timing allows a command and bit b + 32 where its row has been open for tRAS(max),
and `rfm` tells that MR27 requests refresh management. [DEDUCED: log entry 88] -/
def execDramCommandCycle (dch : Nat) (arrivals : List MemReq) (timed : Nat) (rfm : Bool) (s : State) :
    Host.Outcome State Fault Refusal :=
  if 16 ≤ dch ∨ arrivals.any (fun r => decide (4 ≤ r.cls)) then .fault .noSuchUnit
  else
    let mine := arrivals.filter (fun r => decide (r.addr < 4 * regionBytes s.dramCfg) && (dramPlace s.dramCfg r.addr).dch == dch)
    let d := s.dch dch
    let c0 := (d.fabric ++ mine).foldl (fun c r => c.arrive s.dramCfg r) { d with fabric := [] }
    let c1 := if mine.any (fun r => r.cls == 3) then { c0 with woke := s.now } else c0
    if c1.state ≠ 2 ∧ c1.state ≠ 6 ∨ c1.inWindow s.now then .next (s.setDch dch { c1 with cmd := none })
    else
      let c2 := s.cycle c1 timed rfm
      let ranks := max 1 s.dramCfg.2.1
      let idle := (List.range ranks).foldl (fun t r =>
        let busy := decide (0 < c2.rankLoad r) || (match c2.cmd with | some (_, b) => b / 16 == r | none => false)
        tset t r (if busy then 0 else tgetD c2.idle r 0 + 1)) c2.idle
      let event := match c2.cmd with
        | some (3, _) => if c2.run.1 then 0x11 else 0x10
        | some (4, _) => 0x12
        | some (1, _) => 0x13
        | some (2, _) => 0x13
        | some (6, _) => 0x13
        | some (8, _) => 0x13
        | _ => 0
      let s1 := (s.setDch dch { c2 with idle := idle }).perfAdd event dch 1
      .next (if c2.cmd = some (7, 0) then s1.dramBump 8 else s1)

/-! Refresh, debt and temperature (R509–R513) -/

/-- REFRESH_DUE (R509, R510): a refresh of a rank, and of a bank in per-bank mode, falls due: a credit covers it, or it is owed
until a cycle issues it. -/
def execRefreshDue (dch rank bank : Nat) (s : State) : Host.Outcome State Fault Refusal :=
  if 16 ≤ dch ∨ 2 ≤ rank ∨ 16 ≤ bank then .fault .noSuchUnit
  else
    let c := s.dch dch
    let u := s.refreshUnit
    if c.state ≠ 2 ∧ c.state ≠ 6 then .next s
    else if u ≤ c.credit then .next (s.setDch dch { c with credit := c.credit - u })
    else .next (s.setDch dch { c with debt := c.debt + u, owing := c.owing ++ [rank * 16 + bank] })

/-- The board rate (R511). [DEDUCED: log entry 88] -/
def State.boardRate (s : State) : Nat := if s.num 0x1800 9 ≤ s.board then 2 else 1

/-- One step of a channel's rate state, where its readings call for it (R511, R512). [DEDUCED: log entries 88, 89] -/
def State.rateStep (s : State) (k : Nat) : State :=
  let c := s.dch k
  let want := max c.mr4.1 s.boardRate
  if c.state = 6 ∨ c.state = 0 then s
  else if c.m < want then
    let m := 2 * c.m
    let owed := c.debt * m / c.m
    let c1 := { c with m := m, forbid := true, credit := 0, debt := 0, owed := owed, paying := owed / 16,
                       owing := c.owing ++ c.owing,
                       state := if owed = 0 then c.state else 6, paidAt := if owed = 0 then c.paidAt else some s.now }
    let s1 := (s.setDch k c1).dramEvent 3 k m
    if m = 4 then { s1 with od := odSetFlag s1.od 0x1801 3 2 } else s1
  else if want < c.m ∧ s.board < s.num 0x1800 9 - s.num 0x1800 0x0A ∧ c.mr4.1 < c.m ∧ c.mr4.2 < c.m then
    let m := c.m / 2
    (s.setDch k { c with m := m, forbid := m != 1 }).dramEvent 3 k m
  else s

/-- MR4_READ (R511): a channel's MR4 is read; `rate` is the refresh rate that its value reports, 1, 2 or 4.
[DEDUCED: log entry 88] -/
def execMr4Read (dch value rate : Nat) (s : State) : Host.Outcome State Fault Refusal :=
  if 16 ≤ dch then .fault .noSuchUnit
  else
    let c := s.dch dch
    let r := if 4 ≤ rate then 4 else if rate = 2 ∨ rate = 3 then 2 else 1
    let s1 := (s.measure (0x1810 + dch) 2 (value % 256 : Nat) s.now).setDch dch { c with mr4 := (r, c.mr4.1) }
    let s2 := s1.rateStep dch
    .next (if c.m < (s2.dch dch).m ∧ (s2.dch dch).m < r then s2.rateStep dch else s2)

/-- BOARD_TEMPERATURE_CHANGE (R511): the board-temperature input reads a new value. [DESIGN CHOICE: log entry 90] -/
def execBoardTemperatureChange (temp : Int) (s : State) : Host.Outcome State Fault Refusal :=
  .next ((List.range 16).foldl State.rateStep { s with board := temp })

/-- DEBT_PAYMENT_COMPLETE (R511): the last refresh of a restated debt has been issued; a further step may follow. -/
def execDebtPaymentComplete (dch : Nat) (s : State) : Host.Outcome State Fault Refusal :=
  if 16 ≤ dch then .fault .noSuchUnit
  else
    let c := s.dch dch
    if c.state = 6 ∧ c.owed = 0 then
      let s1 := ((s.setDch dch { c with state := 2, paying := 0 }).dramBump 6).dramEvent 4 dch c.paying
      .next (s1.rateStep dch)
    else .next s

/-! Power states (R508, R514, R515) -/

/-- POWER_DOWN_ENTRY (R508): a rank whose queues have been empty and whose banks have been idle for the timer's cycles
enters active power-down. -/
def execPowerDownEntry (dch rank : Nat) (s : State) : Host.Outcome State Fault Refusal :=
  if 16 ≤ dch ∨ 2 ≤ rank then .fault .noSuchUnit
  else
    let c := s.dch dch
    let t := s.nat 0x1800 6
    if c.state = 2 ∧ t ≠ 0 ∧ rank < max 1 s.dramCfg.2.1 ∧ t ≤ tgetD c.idle rank 0 ∧ c.rankLoad rank = 0 ∧
        !c.down.contains rank then .next (s.setDch dch { c with down := c.down ++ [rank] })
    else .next s

/-- The quarters whose memory a scan reads (R19, R610). -/
def Turnstile.quarters (x : Turnstile) (cfg : Nat × Nat × Bool × Nat) : List Nat :=
  let size := max 1 (regionBytes cfg)
  [0, 1, 2, 3].filter (fun q => decide (x.start / size ≤ q) && decide (q * size < x.start + x.length))

/-- A suspended scan of a quarter resumes (R610). -/
def State.resumeScans (s : State) (quarter : Nat) : State :=
  { s with cs := s.cs.map (fun kv =>
      if kv.2.state == 3 && (kv.2.quarters s.dramCfg).contains quarter then (kv.1, { kv.2 with state := 2 }) else kv) }

/-- SELF_REFRESH_WAKE (R515): a class-3 request brings a quarter's channels out of self-refresh. -/
def execSelfRefreshWake (quarter : Nat) (s : State) : Host.Outcome State Fault Refusal :=
  if 4 ≤ quarter then .fault .noSuchUnit
  else
    let ks := [0, 1, 2, 3].map (fun j => 4 * quarter + j)
    if s.mode.resting then
      .next (ks.foldl (fun t k =>
        let c := t.dch k
        if c.state = 4 then t.setDch k { c with state := 2, debt := 0, credit := 0, owing := [], woke := t.now }
        else t) (s.resumeScans quarter))
    else .next s

/-- SELF_REFRESH_REENTRY (R515): a quarter's channels have held no request for 1 ms. -/
def execSelfRefreshReentry (quarter : Nat) (s : State) : Host.Outcome State Fault Refusal :=
  if 4 ≤ quarter then .fault .noSuchUnit
  else
    let ks := [0, 1, 2, 3].map (fun j => 4 * quarter + j)
    let quiet := ks.all (fun k => (s.dch k).load == 0 && decide ((s.dch k).woke + 1000000 ≤ s.now))
    if s.mode.resting && quiet then
      .next (ks.foldl (fun t k =>
        let c := t.dch k
        if c.state = 2 then t.setDch k { c with state := 4, debt := 0, credit := 0, owing := [], down := [] } else t) s)
    else .next s

/-! Training drift (R517, R518) -/

/-- The first slot of channel k at least `lead` ns ahead, with room in its timetable list: a whole millisecond plus
62.5 µs × k (R517, R518). -/
def State.windowSlot (s : State) (k lead : Nat) : Option Nat :=
  let off := 62500 * k
  let t0 := s.now + lead
  let first := if t0 ≤ off then 0 else ceilDiv (t0 - off) 1000000
  ((List.range 64).map (fun j => ((first + j) * 1000000 + off) / 100)).find? (fun d => s.ttRoom 9 d)

/-- A retraining window booked (R517, R518). -/
def State.bookWindow (s : State) (k lead : Nat) : State :=
  match s.windowSlot k lead with
  | some d => (s.ttInsert { due := d, kind := 9, target := k, ref := 0 }).setDch k { s.dch k with window := true }
  | none => s

/-- OSCILLATOR_RUN (R517, R518): the WCK-to-DQ oscillator of a channel out of self-refresh shows a drift in ps. -/
def execOscillatorRun (dch : Nat) (drift : Int) (s : State) : Host.Outcome State Fault Refusal :=
  if 16 ≤ dch then .fault .noSuchUnit
  else
    let c := s.dch dch
    let th := s.nat 0x1800 0x0B
    if c.state = 0 ∨ c.state = 4 ∨ c.state = 7 then .next s
    else
      let s1 := s.measure (0x1810 + dch) 3 (clampInt (-32768) 32767 drift) s.now
      let s2 := if th ≤ drift.natAbs ∧ c.window = false then s1.bookWindow dch 100000 else s1
      .next (if 2 * th ≤ drift.natAbs then ({ s2 with od := odSetFlag s2.od 0x1801 3 1 }).dramEvent 7 dch 0 else s2)

/-- A retraining window comes due (R517, R518): run, or abandoned and booked at the next slot during a debt payment or
within 100 µs after one began. -/
def State.runWindow (s : State) (k : Nat) : State :=
  let c := s.dch k
  let soon : Bool := match c.paidAt with | some t => decide (s.now < t + 100000) | none => false
  if c.state == 0 || c.state == 4 || c.state == 7 then s.setDch k { c with window := false }
  else if c.state == 6 || soon then
    (((s.setDch k { c with window := false }).dramBump 9).dramEvent 6 k 0).bookWindow k 100
  else ((s.setDch k { c with window := false, winAt := some s.now }).dramBump 7).dramEvent 5 k 0

/-- DRAM_RETRAINING_WINDOW (R284, R517): the booked entry of kind 0x09 of a channel is due. -/
def execDramRetrainingWindow (dch : Nat) (s : State) : Host.Outcome State Fault Refusal :=
  if 16 ≤ dch then .fault .noSuchUnit
  else
    let mine := fun (e : TtEntry) => e.kind == 9 && e.target == dch && decide (e.due ≤ s.tick)
    if (s.ttl 2).any mine then .next ((s.ttRemove mine).runWindow dch) else .next s

/-! Errors (R503) -/

/-- DRAM_ECC_ERROR (R34, R503): with inline ECC, a single-bit error is corrected, counted and recorded; a double-bit error
or a failed address check takes the device to SAFE. -/
def execDramEccError (addr : Nat) (double : Bool) (s : State) : Host.Outcome State Fault Refusal :=
  if 4 * regionBytes s.dramCfg ≤ addr then .fault .noSuchUnit
  else if !s.dramCfg.2.2.1 then .next s
  else
    let d := (dramPlace s.dramCfg addr).dch
    if double then .next (((s.log 9 d 0xFF [addr]).dramEvent 2 d addr).enterSafe 0x0B 1)
    else .next (((s.dramBump 5).log 8 d 0xFF [addr]).dramEvent 1 d addr)

end Sys2Proof.Machine
end

