-- ==== Sys2Proof/Machine/Decoder.lean ====
section
/-! DEFINITION. Decoder.lean: input streams, decoding, presentation, and confidence (R292–R320). -/

namespace Sys2Proof.Machine

/-- Channel n's decoder. -/
def State.dc (s : State) (n : Nat) : Decoder := tgetD s.dec n {}
/-- The machine with channel n's decoder changed. -/
def State.setDc (s : State) (n : Nat) (d : Decoder) : State := { s with dec := tset s.dec n d }
/-- A counter of OD 0x4078 (R320). -/
def State.decBump (s : State) (n j by_ : Nat) : State := s.chBump n 0x78 j 0x78 0x0E by_
/-- A counter of OD 0x4079 (R320). -/
def State.confBump (s : State) (n j : Nat) : State := s.chBump n 0x79 j 0x79 9 1

/-! The input stream (R301, R302) -/

/-- Packets that follow the last one taken, taken in order. -/
def Decoder.drain (d : Decoder) : Nat → Decoder
  | 0 => d
  | fuel + 1 =>
    match d.next with
    | none => d
    | some k =>
      match tget d.ahead k with
      | none => d
      | some p => Decoder.drain { d with next := some ((k + 1) % 65536), ahead := tdel d.ahead k, stream := d.stream ++ p.2 } fuel

/-- A packet merged by its sequence number (R302): taken from whichever path delivers it first; a second copy and one
already given up are dropped. -/
def Decoder.merge (d : Decoder) (seq now : Nat) (data : List Byte) : Decoder × Bool :=
  match d.next with
  | none => ({ d with next := some ((seq + 1) % 65536), stream := d.stream ++ data }, true)
  | some k =>
    let ahead := (seq + 65536 - k) % 65536
    if 32768 ≤ ahead ∨ (tget d.ahead seq).isSome then (d, false)
    else ({ d with ahead := tset d.ahead seq (now, data) }.drain (d.ahead.length + 1), true)

/-- A datagram belongs to a path of channel n (R301, R302, R320): its NET port, destination, source filter and, in an RTP
encapsulation, payload type. It is no fragment. -/
def State.pathTakes (s : State) (n path : Nat) (d : Datagram) (payload : Nat) : Bool :=
  let i := chI n (0x71 + path)
  let enc := s.nat (chI n 0x70) 4
  let filter := s.nat i 4
  s.flag i 1 && s.linkUp d.net && !d.frag && d.dstIp == s.nat i 2 && d.dstPort == s.nat i 3 && (filter == 0 || d.srcIp == filter) &&
    d.net == s.nat i 5 && (enc != 0 || payload == s.nat (chI n 0x70) 9) && (enc != 2 || payload == 33)

/-- INPUT_PACKET_RECEIVED (R301, R302): a datagram for a channel's input stream comes on path A (0) or B (1); one that the path's
settings do not name is no packet of the stream. -/
def execInputPacketReceived (chan path : Nat) (p : InPacket) (data : List Byte) (s : State) : Host.Outcome State Fault Refusal :=
  if 128 ≤ chan ∨ 2 ≤ path ∨ 65536 ≤ p.seq then .fault .noSuchUnit
  else .next (s.onStarting chan (fun (u : State) =>
    let enc := u.nat (chI chan 0x70) 4
    let u := if u.linkUp p.source.net then u.netRx p.source.net else u
    let live := ((u.ch chan).running || (u.ch chan).starting.isSome) && decide (u.source chan ≤ 4)
    if !live || !u.pathTakes chan path p.source p.payload || decide (3 ≤ enc) then u
    else if enc = 1 then u.setDc chan { u.dc chan with stream := (u.dc chan).stream ++ data }
    else
      let m := (u.dc chan).merge p.seq u.now data
      let u1 := u.setDc chan m.1
      if m.2 ∧ path = 1 then u1.decBump chan 0x0B 1 else u1))

/-- INPUT_PACKET_LOST (R302): the packet expected next has not come on either path within the differential limit after
its successor. -/
def execInputPacketLost (chan seq : Nat) (s : State) : Host.Outcome State Fault Refusal :=
  if 128 ≤ chan ∨ 65536 ≤ seq then .fault .noSuchUnit
  else .next (s.onStarting chan (fun (u : State) =>
    let d := u.dc chan
    let limit := if u.flag (chI chan 0x72) 1 then u.nat (chI chan 0x72) 6 * 1000 else 0
    if d.next = some seq ∧ d.ahead.any (fun p => decide (p.2.1 + limit ≤ u.now)) then
      (u.setDc chan ({ d with next := some ((seq + 1) % 65536) }.drain d.ahead.length)).decBump chan 0x0A 1
    else u))

/-! Decoding (R303–R315) -/

/-- A plane with a concealed block copied from the latest picture's plane (R311): `sx` and `sy` are the plane's
subsampling, the vector is rounded toward zero to whole samples, and reads beyond the edge are clamped. -/
def concealPlane (k : Concealed) (sx sy : Nat) (from_ to_ : List (List Nat)) : List (List Nat) :=
  let dx := k.vx.tdiv (16 * sx : Nat)
  let dy := k.vy.tdiv (16 * sy : Nat)
  let h := from_.length
  (to_.zip (List.range to_.length)).map (fun ly =>
    if k.y / sy ≤ ly.2 ∧ ly.2 < (k.y + k.h) / sy then
      let src := from_.getD (clampInt 0 ((h : Int) - 1) ((ly.2 : Int) + dy)).toNat []
      (ly.1.zip (List.range ly.1.length)).map (fun vx =>
        if k.x / sx ≤ vx.2 ∧ vx.2 < (k.x + k.w) / sx then
          src.getD (clampInt 0 ((src.length : Int) - 1) ((vx.2 : Int) + dx)).toNat vx.1
        else vx.1)
    else ly.1)

/-- The concealed blocks of an access unit; those of a JPEG XS picture have the zero vector (R318). -/
def AccessUnit_blocks (au : AccessUnit) (jxs : Bool) : List Concealed :=
  if jxs then au.concealed.map (fun k => { k with vx := 0, vy := 0 }) else au.concealed

/-- The decoded planes with every concealed block filled (R311). [DEDUCED: log entry 77] -/
def concealed (au : AccessUnit) (latest : List (List (List Nat))) : List (List (List Nat)) :=
  let sub := au.fmt.getD 1 0
  let sx := if sub = 0 then 1 else 2
  let sy := if sub = 2 then 2 else 1
  if latest = [] then au.planes
  else au.concealed.foldl (fun ps k =>
    (ps.zip (List.range ps.length)).map (fun pc =>
      if pc.2 = 0 then concealPlane k 1 1 (latest.getD 0 []) pc.1
      else concealPlane k sx sy (latest.getD pc.2 []) pc.1)) au.planes

/-- The presentation time of an access unit (R306). -/
def Decoder.presents (d : Decoder) (ts bits_ : Nat) : Int :=
  let m := 2 ^ bits_
  let u := (ts + m - d.ts0 % m) % m
  let diff : Int := if m / 2 ≤ u then (u : Int) - m else u
  (d.anchor : Int) + diff * 100000 / 9

/-- The slot into whose window a presentation time falls (R307). [DEDUCED: log entry 77] -/
def State.slotOf (s : State) (n : Nat) (t : Int) : Option Nat :=
  let c := s.ch n
  let w : Int := s.lockIn n
  let k0 := (((Frac.ofInt (t - c.origin)).div c.period).floor).toNat
  [k0, k0 + 1].find? (fun k => decide (((c.expected k : Nat) : Int) ≤ t + w) && decide (t ≤ (c.expected k : Nat) + w))

/-- Whether a slot has already passed: the boundary of its picture, or of a later one, has been taken. -/
def Chan.passed (c : Chan) (k : Nat) (now : Nat) : Bool :=
  if c.running then decide (k ≤ c.epoch) else decide (c.expected k < now)

/-- A decoded picture sent to its slot (R307). -/
def State.toSlot (s : State) (n : Nat) (t : Int) (p : Pict) : State :=
  let d := s.dc n
  match s.slotOf n t with
  | some k =>
    let full := d.waiting.any (fun q => s.slotOf n (q.t : Nat) == some k)
    if (s.ch n).passed k s.now || full then (s.setDc n { d with astray := false }).decBump n 6 1
    else s.setDc n { d with astray := false, waiting := d.waiting ++ [p] }
  | none =>
    let s1 := (s.setDc n { d with astray := true }).decBump n 6 1
    let s2 := s1.chBump n 8 0x0B 8 9 1
    s2.event 9 s.now (chanRec 9 n 6 (s.ch n).epoch 0xFFFF 0)

/-- An access unit decoded (R303–R314). [DEDUCED: log entry 77] -/
def State.decodeUnit (s : State) (n : Nat) (au : AccessUnit) : State :=
  let d := s.dc n
  let jxs := s.source n == 4
  let g := s.cfg n
  let ep := (s.ch n).epoch
  let drop := s.setDc n { d with stream := [] }
  if !d.started && au.rap == 0 && !jxs then drop
  else if d.first && au.rasl then drop
  else if s.nat (chI n 0x70) 3 < au.level ∨ au.w ≠ g.w ∨ au.h ≠ g.h ∨ au.fmt ≠ g.fmt then
    (drop.decBump n 7 1).event 9 s.now (chanRec 9 n 5 ep 0xFFFF 0)
  else
    let starts := !d.started
    let anchor := au.arrival + s.nat (chI n 0x70) 6 * 1000
    let d1 := if starts then { d with started := true, ts0 := au.ts, anchor := anchor, first := true }
      else if au.rap ≠ 0 then { d with first := false } else d
    let ctus := au.concealed.length
    let damage := decide (0 < ctus) || decide (0 < au.refs) || au.hashBad
    let begun := damage || (starts && au.rap == 2 && !jxs)
    let recov := match au.recovery with | some r => some r | none => d1.recovery
    let need := match recov with | some r => r + 1 | none => s.nat (chI n 0x70) 7
    let ends := d1.marked && !begun && (au.rap == 1 || decide (need ≤ d1.clean + 1))
    let marked := if jxs then false else if begun then true else d1.marked && !ends
    let planes := concealed { au with concealed := AccessUnit_blocks au jxs } d1.latest
    let bits_ := let e := s.nat (chI n 0x70) 4; if e == 1 || e == 2 then 33 else 32
    let d2 := { d1 with stream := [], recovery := recov, marked := marked,
                        clean := if begun ∨ !marked then 0 else d1.clean + 1, latest := planes }
    let s0 := s.setDc n d2
    let s1 := if starts then (s0.put (chI n 0x78) 1 2).setCh n
        { s0.ch n with origin := if (s0.ch n).running then (s0.ch n).origin else anchor } else s0
    let s2 := (s1.decBump n 3 1).snoop 2 n (s1.nat (chI n 0x78) 3) (au.rap != 0)
    let s3 := let k := b2n (decide (0 < ctus)) + b2n au.hashBad
      if k = 0 then s2 else s2.decBump n 7 k
    let s4 := if ctus = 0 then s3 else
      let k := au.concealed.headD ⟨0, 0, 1, 1, 0, 0⟩
      (s3.decBump n 8 ctus).event 9 s.now (chanRec 9 n 1 ep (k.y / max 1 k.h) ctus)
    let s5 := if au.refs = 0 then s4 else
      (s4.decBump n 9 au.refs).event 9 s.now (chanRec 9 n 2 ep 0xFFFF au.refs)
    let s6 := if au.rap = 0 then s5 else s5.measure (chI n 0x78) 0x0D ((au.profile % 256 * 256 + au.level % 256 : Nat) : Int) s.now
    let t := d2.presents au.ts bits_
    s6.toSlot n t { t := t.toNat, done := s.now, marked := if jxs then damage else begun || marked, planes := planes }

/-- ACCESS_UNIT_DECODED (R303–R314, R318): a channel's decoder has an access unit. A Belvedere decodes it; a JPEG XS
picture goes to a decode-assist coach of the channel's quarter, in a stall of the device pool. [DEDUCED: log entry 77] -/
def execAccessUnitDecoded (chan : Nat) (au : AccessUnit) (s : State) : Host.Outcome State Fault Refusal :=
  if 128 ≤ chan then .fault .noSuchUnit
  else .next (s.onStarting chan (fun (u : State) =>
    let c := u.ch chan
    if !(c.running || c.starting.isSome) || decide (5 ≤ u.source chan) then u
    else if u.source chan ≠ 4 then u.decodeUnit chan au
    else if 2048 ≤ (u.mews.stalls.filter (fun kv => decide (6 ≤ kv.2.kind))).length then u
    else
      let k := leastFree u.mews.stalls 0
      let u1 := u.addStall { state := 3, kind := 6, opmask := 1, list := 5, chan := chan, readyAt := u.now,
                             quarter := (u.quartersOf chan).headD 0, epoch := c.epoch, depart := u.now }
      u1.setDc chan { u1.dc chan with assist := tset (u1.dc chan).assist k au }))

/-- DECODE_ASSIST_COMPLETE (R262, R318): a decode-assist coach has decoded its JPEG XS picture; its stall and its
Pavilion are freed. -/
def execDecodeAssistComplete (stall : Nat) (s : State) : Host.Outcome State Fault Refusal :=
  if 49152 ≤ stall then .fault .noSuchUnit
  else match s.stall stall with
    | none => .next s
    | some x =>
      if x.kind = 6 ∧ x.state = 4 then
        let s1 := (s.freeStall stall).setPav x.pav { s.pav x.pav with busy := none }
        let d := s1.dc x.chan
        match tget d.assist stall with
        | none => .next s1
        | some au => .next ((s1.setDc x.chan { d with assist := tdel d.assist stall }).decodeUnit x.chan au)
      else .next s

/-! Presentation (R306–R309, R313, R317) -/

/-- The boundary that a decoder-fed channel reaches next (R307, R672): its number and its expected instant; a starting
channel's first is the first at or after its target. -/
def State.decBoundary (s : State) (n : Nat) : Option (Nat × Nat) :=
  let c := s.ch n
  if c.running then some c.nextBoundary
  else match c.starting with
    | none => none
    | some t => if (s.dc n).started then let k := c.boundaryAt t 0; some (k, c.expected k) else none

/-- The boundary of a decoder-fed channel with the picture that fills its slot, or without one (R307). -/
def State.present (s : State) (n : Nat) (b : Nat × Nat) : State :=
  let d := s.dc n
  let w := s.lockIn n
  let pick := d.waiting.find? (fun p => decide (b.2 ≤ p.t + w) && decide (p.t ≤ b.2 + w) && decide (p.done ≤ b.2))
  let rest := d.waiting.filter (fun p => decide (b.2 + w < p.t))
  let s0 := s.setDc n { d with waiting := rest }
  let s1 := if (s.ch n).running then s0.boundary n b.1 b.2 b.2 pick.isNone else s0.firstBoundary n b.2 pick.isNone
  match pick with
  | none =>
    let s2 := (s1.decBump n 5 1).put (chI n 0x78) 2 0
    s2.chEvent 9 n 3 0xFFFF 0
  | some p =>
    let g := s1.cfg n
    let c := s1.ch n
    let sub := g.fmt.getD 1 0
    let plane := fun (k y : Nat) => (p.planes.getD k []).getD (if k ≠ 0 ∧ sub = 2 then y / 2 else y) []
    let lines := (List.range g.h).map (fun y => (y, lineOrder sub y [plane 0 y, plane 1 y, plane 2 y]))
    let marks := if p.marked then tset c.marks c.epoch (setBit (tgetD c.marks c.epoch 0) 3) else c.marks
    let s2 := if c.running then s1.setCh n { c with lines := lines, have_ := (List.range g.h).map (fun y => (y, 1)), marks := marks }
      else s1
    let margin : Int := (b.2 : Int) - p.done
    let least := match d.margin with | some m => min m margin | none => margin
    let s3 := (s2.decBump n 4 1).put (chI n 0x78) 2 (b2n p.marked)
    let s4 := (s3.measure (chI n 0x78) 0x0C (least / 1000) s.now).setDc n { s3.dc n with margin := some least, shown := p.marked }
    if d.shown && !p.marked then s4.chEvent 9 n 4 0xFFFF 0 else s4

/-- DECODED_PICTURE_PRESENTED (R307): the expected boundary of a decoder-fed channel has come. -/
def execDecodedPicturePresented (chan : Nat) (s : State) : Host.Outcome State Fault Refusal :=
  if 128 ≤ chan then .fault .noSuchUnit
  else .next (s.onStarting chan (fun (u : State) =>
    match u.decBoundary chan with
    | none => u
    | some b => if u.source chan ≤ 4 ∧ b.2 ≤ u.now then u.present chan b else u))

/-! Confidence (R295–R299) -/

/-- Whether the picture of an epoch is checked (R294, R295): by the settings with which it is coded, and only one that the channel
coded; the output policies' pictures are not. -/
def State.checkedAt (s : State) (n e : Nat) : Bool :=
  let od := s.odAt n e
  let coded := match (s.ch n).policy with | some p => decide (e < p) | none => true
  s.mode.media && s.chanMode n != .decode && coded && (match odNat od (chI n 0x73) 1 with
    | 0 => false
    | 2 => e % max 1 (odNat od (chI n 0x73) 2) == 0
    | _ => true)
/-- The pictures whose rows may still be compared, oldest first: results come within R298's time, and are not waited for.
[DESIGN CHOICE: log entry 111] -/
def State.toCheck (s : State) (n : Nat) : List Nat :=
  let c := s.ch n
  (upFrom (max (s.dc n).confEpoch (c.depE - 4)) (c.depE + 1)).filter (s.checkedAt n)
/-- The luma columns of the coded picture that this device codes. -/
def State.codedColsAt (s : State) (n e : Nat) : Nat × Nat := (s.cfgAt n e).codedCols (s.ownTilesAt n e)
/-- The row check value of a departure row, from the encoder's reconstruction (R296). -/
def State.rowCheck (s : State) (n e d : Nat) : Nat :=
  let g := s.cfgAt n e
  let c := s.ch n
  let own := s.ownTilesAt n e
  let cols := s.codedColsAt n e
  let y0 := d * g.perRow * g.ctu
  let y1 := min g.chh ((d + 1) * g.perRow * g.ctu)
  crc32c ((List.range 3).flatMap (fun p =>
    let v := g.planeDiv p
    (upFrom (y0 / v.2) (y1 / v.2)).flatMap (fun (y : Nat) => (upFrom (cols.1 / v.1) (cols.2 / v.1)).flatMap (fun (x : Nat) =>
      leBytes 2 (c.reconAt g own e p (fun _ _ _ => 0) x y)))))

/-- The end of a checked picture (R297, R299). -/
def State.confPicture (s : State) (n e : Nat) (bad hashOk : Bool) : State :=
  let s1 := s.confBump n 1
  let s2 := if hashOk then s1 else
    ((s1.confBump n 4).log 0x20 0xFFFF n [e, 0xFFFF]).event 8 s.now (chanRec 8 n 2 e 0xFFFF 0)
  if bad || !hashOk then
    let s3 := (s2.confBump n 3).put (chI n 0x79) 5 e
    let run := min 65535 (s3.nat (chI n 0x79) 6 + 1)
    let s4 := s3.put (chI n 0x79) 6 run
    let s5 := if run = s4.nat (chI n 0x73) 3 then
      (s4.put (chI n 0x79) 7 1).event 8 s.now (chanRec 8 n 3 e 0xFFFF 0) else s4
    if s5.pair.state = 3 then s5.rejoin n e else s5
  else s2.put (chI n 0x79) 6 0

/-- CONFIDENCE_ROW_RESULT (R295–R299): the Belvedere's check value `decoded` of the next departure row of the picture checked, that
of epoch count `epoch`, comes once that row has left, and is compared with the encoder's; `hashOk` tells, at the last row, whether the picture hash, where the
stream carries one, agrees. [DESIGN CHOICE: log entry 111] -/
def execConfidenceRowResult (chan epoch row decoded : Nat) (hashOk : Bool) (s : State) : Host.Outcome State Fault Refusal :=
  if 128 ≤ chan then .fault .noSuchUnit
  else
    let d := s.dc chan
    let c := s.ch chan
    match s.toCheck chan with
    | [] => .next s
    | e :: _ =>
      let g := s.cfgAt chan e
      let at_ := if e = d.confEpoch then d.confRow else 0
      let gone := decide (e < c.depE) || (e == c.depE && decide (row < c.depRow))
      if e ≠ epoch ∨ row ≠ at_ ∨ g.drows ≤ row ∨ !gone then .next s
      else
        let miss := decoded != s.rowCheck chan e row
        let bad := (at_ != 0 && d.confBad) || miss
        let last := decide (g.drows ≤ row + 1)
        let kind := tgetD c.kinds e 1
        let s1 := if miss then
          ((s.confBump chan 2).log 0x20 0xFFFF chan [e, row]).event 8 s.now (chanRec 8 chan 1 e (row * g.perRow) 1) else s
        let s2 := s1.setDc chan { d with confEpoch := if last then e + 1 else e, confRow := if last then 0 else row + 1,
                                         confBad := !last && bad }
        .next (if last then s2.confPicture chan e bad (hashOk || !g.carries .hash (bit kind 0) (kind / 2)) else s2)

/-! Demand (R522) -/

/-- The instant at which the result for a departure row must be known (R298): d_r + 3·S_d + max(0, D − L) lines. -/
def State.checkBy (s : State) (n e r : Nat) : Nat :=
  let g := s.cfgAt n e
  let l := s.departL n
  let late := g.d.sub (Frac.ofInt l)
  let wait := (g.sd.mul (Frac.ofInt 3)).add (if late.num < 0 then Frac.ofInt 0 else late)
  tgetD (s.ch n).stamps e 0 + (g.ns ((g.departs r l).add wait)).floor.toNat

/-- The rows of checked pictures whose results are overdue, oldest first. -/
def State.overdue (s : State) (n : Nat) : List (Nat × Nat) :=
  ((s.toCheck n).flatMap (fun e =>
    let from_ := if e = (s.dc n).confEpoch then (s.dc n).confRow else 0
    (upFrom from_ (s.cfgAt n e).drows).map (fun r => (e, r)))).filter (fun x => decide (s.checkBy n x.1 x.2 < s.now))

/-- Row checks of a channel that cannot finish in time are skipped, counted and left unchecked (R522). [DEDUCED: log entry 77] -/
def State.skipChecks (s : State) (n : Nat) : State :=
  (s.overdue n).foldl (fun (t : State) x =>
    let last := decide ((t.cfgAt n x.1).drows ≤ x.2 + 1)
    let d := t.dc n
    (t.dramBump 10).setDc n { d with confEpoch := if last then x.1 + 1 else x.1, confRow := if last then 0 else x.2 + 1,
                                     confBad := !last && d.confEpoch == x.1 && d.confBad }) s

/-- The admission limit of a quarter in MB/s, times 100 (R521). -/
def State.demandLimit (s : State) : Nat := (if s.flag 0x1800 5 then 84 else 90) * 68260

/-- DEMAND_MEASUREMENT (R522): each quarter's demand over 1 ms, MB/s. In a quarter whose demand is above its limit the row checks that
cannot finish in time are skipped. -/
def execDemandMeasurement (demand : List Nat) (s : State) : Host.Outcome State Fault Refusal :=
  if demand.length ≠ 4 then .fault .noSuchUnit
  else
    .next ((demand.zip [0, 1, 2, 3]).foldl (fun t dq =>
      let t0 := t.raise 0x1802 (5 + dq.2) (dq.1 : Nat)
      let t1 : State := { t0 with meas := tset t0.meas (okey 0x1802 (5 + dq.2)) s.now }
      if s.demandLimit < dq.1 * 100 then ((channels.filter (fun n => (t1.ch n).stripes.contains dq.2)).foldl State.skipChecks
        { t1 with od := odSetFlag t1.od 0x1801 3 0 }).dramEvent 8 (0x20 + dq.2) dq.1 else t1) s)

end Sys2Proof.Machine
end

