-- ==== Sys2Proof/Machine/Values.lean ====
section
/-! DEFINITION. Values.lean: the values that objects take: their bytes (R90), and the length, type, range and zero checks
made when one is written or staged (R49, R91, R132). -/

namespace Sys2Proof.Machine

/-- The signed number that little-endian bytes spell (R90). -/
def leSigned (b : List Byte) : Int :=
  let v := leNat b
  if v < 256 ^ b.length / 2 then v else (v : Int) - (256 ^ b.length : Nat)

/-- The bytes of a value of an object (R90). -/
def OdRow.bytes (r : OdRow) : Val → List Byte
  | .num v => if r.ty = 11 then time80 v.toNat else leInt r.size v
  | .oct b => b

/-- A number type: everything but STRING, OCTETS and DOMAIN (R90). -/
def OdRow.numeric (r : OdRow) : Bool := decide (r.ty ≤ 11)

/-- The value that an entry of `len` bytes brings to an object (R90). -/
def OdRow.value (r : OdRow) (len : Nat) : Val → Val
  | .num v => if r.numeric then .num v else .oct (leInt len v)
  | .oct b =>
    if !r.numeric then .oct b
    else if r.ty = 11 then .num (ofTime80 b : Nat)
    else if 6 ≤ r.ty then .num (leSigned b)
    else .num (leNat b : Nat)

/-- The length check of R91: a fixed size, or at most the size of a STRING; a DOMAIN moves only by block transfer.
[DEDUCED: log entry 16] -/
def OdRow.lenOk (r : OdRow) (len : Nat) (v : Val) : Bool :=
  let bytes : Bool := match v with
    | .oct b => b.length == len
    | .num _ => true
  bytes && (if r.ty = 12 then decide (len ≤ 255) else r.ty != 14 && len == r.size)

/-- A TIME80's nanoseconds field is in range (R91). -/
def time80Ok (r : OdRow) : Val → Bool
  | .oct b => r.ty != 11 || decide (leNat ((b.drop 6).take 4) ≤ 999999999)
  | .num _ => true

/-- One equalisation table (R415). -/
def eqTableOk (t : List Byte) : Bool :=
  let lane := fun (j : Nat) =>
    let e := (t.drop (16 + 8 * j)).take 8
    let n := fun (i : Nat) => (e.getD i 0).toNat
    let i8 := fun (i : Nat) => leSigned [e.getD i 0]
    decide (-15 ≤ i8 0) && decide (i8 0 ≤ 0) && decide (16 ≤ n 1) && decide (n 1 ≤ 63) && decide (-31 ≤ i8 2) &&
      decide (i8 2 ≤ 0) && decide (n 3 ≤ 15) && decide (n 4 ≤ 31) && decide (n 5 ≤ 1) && decide (n 6 ≤ 3) && n 7 == 0
  t.length == 400 && t.getD 0 0 == 1 && decide ((t.getD 1 0).toNat ≤ 7) && ((t.drop 4).take 8).all (· == 0) &&
    leNat ((t.drop 12).take 4) == crc32c (t.drop 16) && (List.range 48).all lane
/-- OD 0x1960.02: the eight equalisation tables (R415). -/
def eqTablesOk (b : List Byte) : Bool :=
  b.length == 3200 && (List.range 8).all (fun k =>
    let t := (b.drop (400 * k)).take 400
    eqTableOk t)

/-- A credential record as R578 lays it out. -/
def credOk (b : List Byte) : Bool :=
  decide ((b.getD 0 0).toNat ≤ 2) && decide ((b.getD 1 0).toNat ≤ 1) && ((b.drop 2).take 6).all (· == 0)

/-- The content that bytes of an object must have when they are written. -/
def bytesOk (i j : Nat) (b : List Byte) : Bool :=
  match baseIdx i, j with
  | 0x1960, 2 => b.isEmpty || eqTablesOk b
  | 0x1F20, _ => credOk b
  | _, _ => true

/-- The zero and range checks of an object's value (R49, R91, R132), zero first. [DEDUCED: log entries 18, 19] -/
def valueCode (i j : Nat) (r : OdRow) (v : Val) : Code :=
  match v with
  | .num n =>
    if r.zk = 2 ∧ n = 0 then .zero
    else if n < r.mn ∨ r.mx < n ∨ !odExtra i j n then .range
    else .ok
  | .oct b => if bytesOk i j b then .ok else .range

/-- Whether a value lies in an object's present range (R97). [DEDUCED: log entry 19] -/
def inRange (i j : Nat) (v : Val) : Bool :=
  match odRow i j with
  | some r => r.pers == 1 && valueCode i j r v == .ok
  | none => false

/-! Host credentials (R578) -/

/-- A credential record enabled for Service (R578). -/
def credService (b : List Byte) : Bool := b.getD 0 0 == 2 && bit (b.getD 1 0).toNat 0
/-- Whether some credential is enabled for Service, taking writes not yet in force into account (R578). -/
def anyService (od w : Tab Val) : Bool :=
  (List.range 16).any (fun k => credService (match tget w (okey 0x1F20 (k + 1)) with
    | some v => valBytes v
    | none => odBytes od 0x1F20 (k + 1)))

/-! Objects that a cluster or a pair holds in common (R449, R450, R494) -/

/-- A cluster-wide object outside the channels and flows (R450). [DEDUCED: log entry 94] -/
def clusterWideKey (k : Nat) : Bool :=
  let i := k / 256
  let j := k % 256
  (i == 0x1001 && (j == 2 || j == 3)) || i == 0x1200 || i == 0x1210 || (decide (0x1300 ≤ i) && decide (i < 0x1500))

/-- A pair-shared object (R494). [DEDUCED: log entry 94] -/
def pairSharedKey (k : Nat) : Bool :=
  let i := k / 256
  let j := k % 256
  if i = 0x1001 then j == 2 || j == 3
  else if i = 0x1002 then true
  else if 0x1B00 ≤ i ∧ i < 0x1C00 then true
  else if 0x3000 ≤ i ∧ i < 0x4000 then
    i % 4 != 0 || !([5, 6, 7, 9, 10, 11, 12, 13, 14, 15].contains j)
  else if 0x4000 ≤ i ∧ i < 0x8000 then
    let o := (i - 0x4000) % 0x80
    !(o == 0x0A || o == 0x71 || o == 0x72 || o == 0x73)
  else false

/-- The keys of the settings that a test selects, in index order (R449). [DEDUCED: log entry 94] -/
def settingKeys (sel : Nat → Bool) : List Nat :=
  (List.range 32768).flatMap (fun i =>
    ((odChapter (baseIdx i)).filter (fun r => r.idx == baseIdx i && (r.acc == 1 || r.acc == 4))).flatMap (fun r =>
      ((List.range (r.hi + 1 - r.lo)).map (fun j => okey i (r.lo + j))).filter sel))

/-- The SHAKE256 of the values in force of the settings that a test selects (R449). [DESIGN CHOICE: log entry 31] -/
def settingsDigest (od : Tab Val) (sel : Nat → Bool) : List Byte :=
  Config.shake256 32 ((settingKeys sel).flatMap (fun k => match odRow (k / 256) (k % 256) with
    | some r => r.bytes (odGet od (k / 256) (k % 256))
    | none => []))

/-- OD 0x1300.05 (R449, R466). [DESIGN CHOICE: log entry 31] -/
def State.clusterDigest (s : State) : List Byte :=
  settingsDigest s.od (fun k => clusterWideKey k || decide (0x300000 ≤ k))
/-- OD 0x1401.03 (R487, R495). [DESIGN CHOICE: log entry 31] -/
def State.pairDigest (s : State) : List Byte := settingsDigest s.od pairSharedKey

end Sys2Proof.Machine
end

