-- ==== Sys2Proof/Machine/Cluster.lean ====
section
/-! DEFINITION. Cluster.lean: links, topology, routes, joining, time, heartbeats and span groups (R437, R443–R467). -/

namespace Sys2Proof.Machine

/-! Nodes and topology (R446, R467) -/

/-- One byte of a topology record. -/
def State.topoByte (s : State) (k j : Nat) : Nat := topoAt (odBytes s.od 0x1302 0) k j
/-- The parent of a node; none for the manager or an absent node. -/
def State.parentOf (s : State) (k : Nat) : Option Nat := let p := s.topoByte k 0; if p = 255 then none else some p
/-- The children of a node. -/
def State.childrenOf (s : State) (k : Nat) : List Nat := (List.range 16).filter (fun j => s.parentOf j == some k)
/-- A node's subtree, itself included: at most two levels below the manager (R444). -/
def State.subtree (s : State) (k : Nat) : List Nat :=
  k :: (s.childrenOf k) ++ (s.childrenOf k).flatMap s.childrenOf
/-- The topology with one record replaced. -/
def topoPut (t : List Byte) (k : Nat) (r : List Byte) : List Byte :=
  let full := (t ++ List.replicate 128 (255 : Byte)).take 128
  full.take (8 * k) ++ r ++ full.drop (8 * k + 8)

/-- Node k as known here. -/
def State.nd (s : State) (k : Nat) : Node := tgetD s.cluster.nodes k {}
/-- OD 0x1301.(k + 1) (R467). -/
def State.nodeWord (s : State) (k : Nat) (x : Node) : Nat :=
  let off := clampInt (-2047) 2047 x.offset
  let parent := if s.topoByte k 0 = 255 then 0 else s.topoByte k 0
  let depth := if s.topoByte k 1 = 255 then 0 else s.topoByte k 1
  x.state * 268435456 + x.reason * 16777216 + parent % 16 * 1048576 + x.mode % 16 * 65536 + depth % 4 * 16384 +
    (off % 4096).toNat
/-- The machine with node k changed, and its status word. -/
def State.setNd (s : State) (k : Nat) (x : Node) : State :=
  ({ s with cluster := { s.cluster with nodes := tset s.cluster.nodes k x } }).put 0x1301 (k + 1) (s.nodeWord k x)
/-- The members (R466). -/
def State.members (s : State) : List Nat := bits (s.nat 0x1300 2) 16
/-- An event of class 0x0E (R455). -/
def State.clusterEvent (s : State) (what node reason value : Nat) : State :=
  s.event 14 s.now (leBytes 1 14 ++ leBytes 1 what ++ leBytes 1 node ++ leBytes 1 reason ++ leBytes 4 (stamp32 s.now) ++
    leBytes 8 value)

/-! Routing (R445) -/

/-- The port of the pair link (R469): a manager's or a solo device's. -/
def State.pairPort (s : State) : Option Nat :=
  if s.flag 0x1400 1 && s.cluster.role != 2 then some (s.nat 0x1400 2) else none
/-- The path of the pair link is up (R469, R475): the pair port, or at a worker the way to its manager. -/
def State.pairPath (s : State) : Bool :=
  if s.cluster.role = 2 then [0, 1, 2, 3].any (fun p => s.cwUp p && (s.cwAt p).far.isSome) else s.cwUp (s.nat 0x1400 2)
/-- The port whose far side is a node, if one is up. -/
def State.portTo (s : State) (k : Nat) : Option Nat :=
  [0, 1, 2, 3].find? (fun p => s.cwUp p && (s.cwAt p).far.map Prod.fst == some k && s.pairPort != some p)
/-- The port toward the parent. -/
def State.upPort (s : State) : Option Nat := (s.parentOf s.node).bind s.portTo
/-- The port on which a frame for a node leaves: the direct link, the child whose subtree holds it, or the parent. -/
def State.route (s : State) (dst : Nat) : Option Nat :=
  match s.portTo dst with
  | some p => some p
  | none =>
    match (s.childrenOf s.node).find? (fun c => (s.subtree c).contains dst) with
    | some c => s.portTo c
    | none => s.upPort
/-- Hops of the route to a node (R445). -/
def State.hopsTo (s : State) (dst : Nat) : Nat :=
  if (s.portTo dst).isSome then 1
  else
    let d := if s.topoByte dst 1 = 255 then 1 else s.topoByte dst 1
    let own := if s.topoByte s.node 1 = 255 then 0 else s.topoByte s.node 1
    if (s.subtree s.node).contains dst then d - own else min 4 (d + own)

/-- An accepted frame that is not for this device, passed on (R445): a frame for the other side of a mirror pair
travels to the manager, crosses the pair link, and is sent again there as a new frame. -/
def State.forwardFrame (port : Nat) (f : CwFrame) (s : State) : State :=
  let send := fun (p : Option Nat) (g : CwFrame) => match p with | some k => s.cwQueue k g | none => s
  if f.dom then
    if s.cluster.role = 2 then send s.upPort f
    else if port = s.nat 0x1400 2 then send (s.route f.dst) { f with dom := false, hops := s.hopsTo f.dst }
    else send (some (s.nat 0x1400 2)) f
  else send (s.route f.dst) f

/-! Ports and links (R437, R444) -/

/-- CW_PORT_UP (R437): every lane of the port is trained and the first CREDIT word of every VC has come; the port is
up, and LINKID goes out. -/
def execCwPortUp (port : Nat) (s : State) : Host.Outcome State Fault Refusal :=
  if 4 ≤ port then .fault .noSuchUnit
  else
    let c := s.cwAt port
    let lanes := s.portLanes port
    if s.nat (0x1950 + port) 1 = 1 ∧ lanes ≠ [] ∧ lanes.all (fun k => (s.laneAt k).rx == 2 && (s.laneAt k).tx == 2) ∧
        [0, 1, 2, 3].all (fun v => (tget c.advertised v).isSome) then
      let words := [0, 1, 2, 3].map (fun v => (3, v, s.nat 0x1905 (v + 1) % 65536))
      let allot := [0, 1, 2, 3].map (fun v => (v, s.nat 0x1905 (v + 1)))
      let s1 := (s.setCw port { c with words := words, allot := allot, idleSince := s.now }).put (0x1950 + port) 1 2
      let s2 := s1.laneEvent 5 (0x40 + port) 0
      let s3 := (s2.say 0xFF 0x01 [port, s.node, s.cluster.role]).cwPump port
      .next (if s3.pairPort = some port then s3.pairLinkUp else s3)
    else .next s

/-- LINKID (R444, R447): the far side of a port names its node, its role and its manager; a worker that is not admitted
sends JOIN, and the manager notes the link. The pair link is no link of the cluster. -/
def execLinkid (port node role far : Nat) (s : State) : Host.Outcome State Fault Refusal :=
  if 4 ≤ port ∨ 16 ≤ node then .fault .noSuchUnit
  else if !s.cwUp port then .next s
  else
    let s1 := s.setCw port { s.cwAt port with far := some (node, role) }
    if s.pairPort = some port then .next s1
    else if s.cluster.role = 2 then
      let s1 := if s1.flag 0x1400 1 && !s1.pair.link then s1.pairLinkUp else s1
      if s1.cluster.joined ∨ far ≠ 0 then .next s1
      else .next (({ s1 with cluster := { s1.cluster with joinAt := s1.now } }).say 0 0x02 [s1.node])
    else if s.cluster.role = 1 then
      let links := if topoHas (odBytes s1.od 0x1302 0) 0 then s1.topoByte 0 4 + 256 * s1.topoByte 0 5 else 0
      let own := leBytes 1 255 ++ leBytes 1 0 ++ leBytes 1 255 ++ leBytes 1 255 ++ leBytes 2 (setBit links node) ++
        leBytes 1 (if s1.flag 0x1400 1 then s1.nat 0x1400 2 else 255) ++ zeros 1
      .next (s1.putVal 0x1302 0 (.oct (topoPut (odBytes s1.od 0x1302 0) s1.node own)))
    else .next s1

/-! Joining (R447–R449) -/

/-- The topology with a joining worker's record in it (R446, R448). [DEDUCED: log entry 85] -/
def State.topoWith (s : State) (j : JoinMsg) : List Byte :=
  let group := ((List.range 4).find? (fun g => bit (s.nat 0x1310 (g + 1)) j.node)).getD 255
  topoPut (odBytes s.od 0x1302 0) j.node (leBytes 1 j.parent ++ leBytes 1 j.depth ++ leBytes 1 j.upPort ++ leBytes 1 group ++
    leBytes 2 j.links ++ leBytes 1 255 ++ zeros 1)

/-- The reason for which a JOIN is refused (R448), if any. [DEDUCED: log entry 85] -/
def State.joinRefusal (s : State) (j : JoinMsg) : Option Nat :=
  let mates := ([1, 2, 3, 4].flatMap (fun g => let ms := bits (s.nat 0x1310 g) 16; if ms.contains j.node then ms else []))
  if j.node = 0 ∨ 15 < j.node ∨ (s.nd j.node).state = 2 then some 1
  else if !topoTree (s.topoWith j) then some 2
  else if !j.versions then some 3
  else if !j.attested then some 4
  else if !j.lifecycle then some 5
  else if !j.locked then some 6
  else if !(mates.all (fun m => m == j.node || bit j.links m) && topoMeshed (s.topoWith j) mates) then some 7
  else none

/-- JOIN_RETRY (R448): a worker not yet admitted sends JOIN again every 1 s. [DEDUCED: log entry 85] -/
def execJoinRetry (s : State) : Host.Outcome State Fault Refusal :=
  if s.cluster.role = 2 ∧ s.cluster.joined = false ∧ s.node ≠ 0 ∧ s.cluster.joinAt + 1000000000 ≤ s.now then
    .next (({ s with cluster := { s.cluster with joinAt := s.now } }).say 0 0x02 [s.node])
  else .next s

/-- ADMIT (R449): the worker is a member; a differing configuration follows as a commit of the manager's. -/
def execAdmitMember (node : Nat) (_digest : List Byte) (s : State) : Host.Outcome State Fault Refusal :=
  if s.cluster.role ≠ 2 ∨ node ≠ s.node then .next s
  else
    let s1 : State := { s with cluster := { s.cluster with joined := true } }
    let s2 := (s1.setNd 0 { s1.nd 0 with state := 2, beat := s1.now }).setNd node { s1.nd node with state := 2, reason := 0 }
    .next (s2.put 0x1300 2 (setBit (setBit (s2.nat 0x1300 2) 0) node : Nat))

/-- REJECT (R448): the worker keeps the reason and tries again. -/
def execRejectMember (reason : Nat) (s : State) : Host.Outcome State Fault Refusal :=
  if s.cluster.role ≠ 2 ∨ s.cluster.joined then .next s
  else .next (s.setNd s.node { s.nd s.node with state := 5, reason := reason % 16 })

/-- TOPO (R86, R446): the published topology is taken over; one that breaks R444 is not. [DEDUCED: log entry 85] -/
def execTopo (bytes : List Byte) (s : State) : Host.Outcome State Fault Refusal :=
  if s.cluster.role ≠ 2 ∨ bytes.length ≠ 128 ∨ !topoOk bytes then .next s
  else .next ((s.putVal 0x1302 0 (.oct bytes)).clusterEvent 7 0 0 0)

/-! Heartbeats and loss (R453, R454, R465) -/

/-- HEARTBEAT_SEND (R453): every 100 µs the manager to each member, and a member to its manager. -/
def execHeartbeatSend (s : State) : Host.Outcome State Fault Refusal :=
  if s.now < s.cluster.beatAt + 100000 ∨ s.cluster.role = 0 then .next s
  else
    let dst := if s.cluster.role = 1 then s.members.filter (· != s.node) else if s.cluster.joined then [0] else []
    .next (({ s with cluster := { s.cluster with beatAt := s.now } }).sayAll dst 0x06 [s.node, s.mode.code])

/-- One frame period of the slowest channel that the configuration enables, ns; 0 with none (R23, R466). -/
def State.slowestFrame (s : State) : Nat :=
  channels.foldl (fun m n => if (s.cfg n).enable then max m (s.cfg n).period.ceil.toNat else m) 0
/-- The manager's watch over the mode of node `x` (R23): a difference is timed from the first heartbeat that shows it, and
one that outlasts a frame period of the slowest channel raises the alarm, which the next agreeing heartbeat ends.
[DESIGN CHOICE: log entry 112] -/
def State.watchMode (s : State) (x : Node) : Node :=
  if x.mode = s.mode.code then { x with differs := none, alarmed := false }
  else
    let t := x.differs.getD s.now
    { x with differs := some t, alarmed := x.alarmed || (s.slowestFrame != 0 && decide (t + s.slowestFrame < s.now)) }
/-- HEARTBEAT (R23, R453, R466, R467): the sender is present, with its mode and its time offset from the manager, which
watches that the modes agree. -/
def execHeartbeat (node mode : Nat) (offset : Int) (s : State) : Host.Outcome State Fault Refusal :=
  if 16 ≤ node then .fault .noSuchUnit
  else
    let x := s.nd node
    if x.state ≠ 2 then .next s
    else
      let y : Node := { x with beat := s.now, mode := mode % 16, offset := offset }
      let s1 := s.setNd node (if s.cluster.role = 1 ∧ node ≠ s.node then s.watchMode y else y)
      .next (if s.cluster.role = 1 ∧ s.num 0x1300 6 < offset.natAbs then s1.put 0x1300 6 offset.natAbs else s1)

/-- The span channels whose group holds a node. -/
def State.spansWith (s : State) (k : Nat) : List Nat :=
  channels.filter (fun n => (s.spanGroup n).contains k)

/-- Span channels stop where a member of their group is lost, isolated or in SAFE (R465): a member stops the channel
at its next boundary, the lead sends what it holds, and the manager reports it. -/
def State.breakSpans (s : State) (k : Nat) : State :=
  (s.spansWith k).foldl (fun t n =>
    let ms := t.spanGroup n
    let t1 := if ms.contains t.node ∧ ms.head? ≠ some t.node then t.setCh n { t.ch n with stopping := some t.now } else t
    if t.cluster.role = 1 then t1.clusterEvent 6 k 0 n else t1) s

/-- Nodes no longer members (R453): lost (3) or isolated (4). -/
def State.dropNodes (s : State) (state what : Nat) (ks : List Nat) : State :=
  ks.foldl (fun t k =>
    let t1 := (t.put 0x1300 2 (clrBit (t.nat 0x1300 2) k : Nat)).setNd k { t.nd k with state := state }
    let t2 := ((t1.bump 0x1300 7 0x1300 8).log 0x25 k 0xFF [what]).clusterEvent what k 0 0
    t2.breakSpans k) s

/-- A worker that has lost its manager (R454). -/
def State.loseManager (s : State) : State :=
  let s1 := { s with cluster := { s.cluster with joined := false } }
  let s2 := ((s1.setNd 0 { s1.nd 0 with state := 3 }).log 0x25 0 0xFF [5]).clusterEvent 5 0 0 0
  s2.loseTime

/-- HEARTBEAT_MISSED (R453, R454): three heartbeats in a row have not come, or no path leads to the node. -/
def execHeartbeatMissed (node : Nat) (s : State) : Host.Outcome State Fault Refusal :=
  if 16 ≤ node then .fault .noSuchUnit
  else
    let x := s.nd node
    let silent := decide (x.beat + 300000 ≤ s.now)
    if x.state ≠ 2 ∨ node = s.node then .next s
    else if s.cluster.role = 1 then
      let cut := (s.route node).isNone
      if !silent && !cut then .next s
      else .next (s.dropNodes 3 3 (if cut then (s.subtree node).filter s.members.contains else [node]))
    else if s.cluster.role = 2 ∧ node = 0 then
      if silent || (s.route 0).isNone then .next s.loseManager else .next s
    else .next s

/-! The pair link (R472, R481, R487) -/

/-- OD 0x1401.02 bit 4: the configuration digests are equal (R487, R495). -/
def State.pairEqual (s : State) : Bool := s.pair.agreed && s.pair.peer == s.pairDigest

/-- A unit that waits for its peer becomes SECONDARY (R481, R487): a FORMING unit once PAIRID is agreed and the peer holds
DRAWBAR, where a channel that is starting asks for its checkpoint (R485); an ISOLATED unit once its configuration is its peer's
as well, where every running channel is reloaded (R483). [DEDUCED: log entry 87] -/
def State.formUp (s : State) : State :=
  if !s.pair.link || !s.pair.agreed then s
  else if s.pair.state = 1 then
    if s.pair.held then
      (channels.filter (fun n => (s.ch n).starting.isSome)).foldl (fun t n => t.say 0x10 0x42 [n, 0]) (s.toPair 3 6)
    else s
  else if s.pair.state = 5 ∧ s.pairEqual then
    s.runningChans.foldl (fun t n => t.rejoin n (t.ch n).epoch) (s.toPair 3 6)
  else s

/-- The pair link is lost (R472, R481, R482). -/
def State.losePairLink (s : State) : State :=
  let s1 : State := { s with pair := { s.pair with link := false, agreed := false, handover := none, records := [],
                                                   holdFrom := none } }
  let s2 := (s1.put 0x1401 4 0).pairEvent 5 0xFF 0
  if s2.pair.state ≠ 3 then s2
  else if s2.pair.live ∧ s2.pair.held then s2.toPair 5 5
  else if s2.mode.sending then s2.toPair 4 5
  else s2

/-- A port failure that breaks the tree path to members, or to the manager, loses them at once (R453, R454), and the pair link
with its port (R472): `u` is the machine after the failure. [DEDUCED: log entry 85] -/
def State.thenCut (s u : State) : State :=
  let t := if u.pair.link && s.pairPath && !u.pairPath then u.losePairLink else u
  if [0, 1, 2, 3].all (fun p => !s.cwUp p || t.cwUp p) then t
  else if t.cluster.role = 1 then
    t.dropNodes 3 3 (t.members.filter (fun k => k != t.node && (t.nd k).state == 2 && (t.route k).isNone))
  else if t.cluster.role = 2 ∧ (t.nd 0).state = 2 ∧ (t.route 0).isNone then t.loseManager
  else t

/-- LOSS_OF_LOCK (R540–R542): `cause` 3 phase error, 4 control word at its limit, 5 VCO against bypass, of which only the
last two count in HOLDOVER. The root freezes, the DRAM goes to self-refresh, outputs 0–3 and 5 stop, the NET ports and
lanes go down, the control domain runs on the bypass clock and the device enters SAFE. [DEDUCED: log entry 91] -/
def execLossOfLock (cause : Nat) (phase : Int) (s : State) : Host.Outcome State Fault Refusal :=
  let holds : Bool := s.clk.state == 2 || s.clk.state == 4 || (s.clk.state == 3 && cause != 3)
  if cause < 3 ∨ 5 < cause ∨ !holds then .next s
  else
    let s1 := s.divisors false
    let s2 := s1.setClk { s1.clk with state := 0, ref := if s.clk.state = 3 then s.clk.ref else 1, bypass := true,
                                      cause := cause, stopped := true, qualFrom := some s.now, tried := s.now }
    let s3 := (((s2.clkBump 9).clkEvent 5 cause 0).log 0x0C 0xFFFF 0xFF [cause, u64 phase]).freeRun
    let s4 := ((s3.enterSafe 0x0A 0).sleepDram).idleLanes
    .next (s.thenCut s4.dropNet)

/-- CW_FRAME_RECEIVED (R409, R428–R431, R445): a frame at a Carriageway port. -/
def execCwFrameReceived (port : Nat) (f : CwFrame) (s : State) : Host.Outcome State Fault Refusal :=
  if 4 ≤ port then .fault .noSuchUnit
  else
    let crossed := s.cluster.role != 2 && port == s.nat 0x1400 2
    let mine := f.dst == s.node && (!f.dom || crossed)
    .next (s.thenCut (cwReceive (State.forwardFrame port) port f mine s))

/-- NAK (R429, R433): an acknowledgement up to `seq`, and a failure event of the frame after it. [DEDUCED: log entry 84] -/
def execCwNak (port seq : Nat) (s : State) : Host.Outcome State Fault Refusal :=
  if 4 ≤ port then .fault .noSuchUnit
  else if s.cwUp port then .next (s.thenCut ((s.setCw port ((s.cwAt port).release seq s.now)).cwFailure port))
  else .next s

/-- CW_ACK_TIMEOUT (R433): 400 ns without an advance of the ACK while frames are outstanding. -/
def execCwAckTimeout (port : Nat) (s : State) : Host.Outcome State Fault Refusal :=
  if 4 ≤ port then .fault .noSuchUnit
  else
    let c := s.cwAt port
    if s.cwUp port && !c.replay.isEmpty && decide (c.ackAt + 400 ≤ s.now) then .next (s.thenCut (s.cwFailure port)) else .next s

/-- CW_RETRY_EXHAUSTED (R433): the 4th retry has failed, or 2 µs of the envelope have passed. -/
def execCwRetryExhausted (port : Nat) (s : State) : Host.Outcome State Fault Refusal :=
  if 4 ≤ port then .fault .noSuchUnit
  else
    let c := s.cwAt port
    match c.envelope with
    | some e =>
      if s.cwUp port && !c.replay.isEmpty && (decide (4 ≤ c.retries) || decide (e + 2000 ≤ s.now)) then
        .next (s.thenCut (s.cwExhaust port))
      else .next s
    | none => .next s

/-! Cluster time (R452) -/

/-- The workers at the far sides of this device's links that the topology does not hold yet: they take their time from it until
they are admitted (R448, R452). [DEDUCED: log entry 85] -/
def State.newcomers (s : State) : List Nat :=
  [0, 1, 2, 3].filterMap (fun p =>
    if s.cwUp p && s.pairPort != some p then
      match (s.cwAt p).far with
      | some (k, 2) => if s.topoByte k 1 = 255 then some k else none
      | _ => none
    else none)
/-- The node from which a worker takes its time (R452): its parent, or before it is admitted the far side of its first link.
[DEDUCED: log entry 85] -/
def State.timeParent (s : State) : Nat :=
  (s.parentOf s.node).getD (([0, 1, 2, 3].findSome? (fun p => if s.cwUp p then (s.cwAt p).far.map Prod.fst else none)).getD 0)
/-- TSYNC_SEND (R452): every 1 ms a parent sends TSYNC to each child. -/
def execTsyncSend (s : State) : Host.Outcome State Fault Refusal :=
  let kids := (s.childrenOf s.node).filter (fun k => k != s.node) ++ s.newcomers
  if s.cluster.role = 0 ∨ s.now < s.cluster.syncAt + 1000000 then .next s
  else .next (({ s with cluster := { s.cluster with syncAt := s.now } }).sayAll kids 0x07 [s.now])

/-- TDELAY_REQ_SEND (R452): every 1 ms a child sends TDELAY_REQ to its parent. -/
def execTdelayReqSend (s : State) : Host.Outcome State Fault Refusal :=
  if s.cluster.role ≠ 2 ∨ s.now < s.cluster.delayAt + 1000000 then .next s
  else .next (({ s with cluster := { s.cluster with delayAt := s.now, delayTx := some s.now } }).say
    s.timeParent 0x08 [s.now])

/-- TSYNC (R452): the parent's SOF time and its arrival here steer the worker's Timebase as R333 and R673 do with a PTP
master. [DEDUCED: log entry 14] -/
def execTsync (sof rx : Nat) (s : State) : Host.Outcome State Fault Refusal :=
  if s.cluster.role ≠ 2 ∨ s.clk.bypass = true then .next s
  else
    let s1 : State := { s with cluster := { s.cluster with sync := (sof, rx) } }
    let s2 := if s1.tbState = 0 ∨ s1.tbState = 3 then s1.acquire else s1
    .next (s2.takeOffset ((rx : Int) - sof - s2.cluster.delay) 1 1000)

/-- TDELAY_REQ (R452): the parent answers with the time at which the request reached it. -/
def execTdelayReq (node sof rx : Nat) (s : State) : Host.Outcome State Fault Refusal :=
  if 16 ≤ node then .fault .noSuchUnit
  else if s.parentOf node = some s.node ∨ s.newcomers.contains node = true then .next (s.say node 0x09 [sof, rx]) else .next s

/-- TDELAY_RSP (R452): the link delay from the latest TSYNC and this exchange; it counts as an exchange of R333. -/
def execTdelayRsp (rx : Nat) (s : State) : Host.Outcome State Fault Refusal :=
  match s.cluster.delayTx with
  | none => .next s
  | some t3 =>
    if s.cluster.role ≠ 2 then .next s
    else
      let d : Int := (((s.cluster.sync.2 : Int) - s.cluster.sync.1) + ((rx : Int) - t3)) / 2
      let s1 := ({ s with cluster := { s.cluster with delayTx := none, delay := d } }).measure 0x1500 0x0B d s.now
      .next (if s1.tb.exchanges < 8 then { s1 with tb := { s1.tb with exchanges := s1.tb.exchanges + 1 } } else s1)

/-! Span groups (R446, R459–R462) -/

/-- Channel n's span exchange. -/
def State.sp (s : State) (n : Nat) : Span := tgetD s.cluster.spans n {}
/-- The machine with channel n's span exchange changed. -/
def State.setSp (s : State) (n : Nat) (x : Span) : State :=
  { s with cluster := { s.cluster with spans := tset s.cluster.spans n x } }

/-- SPANREQ (R446): a member's standing request for the channels of a span group is granted. -/
def execSpanreq (group node : Nat) (s : State) : Host.Outcome State Fault Refusal :=
  if 4 ≤ group ∨ 16 ≤ node then .fault .noSuchUnit
  else
    let m := bits (s.nat 0x1310 (group + 1)) 16
    if !m.contains node || !m.contains s.node || node == s.node then .next s
    else
      let ns := channels.filter (fun n => s.nat 0x1318 (n + 1) == 0x40 + group)
      .next ((ns.foldl (fun t n => let x := t.sp n
        t.setSp n { x with granted := if x.granted.contains node then x.granted else x.granted ++ [node] }) s).say node 0x31 [group])

/-- Whether a node is another member of channel n's span group. [DEDUCED: log entry 86] -/
def State.peerMember (s : State) (n k : Nat) : Bool := (s.others n).contains k

/-- ROWSTAT (R461): another member's v of a band, or the band's final size, enters this copy of the Tollhouse.
[DEDUCED: log entry 86] -/
def execRowstat (chan node epoch row col : Nat) (final : Bool) (value : Nat) (s : State) :
    Host.Outcome State Fault Refusal :=
  if 128 ≤ chan ∨ 16 ≤ node then .fault .noSuchUnit
  else
    let g := s.cfgAt chan epoch
    let own := s.ownTilesAt chan epoch
    let known := (tget (s.ch chan).kinds epoch).isSome
    if !s.peerMember chan node || decide (g.rows ≤ row) || decide (g.tcols ≤ col) ||
        (decide (own.1 ≤ col) && decide (col < own.2)) || !known then .next s
    else if final then
      if (s.ch chan).bandDone epoch row col then .next s
      else
        let s1 := s.setCh chan ((s.ch chan).recordBand g epoch row col value)
        .next (if s.rowWhole chan epoch (row / g.perRow) then s1 else s1.lastDigest chan epoch (row / g.perRow))
    else .next (s.setSp chan { s.sp chan with costs := tset (s.sp chan).costs (bandKey epoch row col) value })

/-- The seam samples of a CTU row kept, those of pictures long gone dropped. -/
def Span.putSeam (x : Span) (epoch row node kind : Nat) (b : List Byte) : Span :=
  { x with seams := tset (x.seams.filter (fun kv => decide (epoch ≤ kv.1 / 2097152 + 8))) (rowKey epoch row * 32 + node * 2 + kind) b }

/-- SEAM (R460): a neighbour's unfiltered columns, or its finished seam samples, of a CTU row; finished samples that come after
this device's own seam coach take their place in the reconstruction and its tiles. [DEDUCED: log entry 86] -/
def execSeam (chan node epoch row : Nat) (samples : List Byte) (finished : Bool) (s : State) :
    Host.Outcome State Fault Refusal :=
  if 128 ≤ chan ∨ 16 ≤ node then .fault .noSuchUnit
  else if !((s.neighbours chan).1 ++ (s.neighbours chan).2).contains node then .next s
  else
    let s1 := s.setSp chan ((s.sp chan).putSeam epoch row node (b2n finished) samples)
    let c := s1.ch chan
    if finished && (s.neighbours chan).1.contains node && c.seams.contains (rowKey epoch row) then
      let g := s1.cfgAt chan epoch
      let own := s1.ownTilesAt chan epoch
      .next (s1.setCh chan ((c.patchEdge g epoch row own.1 samples).writeTiles g own epoch row))
    else .next s1

/-- BORDER (R459): a neighbour's reference tiles of a CTU row near the shared edge. [DEDUCED: log entry 86] -/
def execBorder (chan node epoch row : Nat) (tiles : List Byte) (s : State) : Host.Outcome State Fault Refusal :=
  if 128 ≤ chan ∨ 16 ≤ node then .fault .noSuchUnit
  else if !((s.neighbours chan).1 ++ (s.neighbours chan).2).contains node then .next s
  else
    let kept := (s.sp chan).borders.filter (fun kv => decide (epoch ≤ kv.1 / 1048576 + 8))
    .next (s.setSp chan { s.sp chan with borders := tset kept (rowKey epoch row * 16 + node) tiles })

/-- PYRAMID (R459): a neighbour's search pyramids of a picture near the shared edge. [DEDUCED: log entry 86] -/
def execPyramid (chan node epoch : Nat) (samples : List Byte) (s : State) : Host.Outcome State Fault Refusal :=
  if 128 ≤ chan ∨ 16 ≤ node then .fault .noSuchUnit
  else if !((s.neighbours chan).1 ++ (s.neighbours chan).2).contains node then .next s
  else
    let kept := (s.sp chan).pyramids.filter (fun kv => decide (epoch ≤ kv.1 / 16 + 8))
    .next (s.setSp chan { s.sp chan with pyramids := tset kept (epoch * 16 + node) samples })

/-- UNIT (R462): a member's departure unit reaches the lead. -/
def execUnitArrived (chan node epoch row col : Nat) (data : List Byte) (s : State) : Host.Outcome State Fault Refusal :=
  if 128 ≤ chan ∨ 16 ≤ node then .fault .noSuchUnit
  else
    let g := s.cfgAt chan epoch
    let own := s.ownTilesAt chan epoch
    if !s.peerMember chan node || (s.spanGroup chan).head? != some s.node || decide (g.drows ≤ row) ||
        decide (g.unitsPerRow ≤ col) || (decide (own.1 ≤ col) && decide (col < own.2)) then .next s
    else
      let c := s.ch chan
      let rows := (List.range (g.rowsIn row)).map (fun j => row * g.perRow + j)
      let c1 := (rows.zip (List.range rows.length)).foldl (fun d rj =>
        if d.bandDone epoch rj.1 col then d
        else d.recordBand g epoch rj.1 col (if rj.2 = 0 then 8 * data.length else 0)) c
      let s1 := s.setCh chan c1
      let kept := (s1.sp chan).units.filter (fun kv => decide (epoch ≤ kv.1 / 4194304 + 8))
      let s2 := s1.setSp chan { s1.sp chan with units := tset kept (bandKey epoch row col) data }
      .next (if s.holdsUnit chan epoch row col then s2 else s2.unitHeld chan epoch row col)

end Sys2Proof.Machine
end

