-- ==== Sys2Proof/Machine/Pair.lean ====
section
/-! DEFINITION. Pair.lean: the mirror pair's link, primacy, digests, rejoin and revert (R469–R495). -/

namespace Sys2Proof.Machine

/-- PAIR_LIVE_OUT carries its wave (R470, R471). -/
def State.liveOut (s : State) : Bool :=
  match s.mode with
  | .dormant => s.flag 0x1400 4
  | .starting => false
  | .ret => false
  | _ => true

/-- OD 0x1401.02 (R495). -/
def State.pairPins (s : State) : Nat :=
  b2n s.pair.live + 2 * b2n (s.pair.held || s.pair.drawbar) + 4 * b2n s.pair.drawbar + 8 * b2n s.pair.link +
    16 * b2n s.pairEqual

/-! Records and checkpoints (R476, R477, R483) -/

/-- The row sizes of a REJOINING channel with a record's data added (R484). -/
def State.addSize (s : State) (r : DigestRec) : State :=
  if 128 ≤ r.chan ∨ 1 < r.type then s
  else
    let p := s.pc r.chan
    if !p.rejoining then s
    else
      let k := rowKey r.epoch (if r.type = 1 then 65535 else r.row)
      let kept := p.sizes.filter (fun kv => decide (r.epoch ≤ kv.1 / 65536 + 16))
      s.setPc r.chan { p with sizes := tset kept k (tgetD p.sizes k 0 + 8 * r.size) }

/-- DIGEST (R476, R477): the peer's records are stored for comparison; a record of a row that has left already is not
kept. -/
def execDigest (records : List DigestRec) (s : State) : Host.Outcome State Fault Refusal :=
  if records.any (fun r => decide (160 ≤ r.chan)) then .fault .noSuchUnit
  else if s.pair.state = 0 ∨ !s.pair.link then .next s
  else
    let s1 := records.foldl State.addSize s
    let open_ := fun (r : DigestRec) => decide (128 ≤ r.chan) || decide ((s.ch r.chan).depE ≤ r.epoch)
    let all := (s1.pair.records ++ records).filter open_
    .next { s1 with pair := { s1.pair with records := all } }

/-- A channel's checkpoint (R257, R483): its Tollhouse record and its flows' counts at the start of that picture. -/
def State.checkpointOf (s : State) (n : Nat) : List Byte :=
  let c := s.ch n
  c.toll ++ (flowsOf s.od n).flatMap (fun f =>
    let x := s.fl f
    leBytes 2 f ++ zeros 2 ++ leBytes 8 (tgetD x.counts c.epoch x.generated))

/-- CKPT_REQ (R483): the primary answers with the channel's latest checkpoint. -/
def execCkptReq (chan : Nat) (s : State) : Host.Outcome State Fault Refusal :=
  if 128 ≤ chan then .fault .noSuchUnit
  else if s.pair.state ≠ 2 ∨ !(s.ch chan).running then .next s
  else
    let s1 := s.setPc chan { s.pc chan with from_ := some (s.ch chan).epoch }
    .next (s1.say 0x10 0x43 (chan :: (s.checkpointOf chan).map BitVec.toNat))

/-- CKPT (R483, R485): a checkpoint of a REJOINING channel, or of one that joins the running pair, waits for the next
boundary. -/
def execCkpt (chan : Nat) (data : List Byte) (s : State) : Host.Outcome State Fault Refusal :=
  if 128 ≤ chan then .fault .noSuchUnit
  else
    let p := s.pc chan
    let joins := (s.ch chan).starting.isSome
    if s.pair.state ≠ 3 ∨ data.length < ckptHead data ∨ !(p.rejoining || joins) then .next s
    else .next (s.setPc chan { p with rejoining := true, ckpt := some data, installed := false, periods := 0, from_ := none })

/-! Primacy (R473, R474, R481, R486) -/

/-- Primacy gained (R481, R496). [DEDUCED: log entry 87] -/
def State.gainPrimacy (s : State) (slot : Nat) : State :=
  let revert := s.pair.home && s.pair.handover.isSome
  let s1 : State := { s with pair := { s.pair with drawbar := true, slot := slot, handover := none, gave := false } }
  let s2 := (s1.toPair 2 1).pairBump 0x0B
  let s3 := if revert then s2.pairEvent 0x0B 0xFF 0 else s2
  if s3.pair.link then s3.say 0x10 0x44 [slot] else s3

/-- Primacy released (R481): DRAWBAR is released and the unit becomes SECONDARY. [DEDUCED: log entry 87] -/
def State.releasePrimacy (s : State) : State :=
  let s1 : State := { s with pair := { s.pair with drawbar := false, handover := none } }
  if s1.pair.state = 2 then (s1.toPair 3 2).pairBump 0x0B else s1

/-- This unit has released DRAWBAR for its peer to claim (R486, R493). [DEDUCED: log entry 87] -/
def State.giveWay (s : State) : State := { s with pair := { s.pair with gave := true } }

/-- CLAIM_SLOT (R473, R481): the unit samples DRAWBAR at the slot's start, or 5 µs later if it is away, and asserts it
where the line is released. [DEDUCED: log entry 87] -/
def execClaimSlot (slot : Nat) (s : State) : Host.Outcome State Fault Refusal :=
  let at_ := slot + if s.pair.home then 0 else 5000
  if slot % 10000 ≠ 0 ∨ s.now < at_ ∨ !s.mode.sending ∨ s.pair.drawbar ∨ s.pair.held ∨
      !(s.pair.state == 1 || s.pair.state == 4) then .next s
  else .next (s.gainPrimacy slot)

/-- CLAIMED (R474): the peer has asserted DRAWBAR; an away unit that claimed in the same slot releases it, and a unit
that has not won becomes SECONDARY. [DEDUCED: log entry 87] -/
def execClaimed (slot : Nat) (s : State) : Host.Outcome State Fault Refusal :=
  if s.pair.state = 0 ∨ !s.pair.link then .next s
  else
    let s1 : State := { s with pair := { s.pair with held := true, gave := false } }
    if s1.pair.drawbar then
      if !s1.pair.home && s1.pair.slot == slot then
        let s2 : State := { s1 with pair := { s1.pair with drawbar := false } }
        .next ((s2.toPair 3 9).pairBump 0x0C)
      else .next { s1 with pair := { s1.pair with held := false } }
    else if s1.pair.state = 4 then .next ((s1.toPair 3 9).pairBump 0x0C)
    else .next s1.formUp

/-- HANDOVER (R493): the away primary notes the tick at which it releases DRAWBAR. -/
def execHandover (tick : Nat) (s : State) : Host.Outcome State Fault Refusal :=
  if s.pair.state = 2 ∧ s.pair.home = false ∧ s.pair.link ∧ s.now ≤ tick then
    .next { s with pair := { s.pair with handover := some tick, yielded := false } }
  else .next s

/-- HANDOVER_TICK (R493): at the named tick the away unit releases DRAWBAR and becomes SECONDARY. -/
def execHandoverTick (s : State) : Host.Outcome State Fault Refusal :=
  match s.pair.handover with
  | none => .next s
  | some t =>
    if t ≤ s.now ∧ s.pair.state = 2 ∧ s.pair.home = false then .next (s.releasePrimacy).giveWay else .next s

/-- SENDING_STROBE_STOP (R471, R481): the sending strobe has been absent for 1 µs; the Lodge releases DRAWBAR. -/
def execSendingStrobeStop (s : State) : Host.Outcome State Fault Refusal :=
  if s.pair.drawbar then .next s.releasePrimacy else .next s

/-- REVERT_HOLDOFF_COMPLETE (R493): the hold-off has passed; the home unit names a tick at least 1 ms ahead. -/
def execRevertHoldoffComplete (s : State) : Host.Outcome State Fault Refusal :=
  let n := s.nat 0x1400 3
  if n ≠ 0 ∧ n ≤ s.nat 0x1401 4 ∧ s.pair.home ∧ s.pair.state = 3 ∧ s.pair.link ∧ s.pair.handover = none ∧
      s.runningChans.all (fun k => s.pairChanState k == 1) then
    let t := (s.now + 1000000 + 99) / 100 * 100
    .next (({ s with pair := { s.pair with handover := some t, yielded := false } }).say 0x10 0x45 [t])
  else .next s

/-- Whether the primary is suspect (R486): its confidence alarm is set for a channel whose confidence on the secondary is
clear, or a channel still mismatches 3 refresh periods after its checkpoint. -/
def State.suspect (s : State) : Bool :=
  s.runningChans.any (fun n =>
    (s.flag (chI n 0x79) 7 && !s.pair.peerAlarm.contains n) ||
    match (s.pc n).from_, (s.cfg n).refreshNs with
    | some f, some p =>
      let pictures := ((Frac.ofInt p).div (s.cfg n).period).floor.toNat
      decide (f + 3 * pictures ≤ (s.pc n).mismatch)
    | _, _ => false)

/-- A yield (R486). -/
def State.yield (s : State) : State := ((s.releasePrimacy).giveWay).pairEvent 0x0C 0xFF 0

/-- PRIMARY_SUSPECT_YIELD (R486): a suspect primary yields, at most once per revert hold-off. -/
def execPrimarySuspectYield (s : State) : Host.Outcome State Fault Refusal :=
  if s.pair.state = 2 ∧ s.flag 0x1400 5 ∧ (s.pair.yielded = false ∨ s.nat 0x1400 3 = 0) ∧ s.suspect then
    .next { s.yield with pair := { s.yield.pair with yielded := true } }
  else .next s

/-- OD 0x1400.06 written (R486): a primary yields at once. -/
def yieldNow (value : Nat) (s : State) : Code × State :=
  (.ok, if value ≠ 0 ∧ s.pair.state = 2 then s.yield else s)

/-! Link and heartbeat (R472, R475, R482, R487, R488) -/

/-- PAIRBEAT_SEND (R475): the pair state, every 100 µs. -/
def execPairbeatSend (s : State) : Host.Outcome State Fault Refusal :=
  if s.pair.state = 0 ∨ !s.pair.link ∨ s.now < s.pair.beatTx + 100000 then .next s
  else
    let alarms := channels.filter (fun n => s.flag (chI n 0x79) 7)
    .next (({ s with pair := { s.pair with beatTx := s.now } }).say 0x10 0x46 ([s.pair.state, s.mode.code] ++ alarms))

/-- PAIRBEAT (R475): the peer's pair state, mode and confidence alarms; the link is up again. -/
def execPairbeat (p : PairBeatMsg) (s : State) : Host.Outcome State Fault Refusal :=
  if !s.flag 0x1400 1 || !s.pairPath then .next s
  else
    let s1 : State := { s with pair := { s.pair with beat := s.now, peerMode := p.mode, peerAlarm := p.alarms,
                                                     held := s.pair.held || p.state == 2,
                                                     gave := s.pair.gave && p.state != 2 } }
    .next (if s.pair.link then s1.formUp else s1.pairLinkUp)

/-- PAIRID (R481, R487): checked at formation and whenever the link returns. -/
def execPairid (p : PairIdMsg) (s : State) : Host.Outcome State Fault Refusal :=
  if s.pair.state = 0 ∨ !s.pair.link then .next s
  else if p.home = s.pair.home ∨ !p.versions ∨ !p.packs then .next (s.pairEvent 0x0A 0xFF 0)
  else
    .next ({ s with pair := { s.pair with agreed := true, peer := p.digest } }).formUp

/-- PAIR_LINK_TIMEOUT (R472, R481, R482): no PAIRBEAT for 300 µs, or the port is down. -/
def execPairLinkTimeout (s : State) : Host.Outcome State Fault Refusal :=
  if s.pair.state = 0 ∨ !s.pair.link ∨ (s.pairPath ∧ s.now < s.pair.beat + 300000) then .next s
  else .next s.losePairLink

/-- PEER_HEARTBEAT_FAILED (R472, R481, R482, R488–R490): the peer is lost. A stuck DRAWBAR is reported, a unit without a
link claims, and the peer leaves the members of every armed set. -/
def execPeerHeartbeatFailed (s : State) : Host.Outcome State Fault Refusal :=
  if !s.pair.live then .next s
  else
    let s1 : State := { s with pair := { s.pair with live := false } }
    let s2 := if s1.pair.state = 0 then s1 else
      let rj := s1.runningChans.filter (fun n => (s1.pc n).rejoining)
      if rj.isEmpty then s1.pairEvent 3 0xFF 0 else rj.foldl (fun t n => t.pairEvent 3 n 0) s1
    let s3 := if s2.pair.state ≠ 0 ∧ s2.pair.held then s2.pairEvent 0x0A 0xFF 0 else s2
    let s4 := s3.armedSets.foldl (fun t k =>
      let x := t.set k
      if x.coordinator.isNone then t.setSet k { x with members := tdel x.members 0x10 } else t) s3
    .next (if s4.pair.state = 3 ∧ !s4.pair.link ∧ s4.mode.sending then s4.toPair 4 3 else s4)

/-- PEER_HEARTBEAT_LIVE (R472): the peer's heartbeat is live again. -/
def execPeerHeartbeatLive (s : State) : Host.Outcome State Fault Refusal :=
  if s.pair.live then .next s
  else
    let s1 : State := { s with pair := { s.pair with live := true } }
    .next (if s1.pair.state = 0 then s1 else s1.pairEvent 4 0xFF 0)

/-- DRAWBAR_RELEASED (R472, R481): the line reads high; a secondary or isolated unit in a sending mode claims, but not a unit
that has just released it to its peer by a yield or a handover (R486, R493). [DEDUCED: log entry 87] -/
def execDrawbarReleased (s : State) : Host.Outcome State Fault Refusal :=
  let s1 : State := { s with pair := { s.pair with held := false } }
  if (s1.pair.state = 3 ∨ s1.pair.state = 5) ∧ s1.mode.sending ∧ !s1.pair.gave then .next (s1.toPair 4 2) else .next s1

/-- OD 0x1400.01 in force has changed (R481). -/
def State.pairEnable (s : State) : State :=
  if s.flag 0x1400 1 then (if s.pair.state = 0 ∧ s.pairPath then s.pairLinkUp else s)
  else if s.pair.state = 0 then s
  else ({ s with pair := { s.pair with drawbar := false, link := false, agreed := false, gave := false, chans := [], records := [],
                                       handover := none, holdFrom := none } }).toPair 0 (if s.pair.state = 2 then 2 else 5)

end Sys2Proof.Machine
end

