-- ==== Sys2Proof/Machine/Checks.lean ====
section
/-! DEFINITION. Checks.lean: the channel checks of a stage set, in the order of R668, each with the offending object of
R669. -/

namespace Sys2Proof.Machine

/-- A failing check: its code and the key of the offending object (R57, R669). -/
abbrev Bad := Option (Code × Nat)

/-- What a validation reads (R57): the dictionary as it will stand at the set's target without the set and with it, the
set's own writes, and the mode that will then be in force. -/
structure View where
  /-- R57. without the set -/
  base : Tab Val
  /-- R57. with the set -/
  od : Tab Val
  /-- R48. the set's writes -/
  writes : Tab Val
  /-- R24. mode after the set -/
  mode : Mode
  /-- R390. PTP ns at which the commit is accepted -/
  now : Nat
  /-- R390. the set's target T, PTP ns -/
  due : Nat
deriving DecidableEq, Repr

/-- The first failure of a list of checks (R668). [DEDUCED: log entry 41] -/
def firstBad (l : List Bad) : Bad := l.findSome? id

/-- The least of a list of keys; 0 for none. [DEDUCED: log entry 41] -/
def leastKey : List Nat → Nat
  | [] => 0
  | k :: r => r.foldl min k

/-- The offending object of a check that the table of R669 does not name. -/
def View.off (v : View) (objs : List Nat) : Nat :=
  ((tkeys v.writes).find? (fun k => objs.contains k)).getD (leastKey objs)

/-- A check that passes, or fails with a code at the object that R669 gives for the objects it reads. -/
def View.need (v : View) (ok : Bool) (c : Code) (objs : List Nat) : Bad := if ok then none else some (c, v.off objs)

/-- A check that fails at the object named. -/
def needAt (ok : Bool) (c : Code) (obj : Nat) : Bad := if ok then none else some (c, obj)

/-- A number of channel n in the view. -/
def View.ch (v : View) (n off j : Nat) : Nat := odNat v.od (chI n off) j
/-- The key of an object of channel n. -/
def chKey (n off j : Nat) : Nat := okey (chI n off) j
/-- The set changes an object's value. -/
def View.changes (v : View) (k : Nat) : Bool :=
  (tget v.writes k).isSome && odGet v.base (k / 256) (k % 256) != odGet v.od (k / 256) (k % 256)

/-- The channels with an object listed in a map, ascending. -/
def listedChans (od : Tab Val) : List Nat :=
  (od.filterMap (fun kv => if 0x400000 ≤ kv.1 ∧ kv.1 < 0x800000 then some ((kv.1 - 0x400000) / 0x8000) else none)).eraseDups

/-- Channel n is hosted on this device: its own node, or a span group with this node in it (R451). -/
def State.hosts (s : State) (od : Tab Val) (n : Nat) : Bool :=
  let h := odNat od 0x1318 (n + 1)
  s.cluster.role == 0 ||
    (if 0x40 ≤ h ∧ h ≤ 0x43 then bit (odNat od 0x1310 (h - 0x3F)) (odNat od 0x1300 1) else h == odNat od 0x1300 1)

/-- A mode in which R34 and R667 have the enabled channels validated as running. [DEDUCED: log entry 43] -/
def Mode.validates (m : Mode) : Bool := m.media || m == .standby || m == .hold

/-- The channels that run after the commit (R667, R451). -/
def State.runsAfter (s : State) (v : View) : List Nat :=
  if v.mode.validates then (listedChans v.od).filter (fun n => odFlag v.od (chI n 1) 5 && s.hosts v.od n) else []

/-! Source, input and coded format (R139, R153, R205, R300–R309) -/

/-- The formats that R139 accepts, at six objects from subindex `j`. -/
def View.formatBad (v : View) (i j : Nat) : Bad :=
  let g := fun (k : Nat) => odNat v.od i (j + k)
  let one := fun (k : Nat) (ok : Bool) => v.need ok .range [okey i (j + k)]
  firstBad [one 0 (decide (g 0 ≤ 1)), one 1 (decide (g 1 ≤ 2)), one 2 ([8, 10, 12, 16].contains (g 2)),
    one 3 (decide (g 3 ≤ 1)), one 4 (decide (g 4 ≤ 1)), one 5 (decide (g 5 ≤ 2)),
    v.need (g 0 == 0 || g 1 == 0) .range [okey i j, okey i (j + 1)]]

/-- A frame rate of R139. -/
def rateOk (num den : Nat) : Bool := rateCodes.any (fun r => num * r.2 == r.1 * den)

/-- Source and input of channel n (R139, R180, R300–R302, R309, R320, R347). [DEDUCED: log entry 42] -/
def View.inputBad (v : View) (n : Nat) (runs : Bool) : Bad :=
  let g := v.ch n
  let zero := fun (j : Nat) => v.need (g 0 j != 0) (if runs then .zero else .range) [chKey n 0 j, chKey n 1 5]
  let src := g 0x70 1
  let fed := src != 0xFF
  let codec := g 0x70 2
  let enc := g 0x70 4
  let path := fun (off : Nat) =>
    v.need (!(fed && runs && odFlag v.od (chI n off) 1 && enc != 3) || portIp v.od (g off 5) != 0) .range
      [chKey n off 1, chKey n off 5, okey (0x1A00 + g off 5) 4, okey 0x1102 1, okey 0x1102 2]
  firstBad ([1, 2, 3, 4].map zero ++
    [v.formatBad (chI n 0) 5,
     needAt (decide (64 ≤ g 0 1) && decide (g 0 1 ≤ 15360)) .range (chKey n 0 1),
     needAt (decide (64 ≤ g 0 2) && decide (g 0 2 ≤ 8640)) .range (chKey n 0 2),
     v.need (g 0 6 == 0 || g 0 1 % 2 == 0) .range [chKey n 0 1, chKey n 0 6],
     v.need (g 0 6 != 2 || g 0 2 % 2 == 0) .range [chKey n 0 2, chKey n 0 6],
     v.need (rateOk (g 0 3) (g 0 4)) .range [chKey n 0 3, chKey n 0 4],
     v.need (!(g 0x40 1 == 5 && g 0x73 1 != 0 && (tget v.writes (chKey n 0x73 1)).isSome)) .range
       [chKey n 0x40 1, chKey n 0x73 1],
     v.need (!fed || g 0x70 3 != 0) .zero [chKey n 0x70 1, chKey n 0x70 3],
     v.need (!fed || ((src == 4) == (codec == 5))) .range [chKey n 0x70 1, chKey n 0x70 2],
     v.need (!fed || codec != 3 || enc == 3) .range [chKey n 0x70 2, chKey n 0x70 4],
     v.need (!fed || enc != 1 || g 0x72 1 == 0) .range [chKey n 0x70 4, chKey n 0x72 1],
     path 0x71, path 0x72,
     v.need (!fed || (Frac.mk' (1000000000 * g 0 4) (g 0 3)).le (Frac.ofInt (g 0x70 6 * 1000 : Nat))) .range
       [chKey n 0 3, chKey n 0 4, chKey n 0x70 6]])

/-- The formats a profile accepts (R205): the subsamplings, whether R'G'B' too, and the depths. -/
def profileFormats (codec profile : Nat) : Option (List Nat × Bool × List Nat) :=
  match codec, profile with
  | 1, 1 => some ([2], false, [8, 10])
  | 1, 2 => some ([2], false, [8, 10, 12])
  | 1, 3 => some ([0, 1, 2], true, [8, 10])
  | 1, 4 => some ([0, 1, 2], true, [8, 10, 12])
  | 2, 1 => some ([2], false, [8])
  | 2, 2 => some ([2], false, [8, 10])
  | 2, 3 => some ([1, 2], false, [8, 10])
  | 2, 4 => some ([1, 2], false, [8, 10, 12])
  | 2, 5 => some ([0, 1, 2], true, [8, 10, 12])
  | 3, 0 => some ([2], false, [8, 10])
  | 3, 1 => some ([0, 2], true, [8, 10])
  | 3, 2 => some ([0, 1, 2], true, [8, 10, 12])
  | 4, 1 => some ([2], false, [8])
  | 4, 2 => some ([2], false, [8, 10])
  | 4, 3 => some ([1, 2], false, [8, 10])
  | 5, 1 => some ([1], false, [8, 10])
  | 5, 2 => some ([0, 1], true, [8, 10, 12])
  | _, _ => none

/-- Whether a profile accepts a coded format (R205). -/
def profileOk (codec profile model sub depth : Nat) : Bool :=
  match profileFormats codec profile with
  | none => false
  | some (subs, rgb, depths) => subs.contains sub && (model == 0 || rgb) && depths.contains depth

/-- The coded picture format and profile of channel n (R205). -/
def View.profileBad (v : View) (n : Nat) : Bad :=
  let g := v.ch n
  firstBad [v.formatBad (chI n 5) 1,
    v.need (profileOk (g 0x40 1) (g 0x40 2) (g 5 1) (g 5 2) (g 5 3)) .range
      [chKey n 5 1, chKey n 5 2, chKey n 5 3, chKey n 0x40 1, chKey n 0x40 2]]

/-- The transfer and colorimetry at the input and at the output of a conversion preset (R153). -/
def presetDomain (p : Nat) : Option (Nat × Nat × Nat × Nat) :=
  match p with
  | 2 => some (0, 0, 1, 1) | 3 => some (0, 0, 2, 1) | 4 => some (2, 1, 1, 1) | 5 => some (1, 1, 2, 1)
  | 6 => some (1, 1, 0, 0) | 7 => some (2, 1, 0, 0) | 8 => some (0, 0, 0, 1) | 9 => some (0, 1, 0, 0)
  | _ => none

/-- A custom kernel for the taps that read it (R145). [DEDUCED: log entry 43] -/
def kernelOk (b : List Byte) (taps : Nat) : Bool :=
  b.isEmpty || b.length == 1024 && (List.range 64).all (fun ph =>
    let cs := (List.range 8).map (fun t => kernelCoef b ph t)
    cs.sum == 1024 && (cs.drop taps).all (· == 0))

/-- The taps of the scalers of channel n that read its custom kernel of a dimension (R146): the video's where none does.
[DEDUCED: log entry 43] -/
def View.kernelTaps (v : View) (n dim : Nat) : List Nat :=
  let video := if v.ch n 2 9 = 1 then [v.ch n 2 (6 + dim)] else []
  let layers := (List.range 16).filterMap (fun k =>
    if odNat v.od (layI n k 1) 7 = 1 then some (odNat v.od (layI n k 0) (9 + dim)) else none)
  if (video ++ layers).isEmpty then [v.ch n 2 (6 + dim)] else video ++ layers

/-- Conversion presets and tables of channel n (R145, R146, R153). -/
def View.convBad (v : View) (n : Nat) : Bad :=
  let g := v.ch n
  let kernel := fun (d : Nat) => match tget v.writes (chKey n 3 d) with
    | some (.oct b) => needAt ((v.kernelTaps n d).all (kernelOk b)) .range (chKey n 3 d)
    | _ => none
  let same := g 0 10 == g 5 6 && g 0 9 == g 5 5
  let ok := match g 4 1 with
    | 0 => same
    | 1 => true
    | p => presetDomain p == some (g 0 10, g 0 9, g 5 6, g 5 5)
  firstBad [kernel 1, kernel 2,
    v.need ok .range [chKey n 0 9, chKey n 0 10, chKey n 4 1, chKey n 5 5, chKey n 5 6]]

/-! Crop and scaling (R147–R149) -/

/-- Tap counts (R147). -/
def tapsBad (t obj : Nat) : Bad :=
  if t = 0 then some (.zero, obj) else needAt ([2, 4, 6, 8].contains t) .range obj

/-- A ratio of source to destination from 1/lo to hi (R147). -/
def ratioOk (s d lo hi : Nat) : Bool := decide (d ≤ lo * s) && decide (s ≤ hi * d)

/-- The output columns of each stripe of a channel, for checks before its layout is known to be good (R18, R148). -/
def Cfg.stripeEdges (g : Cfg) : List (Nat × Nat) :=
  let k := g.stripes
  if k ≤ 1 ∨ g.tcols < k ∨ g.cols < g.tcols then [(0, g.ow)]
  else (List.range k).map (fun i => (g.stripeX k i, g.stripeX k (i + 1)))

/-- Crop and scaling of channel n, the video and then each layer (R147–R149). -/
def View.scaleBad (v : View) (n : Nat) (g : Cfg) (runs : Bool) : Bad :=
  let c := v.ch n
  let k := chKey n
  let zero := fun (j : Nat) => v.need (c 2 j != 0) (if runs then .zero else .range) [k 1 5, k 2 j]
  let cw := g.crop.getD 2 0
  let chh := g.crop.getD 3 0
  let lay := fun (l : Nat) =>
    let i := layI n l 0
    let f := odNat v.od i
    firstBad [tapsBad (f 10) (okey i 10), tapsBad (f 11) (okey i 11),
      v.need (f 4 == 0 || f 8 == 0 || ratioOk (f 4) (f 8) 8 4) .range [okey i 4, okey i 8],
      v.need (f 5 == 0 || f 9 == 0 || ratioOk (f 5) (f 9) 8 4) .range [okey i 5, okey i 9]]
  let edges := g.stripeEdges
  let span := if edges.length ≤ 1 then g.sw
    else edges.foldl (fun a e => if e.1 < e.2 then max a (g.sourceCols e.1 e.2) else a) 0
  let objs := [k 2 5, k 2 8] ++ (if cw = 0 then [k 0 1] else []) ++
    (if edges.length ≤ 1 then [] else [k 0 1, k 0 2, k 0 3, k 0 4, k 2 1, k 2 7, k 0x40 4, k 0x40 5])
  firstBad ([zero 1, zero 2, tapsBad g.ht (k 2 7), tapsBad g.vt (k 2 8),
    v.need (ratioOk g.sw g.ow 4 2) .range ([k 2 1, k 2 5] ++ (if cw = 0 then [k 0 1] else [])),
    v.need (ratioOk g.sh g.oh 4 2) .range ([k 2 2, k 2 6] ++ (if chh = 0 then [k 0 2] else []))] ++
    (List.range 16).map lay ++
    [v.need (decide (span * g.vt ≤ 65536)) .linebuf objs] ++
    (List.range 16).map (fun l =>
      let i := layI n l 0
      v.need (decide (odNat v.od i 4 * odNat v.od i 11 ≤ 49152)) .linebuf [okey i 4, okey i 11]) ++
    [v.need (cw == 0 || decide (c 2 3 + cw ≤ g.w)) .range [k 0 1, k 2 3, k 2 5],
     v.need (chh == 0 || decide (c 2 4 + chh ≤ g.h)) .range [k 0 2, k 2 4, k 2 6]])

/-! Slate and layers (R157, R162, R163, R166, R671) -/

/-- The quarter whose part of the host surface region holds a run of bytes (R157, R500, R501). -/
def hostQuarter (cfg : Nat × Nat × Bool × Nat) (base size : Nat) : Option Nat :=
  let r := regionBytes cfg
  let part := cfg.2.2.2 * 1048576 / 4
  let q := if r = 0 then 4 else base / r
  if q ≤ 3 ∧ (q + 1) * r ≤ base + part ∧ base + size ≤ (q + 1) * r then some q else none

/-- A descriptor that R157 accepts. -/
def surfaceOk (cfg : Nat × Nat × Bool × Nat) (u : Surf) : Bool :=
  u.empty || (u.ok && (hostQuarter cfg u.base u.bytes).isSome)

/-- One enabled layer as R166, R521 and R670 count it: its columns, its fetch load in bytes per second and the quarter
that holds its surface. -/
structure LayerLoad where
  /-- R160. destination left -/
  x : Int
  /-- R160. destination width -/
  w : Nat
  /-- R166. load, bytes per second -/
  load : Frac
  /-- R521. quarter of its surface -/
  quarter : Nat
deriving DecidableEq, Repr

/-- The enabled layers of channel n. -/
def View.layers (v : View) (cfg : Nat × Nat × Bool × Nat) (n : Nat) (g : Cfg) : List LayerLoad :=
  (List.range 16).filterMap (fun l =>
    let i := layI n l 0
    let f := odNat v.od i
    if f 4 = 0 ∨ f 5 = 0 ∨ f 8 = 0 ∨ f 9 = 0 then none
    else
      let u := surfOf (odBytes v.od i 1)
      let load := (Frac.mk' (f 4 * f 5 * g.num) g.den).mul u.rawBytes
      some { x := odNum v.od i 6, w := f 8, load := load, quarter := (hostQuarter cfg u.base u.bytes).getD 0 })

/-- The stripes in whose pipes a layer counts (R166). -/
def layerStripes (edges : List (Nat × Nat)) (l : LayerLoad) : List Nat :=
  let hit := (List.range edges.length).filter (fun i =>
    let e := edges.getD i (0, 0)
    decide (l.x < e.2) && decide ((e.1 : Int) < l.x + (l.w : Int)))
  if hit.isEmpty then [if l.x + (l.w : Int) ≤ 0 then 0 else edges.length - 1] else hit

/-- The fetch load of each pipe of channel n, bytes per second (R166). -/
def pipeLoads (edges : List (Nat × Nat)) (ls : List LayerLoad) : List Frac :=
  (List.range edges.length).map (fun i =>
    Frac.sum ((ls.filter (fun l => (layerStripes edges l).contains i)).map (fun l => l.load)))

/-- The transfer and colorimetry that a layer colour preset gives (R159, R671). -/
def layerPresetOut (p : Nat) : Option (Nat × Nat) :=
  match p with
  | 2 => some (1, 1) | 3 => some (2, 1) | 4 => some (0, 1) | _ => none

/-- Slate and layers of channel n (R157, R162, R163, R166, R179, R671). -/
def View.layerBad (v : View) (cfg : Nat × Nat × Bool × Nat) (n : Nat) (g : Cfg) : Bad :=
  let all := List.range 16
  let slate := surfOf (odBytes v.od (chI n 6) 1)
  let surf := fun (l : Nat) => surfOf (odBytes v.od (layI n l 0) 1)
  let f := fun (l j : Nat) => odNat v.od (layI n l 0) j
  let p := fun (l j : Nat) => odNat v.od (layI n l 1) j
  let on := fun (l : Nat) => f l 4 != 0 && f l 5 != 0 && f l 8 != 0 && f l 9 != 0
  let k := fun (l j : Nat) => okey (layI n l 0) j
  let k1 := fun (l j : Nat) => okey (layI n l 1) j
  let loads := pipeLoads g.stripeEdges (v.layers cfg n g)
  firstBad ([needAt (surfaceOk cfg slate) .range (chKey n 6 1),
    v.need (slate.empty || (slate.w == g.ow && slate.h == g.oh)) .range [chKey n 2 1, chKey n 2 2, chKey n 6 1]] ++
    all.map (fun l => needAt (surfaceOk cfg (surf l)) .range (k l 1)) ++
    all.map (fun l => v.need (p l 1 != 1 || p l 3 == 0) .range [k1 l 1, k1 l 3]) ++
    all.map (fun l => v.need (!on l || (!(surf l).empty && decide (f l 2 + f l 4 ≤ (surf l).w) &&
      decide (f l 3 + f l 5 ≤ (surf l).h))) .range [k l 1, k l 2, k l 3, k l 4, k l 5]) ++
    all.map (fun l =>
      let ok := match layerPresetOut (p l 3) with
        | some d => d == (v.ch n 5 6, v.ch n 5 5)
        | none => true
      v.need ok .range [chKey n 5 5, chKey n 5 6, k1 l 3]) ++
    [v.need (loads.all (fun x => x.le (Frac.ofInt 5000000000))) .range
      ([chKey n 0 3, chKey n 0 4] ++ (all.filter on).flatMap (fun l => [1, 4, 5, 6, 8, 9].map (k l)))])

/-! Encoder layout, tools and level (R192, R194–R207, R216, R219) -/

/-- Largest width and height, highest rate, tile columns and tile rows of a codec (R197). -/
def codecLimits (codec : Nat) : Nat × Nat × Nat × Nat × Nat :=
  match codec with
  | 4 => (3840, 2160, 60, 1, 1)
  | 5 => (7680, 4320, 60, 1, 1)
  | _ => (15360, 8640, 120, 64, 64)

/-- The CTU sizes of a codec (R197). -/
def codecCtus (codec : Nat) : List Nat :=
  match codec with
  | 1 => [32, 64, 128] | 2 => [32, 64] | 3 => [64, 128] | 4 => [32] | 5 => [32] | _ => []

/-- Luma columns of tile column i. -/
def Cfg.tileLuma (g : Cfg) (i : Nat) : Nat := min (g.tileX (i + 1) * g.ctu) g.cw - g.tileX i * g.ctu
/-- Luma rows of tile row j. -/
def Cfg.tileHigh (g : Cfg) (j : Nat) : Nat := min (g.tileY (j + 1) * g.ctu) g.chh - g.tileY j * g.ctu

/-- The codec's limits on size, rate and layout (R196, R197, R228). -/
def Cfg.layoutBad (g : Cfg) (n : Nat) : Bad :=
  let k := chKey n 0x40
  let lim := codecLimits g.codec
  let tc := List.range g.tcols
  let av1 := g.codec == 3
  let ok := (codecCtus g.codec).contains g.ctu && decide (g.ow ≤ lim.1) && decide (g.oh ≤ lim.2.1) &&
    decide (g.num ≤ lim.2.2.1 * g.den) && decide (g.tcols ≤ lim.2.2.2.1) && (av1 || decide (g.trows ≤ lim.2.2.2.2)) &&
    decide (g.tcols ≤ g.cols) && (av1 || decide (g.trows ≤ g.rows)) && (!av1 || decide (g.rows ≤ 128)) &&
    (g.codec != 2 || tc.all (fun i => decide (256 ≤ g.tileLuma i))) &&
    (!av1 || tc.all (fun i => decide (g.tileLuma i ≤ 4096))) &&
    (g.codec != 2 || (List.range g.trows).all (fun j => decide (64 ≤ g.tileHigh j)))
  firstBad [needAt (g.codec != 0) .zero (k 1), needAt (g.ctu != 0) .zero (k 4), needAt (g.tcols != 0) .zero (k 5),
    needAt (g.trows != 0) .zero (k 6), needAt ok .range (k 1)]

/-- The band of a serial codec against the CTU-row period (R204). -/
def Cfg.bandFits (g : Cfg) : Bool :=
  !g.serial || (g.bandNs g.widest).le ((g.ns g.s).mul (Frac.mk' 85 100))


/-- Whether channel n is pair-shared: every channel hosted here is, while the pair is formed (R481). -/
def pairShared (od : Tab Val) : Bool := odFlag od 0x1400 1

/-- Drop-frame counting is accepted at a rate (R223). -/
def dropFrameOk (num den : Nat) : Bool :=
  den != 0 && num * 1001 % (30000 * den) == 0 && num != 0

/-- Whether the figures of channel n can be worked out: what R197 and R202 ask. -/
def Cfg.known (g : Cfg) (n : Nat) : Bool := (g.layoutBad n).isNone && g.base.isSome && g.w * g.h * g.num * g.den != 0

/-- Encoder layout, tools and level of channel n. [DEDUCED: log entry 42] -/
def View.encoderBad (v : View) (n : Nat) (g : Cfg) : Bad :=
  let k := chKey n 0x40
  let searches := !g.jxs && g.refs != 0
  let gdrOk := decide (2 ≤ g.gdr) && decide (g.gdr ≤ min 1024 g.cols)
  firstBad [needAt (!(g.known n && searches) || decide (0 ≤ g.reach)) .range (k 8),
    g.layoutBad n,
    v.need g.base.isSome .range [k 1, k 7],
    needAt (!g.known n || g.bandFits) .range (k 5),
    v.need (g.levelSet == 0 || (Config.tierAt g.fixedKey g.level).isSome) .range
      [chKey n 0 3, chKey n 0 4, chKey n 2 1, chKey n 2 2, k 1, k 3, chKey n 0x60 3],
    v.need (!pairShared v.od || g.refreshPeriod != 0) .range [okey 0x1400 1, k 9, k 10],
    v.need (g.gdr == 0 || gdrOk) .range [chKey n 2 1, k 4, k 10],
    v.need (g.gdr == 0 || g.keyInt % g.gdr == 0) .range [k 9, k 10],
    v.need (v.ch n 0x41 3 == 0 || dropFrameOk g.num g.den) .range [chKey n 0 3, chKey n 0 4, chKey n 0x41 3]]

/-! Rates and buffer (R241, R243), and changes of a running channel (R239) -/

/-- The floor reserves of every row and of the picture fit, at their largest (R241). -/
def Cfg.floorsFit (g : Cfg) (key : Bool) : Bool :=
  let fx := g.fixedMax key
  (List.range g.drows).all (fun r =>
    decide ((g.rowReserveMax r key + (if r = 0 then fx.1 else 0) + (if r + 1 = g.drows then fx.2.1 else 0) : Nat) ≤
      g.slot r)) &&
  decide ((g.picReserveMax key + fx.2.2 : Nat) ≤ g.capacity)

/-- The channel runs through the commit's boundary (R239): it runs, and still does after it. -/
def State.through (s : State) (v : View) (n : Nat) : Bool :=
  (s.ch n).running && s.mode.media && v.mode.media && odFlag v.od (chI n 1) 5

/-- Rates and buffer of channel n alone (R238, R241, R243, R261). [DEDUCED: log entry 42] -/
def View.rateBad (v : View) (n : Nat) (g : Cfg) (through : Bool) : Bad :=
  let k := chKey n 0x60
  let late := fun (j : Nat) =>
    needAt (!(through && v.changes (k j)) || (g.gdr == 0 && v.changes (chKey n 0x40 11))) .range (k j)
  firstBad [needAt (g.rt != 0) .zero (k 2), needAt (g.rp != 0) .zero (k 3),
    needAt (decide (1000000 ≤ g.rt)) .range (k 2),
    v.need (decide (g.rt ≤ g.rp)) .range [k 2, k 3],
    needAt (decide (g.rp ≤ 3000000000)) .range (k 3),
    v.need (!g.jxs || g.filled) .range [chKey n 0x40 1, k 1],
    needAt (!g.known n || (Frac.ofInt (2 + 2 * g.lock : Nat)).le g.sd) .range (k 3),
    needAt (!g.known n || (g.floorsFit true && g.floorsFit false)) .range (k 3),
    v.need (g.latMode == 0 || g.lset != 0) .zero [k 4, k 5],
    v.need (g.latMode == 0 || decide (g.lset ≤ 4 * g.h)) .range [chKey n 0 2, k 4, k 5],
    late 1, late 3]

/-- The objects that fix L, S_d, A and P (R239). -/
def latencyKeys (n : Nat) : List Nat :=
  [chKey n 0 2, chKey n 2 2, chKey n 2 4, chKey n 2 6, chKey n 0x40 1, chKey n 0x40 4, chKey n 0x60 4, chKey n 0x60 5]

/-- A change of L, S_d, A or P of a channel that runs through the boundary (R239). -/
def View.runningBad (v : View) (n : Nat) (g old : Cfg) (through : Bool) : Bad :=
  let eq := fun (a b : Frac) => a.le b && b.le a
  let same := g.l == old.l && eq g.sd old.sd && eq g.a old.a && g.p == old.p
  if !through || same then none
  else some (.range, ((tkeys v.writes).find? (fun k => (latencyKeys n).contains k && v.changes k)).getD
    (v.off (latencyKeys n)))

/-! The channel's lanes (R133, R407, R422) -/

/-- The largest padded line body of a format, bytes (R418, R422). -/
def lineBytes (w model sub depth anc lanes : Nat) : Nat :=
  let per := if model = 1 ∨ sub = 0 then 3 * w else 2 * w
  ceilDiv (anc + ceilDiv (per * depth) 8 + 4) (4 * lanes) * (4 * lanes)

/-- A bond of `lanes` data lanes at a rate code carries a line body within 0.95 of a line (R422). -/
def bondFits (body lanes code : Nat) (line : Frac) : Bool :=
  ((Frac.ofInt 46).add (Frac.mk' body lanes)).mul (Frac.mk' 8 code) |>.le (line.mul (Frac.mk' 95 100))

/-- The lanes of channel n (R133, R422). -/
def View.laneBad (v : View) (n : Nat) (g : Cfg) : Bad :=
  let k := chKey n 10
  let c := v.ch n 10
  let ingest := bits (c 1) laneCount
  let back := bits (c 4) laneCount
  let role := fun (x : Nat) => odNat v.od 0x1900 (x / 4 + 1)
  let rate := fun (x : Nat) => odNat v.od 0x1901 (x / 4 + 1)
  let quads := fun (i : Nat) (l : List Nat) => l.map (fun x => okey i (x / 4 + 1))
  let one := fun (l : List Nat) (j r : Nat) => firstBad
    [v.need (l.all (fun x => role x == r)) .range (k j :: quads 0x1900 l),
     v.need (l.all (fun x => rate x == rate (l.headD 0))) .range (k j :: quads 0x1901 l),
     v.need (l.length != 1 || c (j + 1) == 0) .range [k j, k (j + 1)]]
  let speed := fun (b : Bond) (w : Nat) (fmt : List Nat) (anc : Nat) (objs : List Nat) =>
    v.need (b.data.isEmpty || bondFits (lineBytes w (fmt.getD 0 0) (fmt.getD 1 0) (fmt.getD 2 0) anc b.data.length)
      b.data.length (rate (b.data.headD 0)) g.line) .range (objs ++ quads 0x1901 b.data)
  firstBad [v.need (!g.enable || v.ch n 0x70 1 != 0xFF || !ingest.isEmpty) .zero [chKey n 1 5, k 1, chKey n 0x70 1],
    one ingest 1 1, one back 4 3,
    speed (bondOf (c 1) (c 2 != 0)) g.w g.fmt (c 3) ([1, 2, 3, 4, 5, 6, 7].map (chKey n 0) ++ [k 1, k 2, k 3]),
    speed (bondOf (c 4) (c 5 != 0)) g.ow g.ofmt 0
      ([chKey n 0 2, chKey n 0 3, chKey n 0 4, chKey n 2 1, chKey n 5 1, chKey n 5 2, chKey n 5 3, k 4, k 5])]

/-! The flows that name the channel (R347, R350–R368, R380) -/

/-- A number of flow f in the view. -/
def View.fl (v : View) (f part j : Nat) : Nat := odNat v.od (flI f part) j
/-- The key of an object of flow f. -/
def flKey (f part j : Nat) : Nat := okey (flI f part) j

/-- The bytes of one sample in a PCM stream of ST 2110-30 (R366). -/
def pcmBytes (fmt : Nat) : Nat := if fmt = 0 then 3 else 2

/-- The PCM forms of R366. -/
def pcmOk (fs time chans : Nat) : Bool :=
  decide (1 ≤ chans) && (match fs, time with
    | 48000, 0 => decide (chans ≤ 8)
    | 48000, 1 => decide (chans ≤ 64)
    | 96000, 0 => decide (chans ≤ 4)
    | 96000, 1 => decide (chans ≤ 32)
    | _, _ => false)

/-- The TS rate of an audio output, b/s (R401). -/
def aoTsRate (od : Tab Val) (o : Nat) : Frac :=
  let c := codecAu (odNat od (0x1B40 + o) 5)
  let fs := apFs od (odNat od (0x1B40 + o) 2)
  let rmax := if odNat od (0x1B40 + o) 5 = 0 then Frac.ofInt (aoRate od o) else Frac.mk' (3 * aoRate od o) 2
  (rmax.mul (Frac.mk' 188 184)).add (Frac.mk' (1616 * fs) c.1)

/-- The audio outputs that a TS flow carries (R362). -/
def tsOutputs (od : Tab Val) (f : Nat) : List Nat := bits (odNat od (flI f 2) 7) 32

/-- One flow's checks in a step of the list of R668. -/
def View.flowSteps (v : View) (s : State) (g : Cfg) (n f : Nat) : List Bad :=
  let h := v.fl f
  let k := flKey f
  let od := v.od
  let content := h 0 3
  let tr := h 0 4
  let audio := decide (0x20 ≤ content)
  let out := content - 0x20
  let ts := carriesTs od f
  let ring := onRing od f
  let fits := match content with
    | 0 => (tr == 0 && g.codec != 3) || tr == 4
    | 1 => ts
    | _ => audio && ((tr == 3 && odNat od (0x1B40 + out) 5 == 0) || (tr == 4 && odNat od (0x1B40 + out) 5 != 0))
  let running := (s.fl f).running
  let start := [k 1 2, k 1 3, k 1 4].filter v.changes
  let need := ((Frac.mk' (103 * g.rp) 100).add (Frac.sum ((tsOutputs od f).map (aoTsRate od)))).add (Frac.ofInt 500000)
  let fs := apFs od (odNat od (0x1B40 + out) 2)
  let pathB := h 0 8 != 0 && !ring
  let pids := [h 2 4, h 2 5] ++ (List.range (tsOutputs od f).length).map (fun i => h 2 6 + i)
  let pidObjs := [k 2 4, k 2 5, k 2 6, k 2 7]
  let zero := fun (i j : Nat) (use_ : Bool) => v.need (!use_ || h i j != 0) .zero [k 0 1, k 0 4, k 0 8, k i j]
  let addr := fun (j : Nat) (use_ : Bool) => v.need (!use_ || portIp od (h 0 j) != 0) .range
    [okey 0x1102 1, okey 0x1102 2, okey (0x1A00 + h 0 j) 4, k 0 1, k 0 j]
  [v.need fits .range ([k 0 3, k 0 4, chKey n 0x40 1] ++ (if audio then [okey (0x1B40 + out) 5] else [])),
   v.need (!(g.jxs && content == 0 && tr == 0) || h 1 4 == 0) .range [k 1 4, chKey n 0x40 1],
   (if running && !start.isEmpty then some (.range, v.off start) else none),
   (if !ts then none else if h 2 1 = 0 then some (.zero, v.off [k 0 1, k 0 4, k 2 1])
    else v.need (need.le (Frac.ofInt (h 2 1))) .range ([k 2 1, k 2 7, chKey n 0x60 3] ++
      (tsOutputs od f).flatMap (fun o => [okey (0x1B40 + o) 4, okey (0x1B40 + o) 5, okey (0x1B40 + o) 6]))),
   v.need (tr != 3 || pcmOk fs (h 1 5) (odNat od (0x1B40 + out) 4)) .range
     [k 0 3, k 0 4, k 1 5, okey (0x1B40 + out) 2, okey (0x1B40 + out) 4],
   v.need (!pathB || h 0 5 != h 0 9) .range [k 0 5, k 0 8, k 0 9],
   firstBad [zero 0 6 (!ring), zero 0 7 (!ring), zero 0 10 pathB, zero 0 11 pathB, zero 0 12 (!ring), zero 2 8 ts],
   v.need (!ts || (pids.all (fun p => decide (0x20 ≤ p) && decide (p ≤ 0x1FFE)) && pids.eraseDups.length == pids.length))
     .range pidObjs,
   firstBad [addr 5 (!ring), addr 9 pathB]]

/-- The enabled flows that name channel n (R379). -/
def View.flowsNaming (v : View) (n : Nat) : List Nat := (enabledFlows v.od).filter (fun f => v.fl f 0 2 == n)

/-- The flows that name channel n: each check over them in ascending number. [DEDUCED: log entry 42] -/
def View.flowBad (v : View) (s : State) (n : Nat) (g : Cfg) : Bad :=
  let steps := (v.flowsNaming n).map (v.flowSteps s g n)
  firstBad ((List.range 9).flatMap (fun i => steps.map (fun l => l.getD i none)))

/-! The channel checks together -/

/-- Channel n's settings in the view. -/
def View.cfg (v : View) (s : State) (n : Nat) : Cfg := cfgOf v.od s.sec n
/-- The chain minimum of channel n in the view (R235). -/
def View.chain (v : View) (s : State) (g : Cfg) : Nat := g.chain (g.g (s.hopsIn v.od)) g.x

/-- The channel checks of channel n, in the order of R668. [DEDUCED: log entry 43] -/
def State.channelBad (s : State) (v : View) (n : Nat) : Bad :=
  let g := v.cfg s n
  let runs := (s.runsAfter v).contains n
  let through := s.through v n
  firstBad [v.inputBad n runs, v.profileBad n, v.convBad n, v.scaleBad n g runs, v.layerBad s.dramCfg n g,
    v.encoderBad n g, v.rateBad n g through, v.runningBad n g (cfgOf v.base s.sec n) through,
    v.laneBad n g, v.flowBad s n g,
    needAt (!g.known n || decide (v.chain s g ≤ g.l)) .latency (chKey n 0x60 5)]

/-- Objects outside the channel blocks that channel checks read (R347, R407, R422). -/
def sharedIndex (i : Nat) : Bool :=
  i == 0x1102 || i == 0x1900 || i == 0x1901 || i == 0x1400 || (decide (0x1A00 ≤ i) && decide (i ≤ 0x1A03)) ||
    (decide (0x1B00 ≤ i) && decide (i < 0x1B60))

/-- The channels that a set touches or whose checks read an object it writes, ascending (R668). [DEDUCED: log entry 43] -/
def State.touched (s : State) (v : View) : List Nat :=
  let idx := (tkeys v.writes).map (· / 256)
  let own := idx.filterMap (fun i => if 0x4000 ≤ i ∧ i < 0x8000 then some ((i - 0x4000) / 0x80) else none)
  let flows := (idx.filterMap (fun i => if 0x3000 ≤ i ∧ i < 0x4000 then some ((i - 0x3000) / 4) else none)).map
    (fun f => v.fl f 0 2)
  let all := if idx.any sharedIndex then
      (listedChans v.od).filter (fun n => v.ch n 10 1 != 0 || v.ch n 10 4 != 0 || v.ch n 1 5 != 0) else []
  let l := own ++ flows ++ all ++ s.runsAfter v
  channels.filter (fun n => l.contains n && s.hosts v.od n)

end Sys2Proof.Machine
end

