-- ==== Sys2Proof/Machine/Placement.lean ====
section
/-! DEFINITION. Placement.lean: the device-wide checks of a stage set, in the order of R668, with the placement and the
berths they work out (R17–R20, R203, R237, R263, R269, R270, R292, R521, R670). -/

namespace Sys2Proof.Machine

/-- The sources that the mode allows (R31, R316): in ENCODE no commit names a Belvedere, and none of a running channel.
[DEDUCED: log entry 43] -/
def View.sourceBad (v : View) (runs : List Nat) : Bad :=
  firstBad (((listedChans v.od).filter (fun n => runs.contains n || v.mode == .encode && v.changes (chKey n 0x70 1))).map (fun n =>
    let lanes := v.ch n 0x70 1 == 0xFF
    match v.mode with
    | .encode => needAt lanes .range (chKey n 0x70 1)
    | .decode => v.need (!lanes && v.ch n 10 4 != 0) .range [chKey n 10 4, chKey n 0x70 1]
    | _ => none))

/-- The lanes that a channel names (R422). -/
def View.lanesOf (v : View) (n : Nat) : Nat := Nat.lor (v.ch n 10 1) (v.ch n 10 4)

/-- A quad in use: a running channel names a lane of it, or it carries an up Carriageway port (R407). -/
def State.quadUsed (s : State) (q : Nat) : Bool :=
  s.runningChans.any (fun n =>
    Nat.land (Nat.lor (s.nat (chI n 10) 1) (s.nat (chI n 10) 4)) (15 * 2 ^ (4 * q)) != 0) ||
  (match s.portOfQuad q with
    | some p => s.cwUp p
    | none => false)

/-- Quad roles and lane sharing (R20, R407, R422). -/
def State.quadBad (s : State) (v : View) : Bad :=
  let quads := List.range 12
  let role := fun (q : Nat) => odNat v.od 0x1900 (q + 1)
  let port := fun (p : Nat) => odNat v.od 0x1902 (p + 1)
  let rk := fun (q : Nat) => okey 0x1900 (q + 1)
  let cks := fun (q : Nat) => [1, 2, 3, 4].map (fun p => okey 0x1902 p) ++ [rk q]
  let named := (listedChans v.od).filter (fun n => v.lanesOf n != 0)
  firstBad ([v.need (decide ((quads.filter (fun q => role q == 1)).length ≤ 8)) .range (quads.map rk)] ++
    quads.map (fun q => v.need (role q != 2 || odNat v.od 0x1901 (q + 1) == 16) .range [rk q, okey 0x1901 (q + 1)]) ++
    quads.map (fun q => v.need (role q != 2 || ([0, 1, 2, 3].filter (fun p => port p == q)).length == 1) .range (cks q)) ++
    [0, 1, 2, 3].map (fun p => v.need (decide (12 ≤ port p) || role (port p) == 2) .range
      [okey 0x1902 (p + 1), rk (port p)]) ++
    quads.map (fun q =>
      let ch := [rk q, okey 0x1901 (q + 1)].filter v.changes
      if ch.isEmpty || !s.quadUsed q then none else some (.busy, leastKey ch)) ++
    named.map (fun n => v.need (named.all (fun m => m == n || Nat.land (v.lanesOf m) (v.lanesOf n) == 0)) .range
      (named.flatMap (fun m => [chKey m 10 1, chKey m 10 4]))))

/-! Placement (R18, R19, R670) -/

/-- What is placed in a quarter (R190, R203, R292, R521, R670): pixels per second of its Pergola, its Lookouts and its
Belvedere, cycles per second, and charged bytes per second of DRAM, inline ECC included. -/
structure Load where
  /-- R670. Pergola -/
  pergola : Frac := ⟨0, 0⟩
  /-- R190. Lookouts -/
  lookout : Frac := ⟨0, 0⟩
  /-- R203. cycles -/
  cycles : Frac := ⟨0, 0⟩
  /-- R292. Belvedere -/
  belv : Frac := ⟨0, 0⟩
  /-- R521. DRAM -/
  dram : Frac := ⟨0, 0⟩
deriving DecidableEq, Repr, Inhabited

/-- Two loads together. -/
def Load.add (a b : Load) : Load :=
  { pergola := a.pergola.add b.pergola, lookout := a.lookout.add b.lookout, cycles := a.cycles.add b.cycles,
    belv := a.belv.add b.belv, dram := a.dram.add b.dram }
/-- A load within another. -/
def Load.le (a b : Load) : Bool :=
  a.pergola.le b.pergola && a.lookout.le b.lookout && a.cycles.le b.cycles && a.belv.le b.belv && a.dram.le b.dram

/-- The DRAM admission limit of a quarter, bytes per second (R521). [DEDUCED: log entry 44] -/
def View.dramLimit (v : View) : Frac :=
  Frac.ofInt (if odNat v.od 0x1800 5 = 1 then 84 * 682600000 else 90 * 682600000)

/-- What a quarter can hold with `w` working Pavilions. [DEDUCED: log entry 44] -/
def View.room (v : View) (w : Nat) : Load :=
  let g4 := Frac.ofInt 4000000000
  { pergola := g4, lookout := g4, cycles := Frac.ofInt (1360000000 * w : Nat), belv := g4, dram := v.dramLimit }

/-- Raw bytes per pixel of the coded format (R521). -/
def Cfg.rawPixel (g : Cfg) : Frac :=
  Frac.mk' ((if g.omodel = 1 ∨ g.osub = 0 then 6 else if g.osub = 1 then 4 else 3) * g.odepth) 16

/-- The share of its pictures that a channel's confidence check decodes (R292, R295, R300). -/
def View.confShare (v : View) (n : Nat) (g : Cfg) : Frac :=
  match v.ch n 0x73 1 with
  | 0 => ⟨0, 0⟩
  | m => if g.jxs then ⟨0, 0⟩ else Frac.mk' 1 (if m = 2 then v.ch n 0x73 2 else 1)

/-- The tile columns of each stripe that this device codes of channel n (R18, R457), and its input width. -/
def State.stripeTiles (s : State) (v : View) (n : Nat) (g : Cfg) : List (Nat × Nat) × Nat :=
  let u : State := { s with od := v.od }
  let own := u.ownTiles n
  let win := (u.lineWindow n).2
  let k := max 1 ((Frac.mk' (win * g.h * g.num) g.den).div (Frac.ofInt 4000000000)).ceil.toNat
  ((List.range k).map (fun i => (own.1 + i * (own.2 - own.1) / k, own.1 + (i + 1) * (own.2 - own.1) / k)), win)

/-- A charge as R521 counts it with inline ECC on or off. [DEDUCED: log entry 44] -/
def State.eccCharge (s : State) (x : Frac) : Frac := if s.dramCfg.2.2.1 then x.mul (Frac.mk' 8 7) else x

/-- The load of one stripe of channel n. -/
def State.stripeLoad (s : State) (v : View) (n : Nat) (g : Cfg) (whole : Option Nat) (t : Nat × Nat) : Load :=
  let x0 := min g.ow (g.tileX t.1 * g.ctu)
  let x1 := min g.ow (g.tileX t.2 * g.ctu)
  let cols := whole.getD (g.sourceCols x0 x1)
  let perg := Frac.mk' (cols * g.h * g.num) g.den
  let pix := Frac.mk' ((x1 - x0) * g.oh * g.num) g.den
  let rho := Frac.mk' (odNat v.od 0x1800 13) 16384
  let conf := v.confShare n g
  let nref := if g.jxs then 0 else g.refs
  let f4 := g.inF4
  let assist := if v.ch n 0x70 1 = 4 then perg.mul (Frac.mk' (800 * f4) 4096) else ⟨0, 0⟩
  let times := ((Frac.ofInt 2).add (rho.mul (Frac.ofInt (nref + 1 : Nat)))).add (conf.mul (Frac.mk' 3 4))
  { pergola := perg, lookout := if nref = 0 then ⟨0, 0⟩ else pix,
    cycles := (g.demand (g.tileX t.2 - g.tileX t.1)).add assist, belv := pix.mul conf,
    dram := s.eccCharge ((pix.mul g.rawPixel).mul times) }

/-- The four quarters' loads with one changed. -/
def addLoad (ls : List Load) (q : Nat) (x : Load) : List Load := ls.set q ((ls.getD q {}).add x)

/-- What stands in the quarters before any placement: the Belvedere sources (R292, R521) and the layers, in the quarters
that hold their surfaces (R521). [DEDUCED: log entry 44] -/
def State.fixedLoads (s : State) (v : View) (runs : List Nat) : List Load :=
  runs.foldl (fun ls n =>
    let g := v.cfg s n
    let src := v.ch n 0x70 1
    let pin := Frac.mk' (g.w * g.h * g.num) g.den
    let a := if src ≤ 3 then addLoad ls src { belv := pin, dram := s.eccCharge ((pin.mul g.rawPixel).mul (Frac.ofInt 3)) }
      else ls
    (v.layers s.dramCfg n g).foldl (fun b l => addLoad b l.quarter { dram := s.eccCharge l.load }) a) [{}, {}, {}, {}]

/-- The settings whose change places a running channel anew: rate, format and tile layout (R19). [DEDUCED: log entry 45] -/
def placementKeys (n : Nat) : List Nat :=
  [1, 2, 3, 4, 5, 6, 7, 8, 9, 10].map (chKey n 0) ++ [1, 2, 3, 4, 5, 6].map (chKey n 2) ++
    [1, 2, 3, 4, 5, 6].map (chKey n 5) ++ [4, 5, 6].map (chKey n 0x40)

/-- A placement in progress: the channels placed with the quarters of their stripes, the quarters' loads, and the first
failure. -/
structure Placing where
  /-- R670. channel and the quarter of each stripe, left to right -/
  placed : List (Nat × List Nat)
  /-- R670. loads of FQ0–FQ3 -/
  loads : List Load
  /-- R670. failure -/
  bad : Bad := none
deriving DecidableEq, Repr, Inhabited

/-- The members of a span group in a map of objects. -/
def groupMembers (od : Tab Val) (h : Nat) : List Nat :=
  if 0x40 ≤ h ∧ h ≤ 0x43 then bits (odNat od 0x1310 (h - 0x3F)) 16 else []

/-- Whether a stripe of channel n may join what is placed in quarter q: a span stripe shares its quarter with no independent
channel (R32). [DEDUCED: log entry 45] -/
def View.mayShare (v : View) (n q : Nat) (placed : List (Nat × List Nat)) : Bool :=
  let span := fun m => groupMembers v.od (odNat v.od 0x1318 (m + 1)) != []
  placed.all (fun x => !x.2.contains q || span x.1 == span n)

/-- One channel placed in the quarters with room (R670); a channel that R19 keeps stays where it is. -/
def State.placeOne (s : State) (v : View) (rooms : List Load) (keep : List Nat) (p : Placing) (n : Nat) : Placing :=
  if p.bad.isSome then p
  else
    let g := v.cfg s n
    let st := s.stripeTiles v n g
    let k := st.1.length
    let xs := st.1.map (s.stripeLoad v n g (if k = 1 then some st.2 else none))
    if keep ≠ [] then
      { p with placed := p.placed ++ [(n, keep)],
               loads := (keep.zip xs).foldl (fun ls (qx : Nat × Load) => addLoad ls qx.1 qx.2) p.loads }
    else if st.1.any (fun t => decide (t.2 ≤ t.1)) then { p with bad := some (.range, chKey n 0x40 5) }
    else
      let r := xs.foldl (fun (a : Option (List Nat × List Load)) x => a.bind (fun (ql : List Nat × List Load) =>
        ([0, 1, 2, 3].find? (fun q => !ql.1.contains q && v.mayShare n q p.placed && ((ql.2.getD q {}).add x).le
            (rooms.getD q {}))).map (fun q =>
          (ql.1 ++ [q], addLoad ql.2 q x)))) (some ([], p.loads))
      match r with
      | some (qs, ls) => { p with placed := p.placed ++ [(n, qs)], loads := ls }
      | none => { p with bad := some (.range, chKey n 0x40 7) }

/-- The quarters of the stripes of a channel that R19 keeps where it is, running or awaiting its first boundary; none for one
that is placed anew. -/
def State.kept (s : State) (v : View) (n : Nat) : List Nat :=
  let c := s.ch n
  if (c.running || odFlag v.base (chI n 1) 5) && !(placementKeys n).any v.changes then c.stripes else []

/-- The working Pavilions of quarter q in the view (R203, R278). -/
def State.workingIn (s : State) (v : View) (q : Nat) : List Nat :=
  ({ s with od := v.od } : State).workingPavs q

/-- The placement of the channels that run after the commit (R670). [DEDUCED: log entry 45] -/
def State.placing (s : State) (v : View) (runs : List Nat) : Placing :=
  let rooms := [0, 1, 2, 3].map (fun q => v.room (s.workingIn v q).length)
  let stay := runs.filter (fun n => s.kept v n != [])
  let order := isort (fun (a b : Nat) => (v.cfg s b).rate.lt (v.cfg s a).rate)
    (runs.filter (fun n => !stay.contains n))
  let p0 := stay.foldl (fun p n => s.placeOne v rooms (s.kept v n) p n) { placed := [], loads := s.fixedLoads v runs }
  let p1 := order.foldl (fun p n => s.placeOne v rooms [] p n) p0
  let above := [0, 1, 2, 3].filter (fun q =>
    let x := p1.loads.getD q {}
    !({ x with dram := ⟨0, 0⟩ } : Load).le (rooms.getD q {}))
  let first := isort (fun (a b : Nat × List Nat) => (v.cfg s b.1).rate.lt (v.cfg s a.1).rate) p1.placed
  match p1.bad, above with
  | some b, _ => { p1 with bad := some b }
  | none, [] => p1
  | none, q :: _ => { p1 with bad := some (.range, chKey (((first.find? (fun x => x.2.contains q)).map Prod.fst).getD
      (runs.headD 0)) 0x40 7) }

/-! Berths and latency (R186, R237, R269, R270) -/

/-- One band sequence (R269): its channel and tile column, B and S in ns, m, the terms of condition (b) but for w and r in
lines, and one line in ns. -/
structure Seq where
  /-- R269. channel -/
  chan : Nat
  /-- R269. tile column -/
  tile : Nat
  /-- R234. B, ns -/
  b : Frac
  /-- R230. S, ns -/
  s : Frac
  /-- R269. m -/
  m : Nat
  /-- R269. A + P + 2B + 1 + G + X, lines -/
  base : Frac
  /-- R5. one line, ns -/
  line : Frac
deriving DecidableEq, Repr, Inhabited

/-- A band sequence of channel n. -/
def State.seqOf (s : State) (v : View) (n : Nat) (g : Cfg) (i : Nat) : Seq :=
  let b := g.bandNs g.widest
  let sp := g.ns g.s
  { chan := n, tile := i, b := b, s := sp,
    m := if g.serial then 1 else max 1 (b.div (sp.mul (Frac.mk' 85 100))).ceil.toNat,
    base := (g.core.add (g.g (s.hopsIn v.od))).add g.x, line := g.line }

/-- The order in which a quarter's sequences are berthed (R269). -/
def Seq.before (x y : Seq) : Bool :=
  if (decide (1 < x.m)) != (decide (1 < y.m)) then decide (1 < x.m)
  else y.b.lt x.b || (x.b.le y.b && y.b.le x.b && (decide (x.chan < y.chan) || (x.chan == y.chan && decide (x.tile < y.tile))))

/-- The sum of B on a Pavilion. -/
def sumB (l : List Seq) : Frac := Frac.sum (l.map (fun x => x.b))

/-- A quarter's berths in progress: each working Pavilion with the sequences on it, the Pavilions of step 1, each sequence
with its Pavilions, and the first that found none. -/
structure Berthing where
  /-- R269. Pavilions and the sequences on them -/
  pavs : List (Nat × List Seq)
  /-- R269. Pavilions taken in step 1 -/
  taken : List Nat := []
  /-- R269. sequences berthed, in order, with their Pavilions -/
  got : List (Seq × List Nat) := []
  /-- R269. channel of a sequence that found no Pavilion -/
  failed : Option Nat := none
deriving DecidableEq, Repr, Inhabited

/-- Condition (a) of R269 on a Pavilion. -/
def holdsA (l : List Seq) : Bool :=
  match l with
  | [] => true
  | x :: r => (sumB l).le ((r.foldl (fun a y => Frac.min a y.s) x.s).mul (Frac.mk' 85 100))

/-- One sequence berthed (R269, steps 1 and 2). -/
def Berthing.put (b : Berthing) (x : Seq) : Berthing :=
  let onto := fun (ps : List Nat) => b.pavs.map (fun kv => if ps.contains kv.1 then (kv.1, x :: kv.2) else kv)
  if b.failed.isSome then b
  else if 1 < x.m then
    let ps := ((b.pavs.filter (fun kv => kv.2.isEmpty)).map Prod.fst).take x.m
    if ps.length < x.m then { b with failed := some x.chan }
    else { b with pavs := onto ps, taken := b.taken ++ ps, got := b.got ++ [(x, ps)] }
  else
    let free := b.pavs.filter (fun kv => !b.taken.contains kv.1 && holdsA (x :: kv.2))
    let best := free.foldl (fun (a : Option (Nat × List Seq)) kv => match a with
      | none => some kv
      | some k => if (sumB kv.2).lt (sumB k.2) then some kv else some k) none
    match best with
    | none => { b with failed := some x.chan }
    | some kv => { b with pavs := onto [kv.1], got := b.got ++ [(x, [kv.1])] }

/-- The least L that condition (b) of R269 allows a berthed sequence (R270). -/
def Berthing.least (b : Berthing) (x : Seq) (ps : List Nat) : Nat :=
  let relief := b.pavs.any (fun kv => kv.2.isEmpty)
  let r := if relief then Frac.ofInt 0 else Frac.maxOf (b.got.map (fun y => y.1.b))
  let w := if 1 < x.m then Frac.ofInt 0
    else Frac.sum (((b.pavs.filter (fun kv => ps.contains kv.1)).flatMap (fun kv =>
      kv.2.filter (fun y => !(y.chan == x.chan && y.tile == x.tile)))).map (fun y => y.b))
  (x.base.add ((w.add r).div x.line)).ceil.toNat

/-- The berths of quarter q under a placement. [DEDUCED: log entry 45] -/
def State.berthing (s : State) (v : View) (placed : List (Nat × List Nat)) (q : Nat) : Berthing :=
  let seqs := placed.flatMap (fun p =>
    let g := v.cfg s p.1
    let st := (s.stripeTiles v p.1 g).1
    ((p.2.zip st).filter (fun x => x.1 == q)).flatMap (fun x =>
      (List.range (x.2.2 - x.2.1)).map (fun i => s.seqOf v p.1 g (x.2.1 + i))))
  (isort Seq.before seqs).foldl Berthing.put { pavs := (s.workingIn v q).map (fun p => (p, [])) }

/-- What a validation works out beside its verdict. -/
structure Figures where
  /-- R670. placement -/
  place : Placing
  /-- R269. berths of FQ0–FQ3 -/
  berths : List Berthing
  /-- R270. least L of each channel placed -/
  least : List (Nat × Nat)
  /-- R235. L_min of each channel checked -/
  lmin : List (Nat × Nat)
deriving DecidableEq, Repr, Inhabited

/-- The figures of a validation (R237, R269, R270, R670). [DEDUCED: log entry 45] -/
def State.figures (s : State) (v : View) : Figures :=
  let runs := (s.runsAfter v).filter (fun n => (v.cfg s n).known n)
  let p := s.placing v runs
  let bs := [0, 1, 2, 3].map (s.berthing v p.placed)
  let all := bs.flatMap (fun b => b.got.map (fun x => (x.1.chan, b.least x.1 x.2)))
  let least := (p.placed.map Prod.fst).map (fun n =>
    (n, ((all.filter (fun x => x.1 == n)).map Prod.snd).foldl max 0))
  let known := (s.touched v).filter (fun n => (v.cfg s n).known n)
  { place := p, berths := bs, least := least,
    lmin := known.map (fun n => (n, max (v.chain s (v.cfg s n)) (((least.find? (fun x => x.1 == n)).map Prod.snd).getD 0))) }

/-- Berths and latency (R237, R269, R270). -/
def State.latencyBad (s : State) (v : View) (f : Figures) : Bad :=
  let failed := f.berths.filterMap (fun b => b.failed)
  let low := isort (fun (a b : Nat) => decide (a < b)) ((f.lmin.filter (fun x =>
    (f.least.any (fun y => y.1 == x.1)) && decide ((v.cfg s x.1).l < x.2))).map Prod.fst)
  match failed, low with
  | n :: r, _ => some (.range, chKey (r.foldl min n) 0x60 5)
  | [], n :: _ => some (.latency, chKey n 0x60 5)
  | [], [] => none

/-! Stalls, rates, DRAM and NET (R233, R241, R263, R351, R521) -/

/-- The stall reservations of all channels (R263). -/
def State.reserved (s : State) (v : View) (runs : List Nat) : List (Nat × Nat) :=
  runs.map (fun n => (n, (v.cfg s n).reservation (flowCount v.od n)))

/-- The sum of peak rates (R241, R669). -/
def State.peakBad (s : State) (v : View) (runs : List Nat) : Bad :=
  let own := (tkeys v.writes).filterMap (fun k => let i := k / 256
    if 0x4000 ≤ i ∧ i < 0x8000 then some ((i - 0x4000) / 0x80) else none)
  let pick := let l := runs.filter (fun n => own.contains n)
    if l.isEmpty then runs else l
  needAt (decide ((runs.map (fun n => (v.cfg s n).rp)).sum ≤ 12000000000)) .range (chKey (pick.foldl max 0) 0x60 3)

/-- DRAM admission (R521, R669). -/
def View.dramBad (v : View) (loads : List Load) : Bad :=
  firstBad ([0, 1, 2, 3].map (fun q => needAt ((loads.getD q {}).dram.le v.dramLimit) .range (okey 0x1802 (q + 1))))

/-- The wire peak rate of flow f, b/s (R351), and the largest IP datagram it sends. [DEDUCED: log entry 72] -/
def View.wire (v : View) (s : State) (f : Nat) : Frac × Nat :=
  let h := v.fl f
  let dmax := h 0 16
  match h 0 4 with
  | 0 => (Frac.mk' ((v.cfg s (h 0 2)).rp * (dmax + 42)) (dmax - 44), dmax)
  | 3 =>
    let o := h 0 3 - 0x20
    let fs := apFs v.od (odNat v.od (0x1B40 + o) 2)
    let n := if h 1 5 = 0 then fs / 1000 else fs / 8000
    let size := 40 + n * odNat v.od (0x1B40 + o) 4 * pcmBytes (h 1 6)
    (Frac.mk' ((size + 42) * 8 * fs) n, size)
  | _ => (Frac.mk' (h 2 1 * 1398) 1316, 1356)

/-- The paths of a flow's NET ports (R368). -/
def View.portsOf (v : View) (f : Nat) : List Nat :=
  if onRing v.od f then [] else if v.fl f 0 8 != 0 then [v.fl f 0 5, v.fl f 0 9] else [v.fl f 0 5]

/-- The wire peak load of port k, b/s (R351). -/
def View.portLoad (v : View) (s : State) (k : Nat) : Frac :=
  Frac.sum (((enabledFlows v.od).filter (fun f => (v.portsOf f).contains k)).map (fun f => (v.wire s f).1))

/-- The line rate of port k, b/s (R351). [DEDUCED: log entry 72] -/
def View.lineRate (v : View) (k : Nat) : Nat := if odNat v.od (0x1A00 + k) 2 = 0 then 10000000000 else 25000000000

/-- NET port load and sharing of port k (R233, R351). -/
def View.netBad (v : View) (s : State) (k : Nat) : Bad :=
  let fs := (enabledFlows v.od).filter (fun f => (v.portsOf f).contains k)
  let chans := ((fs.filter (videoContent v.od)).map (fun f => v.fl f 0 2)).eraseDups
  let sop := sopPort v.od k && odNat v.od 0x1102 1 != 0
  let big := (fs.map (fun f => (v.wire s f).2)).foldl max (if sop then 1428 else 0)
  let vlan := if odNat v.od (if sopPort v.od k then 0x1102 else 0x1A00 + k) (if sopPort v.od k then 6 else 7) = 0 then 0 else 4
  let tmax := Frac.mk' ((big + 38 + vlan) * 8 * 1000000000) (v.lineRate k)
  let shortest := (chans.map (fun n => (v.cfg s n).line)).foldl (fun (a : Option Frac) x => match a with
    | none => some x
    | some y => some (Frac.min y x)) none
  let others := chans.length - 1 + b2n sop
  let shares := match shortest with
    | none => true
    | some l => ((Frac.ofInt others).mul tmax).le (l.mul (Frac.mk' 1 2))
  needAt (shares && (v.portLoad s k).le (Frac.ofInt (v.lineRate k / 10 * 9 : Nat))) .range (okey (0x1A00 + k) 11)

/-! Audio (R381, R382, R387, R390, R397, R398, R405) -/

/-- A format word (R381, R382). [DEDUCED: log entry 94] -/
def formatWordOk (od : Tab Val) (k : Nat) : Bool :=
  let w := apWord od k
  let slots := apSlots od k
  let i2s := !bit w 28
  decide (w / 536870912 ≤ 4) && decide (slots ≤ 16) && (slots == 0 || !i2s || (slots == 2 && bit w 20)) &&
    w % 262144 == 0 && decide (apFs od k * slots * 32 ≤ 49152000)

/-- Source ports of an output port's loop-through (R387). -/
def loopSources (od : Tab Val) (k : Nat) : List Nat :=
  (List.range (apSlots od k)).map (fun j => ((odBytes od (0x1B00 + k) 6).getD (2 * j) 0).toNat)

/-- An audio output in use (R405). -/
def aoOn (od : Tab Val) (o : Nat) : Bool := odFlag od (0x1B40 + o) 1 && odNat od (0x1B40 + o) 4 != 0
/-- The enabled TS flows carry output o (R397). -/
def aoInTs (od : Tab Val) (o : Nat) : Bool :=
  (enabledFlows od).any (fun f => carriesTs od f && bit (odNat od (flI f 2) 7) o)
/-- An enabled ST 2110-30 flow carries output o. -/
def aoIn2110 (od : Tab Val) (o : Nat) : Bool :=
  (enabledFlows od).any (fun f => odNat od (flI f 0) 4 == 3 && odNat od (flI f 0) 3 == 0x20 + o)

/-- The properties of an output's codec (R397). -/
def codecOk (od : Tab Val) (o : Nat) : Bool :=
  let n := odNat od (0x1B40 + o) 4
  let fs := apFs od (odNat od (0x1B40 + o) 2)
  let br := odNat od (0x1B40 + o) 6
  let per := fun (lo hi : Nat) => decide (lo * 1000 * n ≤ br) && decide (br ≤ hi * 1000 * n)
  match odNat od (0x1B40 + o) 5 with
  | 0 => !aoInTs od o || (fs == 48000 && [2, 4, 6, 8].contains n)
  | 1 => [32000, 44100, 48000, 96000].contains fs && [1, 2, 3, 4, 5, 6, 8].contains n && per 16 96
  | 2 => [44100, 48000].contains fs && n == 2 && decide (16000 ≤ br) && decide (br ≤ 64000)
  | _ => fs == 48000 && decide (1 ≤ n) && decide (n ≤ 8) && per 6 256

/-- The core load of an output, units (R397). -/
def aoLoad (od : Tab Val) (o : Nat) : Frac :=
  let n := odNat od (0x1B40 + o) 4
  let fs := apFs od (odNat od (0x1B40 + o) 2)
  let at48 := match odNat od (0x1B40 + o) 5 with
    | 0 => if aoInTs od o then Frac.mk' n 2 else Frac.ofInt 0
    | 1 => Frac.ofInt (4 * n : Nat)
    | 2 => Frac.ofInt 10
    | _ => Frac.ofInt (5 * n : Nat)
  at48.mul (Frac.mk' fs 48000)

/-- The outputs placed on the two cores (R398): each with its core, and the cores' loads; an output that finds no room is
placed on core 0xFF. -/
def audioCores (od : Tab Val) : List (Nat × Nat) × List Frac :=
  let outs := isort (fun (a b : Nat) => (aoLoad od b).lt (aoLoad od a)) ((List.range 32).filter (aoOn od))
  outs.foldl (fun (a : List (Nat × Nat) × List Frac) o =>
    let x := aoLoad od o
    match [0, 1].find? (fun c => ((a.2.getD c ⟨0, 0⟩).add x).le (Frac.ofInt 96)) with
    | some c => (a.1 ++ [(o, c)], a.2.set c ((a.2.getD c ⟨0, 0⟩).add x))
    | none => (a.1 ++ [(o, 0xFF)], a.2)) ([], [⟨0, 0⟩, ⟨0, 0⟩])

/-- Audio ports, groups and cores. -/
def View.audioBad (v : View) : Bad :=
  let od := v.od
  let ports := List.range 16
  let groups := List.range 8
  let outs := (List.range 32).filter (aoOn od)
  let k := fun (p j : Nat) => okey (0x1B00 + p) j
  let follow := fun (p : Nat) => apMode od p == 2 && apSlots od p != 0
  let out := fun (o j : Nat) => okey (0x1B40 + o) j
  let live := fun (g : Nat) => odFlag v.base (0x1B20 + g) 1
  let busy := fun (p : Nat) =>
    let ch := [1, 2, 3, 4, 5, 6, 7].map (k p) |>.filter v.changes
    if ch.isEmpty || !(live (odNat v.base (0x1B00 + p) 4) || live (odNat od (0x1B00 + p) 4)) then none
    else some (.busy, leastKey ch)
  let cores := (audioCores od).1
  firstBad (ports.map (fun p => needAt (formatWordOk od p) .range (k p 1)) ++
    ports.map (fun p => v.need (!(follow p && apOut od p)) .range [k p 2, k p 3]) ++
    ports.map (fun p => v.need (!(apOut od p && apSlots od p != 0 && (loopSources od p).any follow)) .range
      (k p 6 :: (loopSources od p).map (fun q => k q 3))) ++
    outs.map (fun o =>
      let p := odNat od (0x1B40 + o) 2
      v.need (!((aoInTs od o || aoIn2110 od o) && follow p)) .range [k p 3, out o 2]) ++
    groups.map (fun g =>
      let at_ := odNat od (0x1B20 + g) 2
      v.need (!(odFlag od (0x1B20 + g) 1 && !live g && at_ != 0) || decide (v.now + 3000000 ≤ at_)) .late
        [okey (0x1B20 + g) 1, okey (0x1B20 + g) 2]) ++
    ports.map busy ++
    outs.map (fun o => v.need (odNat od (0x1B40 + o) 5 == 0 || odNat od (0x1B40 + o) 6 != 0) .zero [out o 5, out o 6]) ++
    outs.map (fun o => v.need (codecOk od o) .range
      ([2, 4, 5, 6].map (out o) ++ [k (odNat od (0x1B40 + o) 2) 1])) ++
    cores.map (fun x => v.need (x.2 != 0xFF) .range [out x.1 1, out x.1 4, out x.1 5]))

/-- The set writes an object that an audio check reads. -/
def View.touchesAudio (v : View) : Bool :=
  (tkeys v.writes).any (fun k => let i := k / 256
    (decide (0x1B00 ≤ i) && decide (i < 0x1C00)) || (decide (0x3000 ≤ i) && decide (i < 0x4000)))

/-! Pair, cluster and span (R451, R456, R463) -/

/-- The conditions on a channel hosted on a span group (R456). -/
def View.spanBad (v : View) (s : State) (n : Nat) : Bad :=
  let g := v.cfg s n
  let ms := groupMembers v.od (odNat v.od 0x1318 (n + 1))
  let k := ms.length
  let host := okey 0x1318 (n + 1)
  let wide := (List.range k).all (fun i => decide (1056 ≤
    min g.ow (g.tileX ((i + 1) * g.tcols / k) * g.ctu) - min g.ow (g.tileX (i * g.tcols / k) * g.ctu)))
  if k = 0 then none
  else firstBad [v.need g.serial .range [host, chKey n 0x40 1],
    v.need (g.ow == g.sw && g.oh == g.sh) .range
      [host, chKey n 0 1, chKey n 0 2, chKey n 2 1, chKey n 2 2, chKey n 2 5, chKey n 2 6],
    needAt (decide (k ≤ g.tcols)) .range (chKey n 0x40 5),
    v.need wide .range [host, chKey n 0 1, chKey n 2 1, chKey n 0x40 4, chKey n 0x40 5],
    v.need ((Frac.ofInt 16000).le (g.ns g.sd)) .range
      [host, chKey n 0 2, chKey n 0 3, chKey n 0 4, chKey n 0x40 1, chKey n 0x40 4],
    v.need ((v.flowsNaming n).all (fun f => !onRing v.od f)) .range
      (host :: (v.flowsNaming n).map (fun f => flKey f 0 4))]

/-- Samples per pixel, doubled (R463). [DEDUCED: log entry 86] -/
def Cfg.twoSamples (g : Cfg) : Nat := if g.omodel = 1 ∨ g.osub = 0 then 6 else if g.osub = 1 then 4 else 3

/-- The load of the mesh link from node a to node b, b/s (R463). [DEDUCED: log entry 86] -/
def View.meshLoad (v : View) (s : State) (a b : Nat) : Frac :=
  Frac.sum ((listedChans v.od).map (fun n =>
    let ms := groupMembers v.od (odNat v.od 0x1318 (n + 1))
    let g := v.cfg s n
    if !(odFlag v.od (chI n 1) 5) || !ms.contains a || !ms.contains b then Frac.ofInt 0
    else
      let near := ms.idxOf a + 1 == ms.idxOf b || ms.idxOf b + 1 == ms.idxOf a
      let per := fun (px : Nat) => Frac.mk' (px * g.twoSamples * g.odepth * g.num) (2 * g.den)
      let luma := fun (px : Nat) => Frac.mk' (px * g.odepth * g.num) g.den
      let border := if near then ((per (1056 * g.oh)).add (luma (528 * (g.oh / 2) + 264 * (g.oh / 4)))).add
        (per (32 * g.oh)) else Frac.ofInt 0
      let unit := if ms.headD 0 = b then Frac.ofInt g.rp else Frac.ofInt 0
      let stat := Frac.mk' (2 * 512 * g.cols * g.rows * g.num) g.den
      (border.add unit).add stat))

/-- Pair, cluster and span conditions. -/
def View.clusterBad (v : View) (s : State) : Bad :=
  let chans := (listedChans v.od).filter (fun n => odFlag v.od (chI n 1) 5)
  let spanned := chans.filter (fun n => groupMembers v.od (odNat v.od 0x1318 (n + 1)) != [])
  let touched := (tkeys v.writes).filterMap (fun k => let i := k / 256
    if 0x4000 ≤ i ∧ i < 0x8000 then some ((i - 0x4000) / 0x80) else none)
  let isMember := fun (n : Nat) =>
    let h := odNat v.od 0x1318 (n + 1)
    if h ≤ 15 then h == odNat v.od 0x1300 1 || bit (odNat v.od 0x1300 2) h
    else (groupMembers v.od h).all (fun m => m == odNat v.od 0x1300 1 || bit (odNat v.od 0x1300 2) m)
  let nodes := (spanned.flatMap (fun n => groupMembers v.od (odNat v.od 0x1318 (n + 1)))).eraseDups
  let objs := spanned.flatMap (fun n => [okey 0x1318 (n + 1), chKey n 0 3, chKey n 0 4, chKey n 2 2, chKey n 5 2, chKey n 5 3,
    chKey n 0x60 3])
  firstBad ((if s.cluster.role = 0 then [] else touched.map (fun n => v.need (isMember n) .nonode
      [okey 0x1318 (n + 1)])) ++
    spanned.map (v.spanBad s) ++
    [v.need (nodes.all (fun a => nodes.all (fun b => a == b || (v.meshLoad s a b).le (Frac.ofInt 51200000000)))) .range
      objs])

/-! What remains (R278, R346, R347, R370) -/

/-- A ring that two users name (R370). -/
def View.ringBad (v : View) : Bad :=
  let fs := (enabledFlows v.od).filter (onRing v.od)
  let ins := (listedChans v.od).filter (fun n => v.ch n 1 5 != 0 && v.ch n 0x70 1 != 0xFF && v.ch n 0x70 4 == 3)
  firstBad (fs.map (fun f => v.need (fs.all (fun e => e == f || v.fl e 0 15 != v.fl f 0 15)) .range
      (fs.filter (fun e => v.fl e 0 15 == v.fl f 0 15) |>.flatMap (fun e => [flKey e 0 1, flKey e 0 4, flKey e 0 15]))) ++
    ins.map (fun n => v.need (ins.all (fun m => m == n || v.ch m 0x70 8 != v.ch n 0x70 8)) .range
      (ins.flatMap (fun m => [chKey m 1 5, chKey m 0x70 1, chKey m 0x70 4, chKey m 0x70 8]))))

/-- A change of spares or exclusions in a quarter where a channel runs (R278). -/
def State.spareBad (s : State) (v : View) : Bad :=
  let used := fun (q : Nat) => s.runningChans.any (fun n => (s.ch n).stripes.contains q)
  let ex := Nat.xor (odNat v.base 0x2003 6) (odNat v.od 0x2003 6)
  firstBad ([0, 1, 2, 3].flatMap (fun q =>
    [needAt (!(used q && v.changes (okey 0x2003 (q + 1)))) .busy (okey 0x2003 (q + 1)),
     needAt (!(used q && ex / 2 ^ (16 * q) % 65536 != 0)) .busy (okey 0x2003 6)]))

/-- The reference and the root's outputs (R527, R529, R533): a change of the reference, or a write of an output's enable,
outside SERVICE and TEST. -/
def State.clockBad (s : State) (v : View) : Bad :=
  let open_ := s.mode == .service || s.mode == .test
  let ref := [okey 0x1600 1, okey 0x1600 2]
  firstBad ([v.need (!refRefused (odNat v.od 0x1600 1) (odNat v.od 0x1600 2) || !ref.any v.changes) .range ref] ++
    ref.map (fun k => needAt (open_ || !v.changes k) .busy k) ++
    clockOutputs.map (fun k => needAt (open_ || (tget v.writes (okey (0x1610 + k) 5)).isNone) .busy (okey (0x1610 + k) 5)))

/-- Every remaining device-level check. -/
def State.restBad (s : State) (v : View) : Bad :=
  firstBad ([s.spareBad v, s.clockBad v, v.ringBad] ++
    [0, 1, 2, 3].map (fun p => v.need (odNat v.od (0x1A00 + p) 3 != 2 || odNat v.od (0x1A00 + p) 2 == 1) .range
      [okey (0x1A00 + p) 2, okey (0x1A00 + p) 3]) ++
    [0, 1, 2, 3].map (fun p =>
      let added := bit (odNat v.od 0x1501 5) p && !bit (odNat v.base 0x1501 5) p
      v.need (!added || portIp v.od p != 0) .range [okey 0x1102 1, okey 0x1102 2, okey 0x1501 5, okey (0x1A00 + p) 4]) ++
    [let credit := [1, 2, 3, 4].map (okey 0x1905)
     v.need (decide (([1, 2, 3, 4].map (odNat v.od 0x1905)).sum ≤ 512)) .range credit,
     let creds := (List.range 16).map (fun k => okey 0x1F20 (k + 1))
     v.need (!creds.any (fun k => (tget v.writes k).isSome) || !(s.sec.lcs == 1 || s.sec.lcs == 2) || anyService v.od []) .range
       creds] ++
    [1, 2, 3, 4].map (fun g => v.need (s.cluster.role != 1 ||
      topoMeshed (odBytes v.od 0x1302 0) (bits (odNat v.od 0x1310 g) 16)) .range [okey 0x1302 0, okey 0x1310 g]))

/-! The whole validation (R57, R237, R668) -/

/-- The device-wide checks, in the order of R668; `pending` is the verdict on the mode and the transition. -/
def State.deviceBad (s : State) (v : View) (f : Figures) (pending : Bad) : Bad :=
  let runs := (s.runsAfter v).filter (fun n => (v.cfg s n).known n)
  firstBad ([pending, v.sourceBad runs, s.quadBad v, f.place.bad, s.latencyBad v f,
    needAt (decide (((s.reserved v runs).map Prod.snd).sum ≤ 47104)) .range (okey 0x2000 3),
    s.peakBad v runs, v.dramBad f.place.loads] ++ [0, 1, 2, 3].map (v.netBad s) ++
    [if v.touchesAudio then v.audioBad else none, v.clusterBad s, s.restBad v])

/-- The first check that fails (R668). [DEDUCED: log entry 42] -/
def State.validate (s : State) (v : View) (f : Figures) (pending : Bad) : Bad :=
  firstBad ((s.touched v).map (s.channelBad v) ++ [s.deviceBad v f pending])

/-- The figures that a validation writes even when it refuses (R237, R270). [DEDUCED: log entry 44] -/
def State.writeFigures (s : State) (f : Figures) : State :=
  let s1 := f.lmin.foldl (fun (t : State) x => t.put (chI x.1 0x68) 1 (min x.2 65535 : Nat)) s
  f.least.foldl (fun (t : State) x => t.put 0x2005 (x.1 + 1) (min x.2 65535 : Nat)) s1

/-- The commit assigns the berths of quarter q anew (R19, R269, R270): it places a channel there, takes one away, or changes
the berths that a sequence needs. [DEDUCED: log entry 45] -/
def State.reberths (s : State) (v : View) (f : Figures) (q : Nat) : Bool :=
  let runs := f.place.placed.map Prod.fst
  let held := (List.range 16).flatMap (fun k => (s.pav (16 * q + k)).berths.map (fun b => (b.1, b.2.1, b.2.2.2)))
  f.place.placed.any (fun x => x.2.contains q && s.kept v x.1 == []) ||
    channels.any (fun n => !runs.contains n && (s.ch n).stripes.contains q) ||
    ((f.berths.getD q default).got).any (fun x => !held.contains (x.1.chan, x.1.tile, x.2.length))

/-- The berths of quarter q as R269 places them, and the entropy units dealt to its sequences (R186, R187). A channel that the
commit takes away keeps its berths until it stops. [DEDUCED: log entry 45] -/
def State.berthQuarter (s : State) (v : View) (f : Figures) (q : Nat) : State :=
  let runs := f.place.placed.map Prod.fst
  let got := (f.berths.getD q default).got
  let mine := fun (p : Nat) => got.flatMap (fun x => (List.range x.2.length).filterMap (fun i =>
    if x.2.getD i 64 = p then some (x.1.chan, x.1.tile, i, x.2.length) else none))
  let s1 := ((List.range 16).map (16 * q + ·)).foldl (fun (t : State) p =>
    let e := t.pav p
    let leaving := e.berths.filter (fun b => !runs.contains b.1 && (t.ch b.1).running)
    let bs := if e.state = 4 then e.berths else mine p ++ leaving
    if e.berths = bs then t else t.setPav p { e with berths := bs }) s
  let us := s.workingEus q
  let keys := (got.filter (fun x => !(v.cfg s x.1.chan).jxs)).map (fun x => x.1.chan * 64 + x.1.tile)
  let old := s1.mews.euOrder.filter (fun k => tgetD s1.mews.euOf k 0 / 4 != q)
  let euOf := (keys.zipIdx).foldl (fun t ki => tset t ki.1 (us.getD (ki.2 % max 1 us.length) (4 * q)))
    (s1.mews.euOf.filter (fun kv => old.contains kv.1))
  { s1 with mews := { s1.mews with euOf := euOf, euOrder := old ++ keys } }

/-- The loads reported of channels that are not among those placed (R179): none. -/
def State.idle (s : State) (runs : List Nat) : State :=
  (channels.filter (fun n => !runs.contains n)).foldl (fun (t : State) n =>
    [(8, 10), (0x78, 15), (0x79, 8)].foldl (fun (u : State) oj =>
      if u.nat (chI n oj.1) oj.2 = 0 then u else u.put (chI n oj.1) oj.2 0) t) s

/-- The placement put into force (R19, R263, R269, R521, R670): quarters, berths, entropy units, reservations and loads. -/
def State.install (s : State) (v : View) (f : Figures) : State :=
  let runs := f.place.placed.map Prod.fst
  let s1 := f.place.placed.foldl (fun (t : State) x =>
    (t.setCh x.1 { t.ch x.1 with stripes := x.2 }).put 0x2010 (x.1 + 1) (maskOf x.2 : Nat)) s
  let res := s.reserved v runs
  let s2 := res.foldl (fun (t : State) x => t.put 0x2004 (x.1 + 1) (min x.2 65535 : Nat)) s1
  let s3 := s2.put 0x2000 3 ((res.map Prod.snd).sum : Nat)
  let s5 := [0, 1, 2, 3].foldl (fun (t : State) q => if s.reberths v f q then t.berthQuarter v f q else t) s3
  let s6 := [0, 1, 2, 3].foldl (fun (t : State) q =>
    (t.put 0x1802 (q + 1) (((f.place.loads.getD q {}).dram.div (Frac.ofInt 1000000)).floor)).put (0x1A00 + q) 11
      (((v.portLoad s q).div (Frac.ofInt 1000000)).floor)) s5
  let cores := audioCores v.od
  let s7 := (List.range 32).foldl (fun (t : State) o =>
    t.put (0x1B40 + o) 11 (((cores.1.find? (fun x => x.1 == o)).map (fun x => (x.2 : Int))).getD 0xFF)) s6
  let s8 := [0, 1].foldl (fun (t : State) c => t.put 0x1BF0 (c + 1) ((cores.2.getD c ⟨0, 0⟩).ceil)) s7
  runs.foldl (fun (t : State) n =>
    let g := v.cfg s n
    let loads := pipeLoads g.stripeEdges (v.layers s.dramCfg n g)
    let mpix := fun (x : Frac) => (x.div (Frac.ofInt 1000000)).floor
    let belv := fun (q : Nat) => (f.place.loads.getD q {}).belv
    let src := v.ch n 0x70 1
    let own := ((f.place.placed.find? (fun x => x.1 == n)).map Prod.snd).getD []
    let high := if v.ch n 0x73 1 = 0 then ⟨0, 0⟩ else Frac.maxOf (own.map belv)
    ((t.put (chI n 8) 10 (mpix (Frac.maxOf loads))).put (chI n 0x78) 15
      (if src ≤ 3 then mpix (belv src) else 0)).put (chI n 0x79) 8 (mpix high)) (s8.idle runs)

end Sys2Proof.Machine
end

