-- ==== Sys2Proof/Machine/Sdp.lean ====
section
/-! DEFINITION. Sdp.lean: the session descriptions of flows (R208, R356, R363, R366, R369). -/

namespace Sys2Proof.Machine

/-- The payload format of flow f under dictionary `od` (R350, R356, R363, R366); none where the flow carries no RTP payload or TS
over a network. The sampling of JPEG XS is 4 × colour model + subsampling in the encodings of OD 0x4005. -/
def sdpFormat (od : Tab Val) (f : Nat) (g : Cfg) : Option SdpFormat :=
  match odNat od (flI f 0) 4 with
  | 0 =>
    (match g.codec with
      | 1 => some .vvc
      | 2 => some .hevc
      | 4 => some .avc
      | 5 => some (.jpegXs g.profile g.levelTier.1 (4 * g.ofmt.getD 0 0 + g.ofmt.getD 1 0) (g.ofmt.getD 2 0)
          (g.ofmt.getD 4 0) (g.ofmt.getD 5 0) (g.ofmt.getD 3 0))
      | _ => none)
  | 1 => some .ts
  | 2 => some .ts
  | 3 =>
    let o := odNat od (flI f 0) 3 - 0x20
    let fs := apFs od (odNat od (0x1B40 + o) 2)
    some (.pcm (if odNat od (flI f 1) 6 = 0 then 24 else 16) fs (odNat od (0x1B40 + o) 4)
      (packetSamples fs (odNat od (flI f 1) 5)))
  | _ => none

/-- The payload type of flow f (R363): 33 under SMPTE ST 2022-2, and none where TS is carried by UDP alone. -/
def sdpPayload (od : Tab Val) (f : Nat) : Option Nat :=
  match odNat od (flI f 0) 4 with
  | 1 => none
  | 2 => some 33
  | _ => some (odNat od (flI f 1) 1)

/-- The media descriptions of flow f (R369): one for each path. -/
def sdpMedia (od : Tab Val) (f : Nat) (g : Cfg) : List SdpMedia :=
  match sdpFormat od f g with
  | none => []
  | some x =>
    let one := fun (a : Nat) => ({ address := odNat od (flI f 0) (a + 1), port := odNat od (flI f 0) (a + 2),
                                   ttl := odNat od (flI f 0) 14, payload := sdpPayload od f, format := x } : SdpMedia)
    if odFlag od (flI f 0) 8 then [one 5, one 9] else [one 5]

/-- The session description of flow f under dictionary `od` (R369). -/
def State.describeFlow (s : State) (od : Tab Val) (f : Nat) : Sdp :=
  let m := sdpMedia od f (cfgOf od s.sec (odNat od (flI f 0) 2))
  { flow := f, source := odNat od (flI f 0) 0x0C, ssrc := odNat od (flI f 1) 2, media := m, dup := decide (m.length = 2),
    grandmaster := odBytes s.od 0x1502 1, domain := s.nat 0x1501 2 }

/-- The flows that the writes `w` of a commit change (R369): those with an object of their own among them, and those enabled whose
source has one. [DEDUCED: log entry 92] -/
def flowsChanged (od w : Tab Val) : List Nat :=
  let own := (tkeys w).filterMap (fun k => if 0x3000 ≤ k / 256 ∧ k / 256 < 0x4000 then some ((k / 256 - 0x3000) / 4) else none)
  let chans := (tkeys w).filterMap (fun k => if 0x4000 ≤ k / 256 ∧ k / 256 < 0x8000 then some ((k / 256 - 0x4000) / 0x80) else none)
  let outs := (tkeys w).filterMap (fun k => if 0x1B00 ≤ k / 256 ∧ k / 256 < 0x1B60 then some () else none)
  let src := (enabledFlows od).filter (fun f =>
    if videoContent od f then chans.contains (odNat od (flI f 0) 2) else !outs.isEmpty)
  (own ++ src).eraseDups

/-- The session descriptions that a commit with writes `w` regenerates (R369), from the settings it brings into force. -/
def State.describeFlows (s : State) (od w : Tab Val) : State :=
  (flowsChanged od w).foldl (fun t f => t.setFl f { t.fl f with sdp := some (t.describeFlow od f) }) s

end Sys2Proof.Machine
end

