-- ==== Sys2Proof/Machine/Apply.lean ====
section
/-! DEFINITION. Apply.lean: what a commit brings about at its tick beside the values it writes (R9, R55, R325, R389, R391,
R407, R446, R481, R529, R531), and the placement that follows (R19, R670). -/

namespace Sys2Proof.Machine

/-- A quad whose role or rate has changed trains anew, and a Carriageway port on it comes down (R407, R412, R433).
[DEDUCED: log entry 83] -/
def State.quadChanged (s : State) (q : Nat) : State :=
  let s1 := [4 * q, 4 * q + 1, 4 * q + 2, 4 * q + 3].foldl State.trainLane s
  match s1.portOfQuad q with
  | some p => if s1.quadRole q = 2 then s1.cwReset p else s1.put (0x1950 + p) 1 0
  | none => s1

/-- The span groups have changed: the manager's topology names each node's group, and is published (R446).
[DEDUCED: log entry 83] -/
def State.regroup (s : State) : State :=
  if s.cluster.role ≠ 1 then s
  else
    let t := (List.range 16).foldl (fun (b : List Byte) k =>
      if s.topoByte k 1 = 255 then b
      else
        let g := ((List.range 4).find? (fun g => bit (s.nat 0x1310 (g + 1)) k)).getD 255
        b.set (8 * k + 3) (BitVec.ofNat 8 g)) (odBytes s.od 0x1302 0)
    (s.members.foldl (fun (u : State) m => u.say m 0x05 []) (s.putVal 0x1302 0 (.oct t))).clusterEvent 7 s.node 0 0

/-- The start time of a group that a commit with instant `due` enables: OD 0x1B20.02 rounded up to the tick, or the tick of
the commit (R389, R390); never before that tick (R58). -/
def groupStart (od : Tab Val) (g due : Nat) : Nat :=
  max (due / 100 * 100) (ceilDiv (odNat od (0x1B20 + g) 2) 100 * 100)

/-- A device-level write of the object with key `k`, beside its value. `old` is the dictionary before the commit. -/
def State.afterWrite (old : Tab Val) (s : State) (k : Nat) : State :=
  let i := k / 256
  let j := k % 256
  let changed := odGet old i j != odGet s.od i j
  if i = 0x1900 ∨ i = 0x1901 then (if changed then s.quadChanged (j - 1) else s)
  else if i = 0x1902 then (if changed then s.cwReset (j - 1) else s)
  else if i = 0x1600 ∧ j ≤ 2 then (if changed then s.relock else s)
  else if i = 0x1400 ∧ j = 1 then (if changed then s.pairEnable else s)
  else if i = 0x1500 ∧ j = 6 then (if changed then s.retime else s)
  else if i = 0x1501 then (if changed && s.ptp.running then s.ptpChanged else s)
  else if 0x1B20 ≤ i ∧ i < 0x1B28 ∧ j = 1 then (if changed && !s.flag i 1 then s.stopGroup (i - 0x1B20) else s)
  else if i = 0x1310 then (if changed then s.regroup else s)
  else s

/-- Whether a write of an object waits for the root's alignment (R531). -/
def isOutput (k : Nat) : Bool :=
  decide (0x1610 ≤ k / 256) && decide (k / 256 ≤ 0x1615) && (k % 256 == 4 || k % 256 == 5)

/-- Writes that apply at the tick of a commit, together (R55, R58). -/
def State.applyNow (s : State) (w : Tab Val) : State :=
  let s1 : State := { s with od := odApply s.od (w.filter (fun kv => !isOutput kv.1 && kv.1 != okey 0x1001 2)) }
  let s2 := (w.filter (fun kv => isOutput kv.1)).foldl (fun (t : State) kv =>
    t.stageOutput (kv.1 / 256 - 0x1610) (kv.1 % 256 - 4) (valInt kv.2)) s1
  (tkeys w).foldl (State.afterWrite s.od) s2

/-- A commit has applied at PTP ns `t` (R78): the device commit sequence and the time of the last applied commit, and
the edges of the generators that mark commits (R337). [DEDUCED: log entry 7] -/
def State.countCommit (s : State) (t refch : Nat) : State :=
  let s1 : State := { s with od := odSet (odSet s.od 0x1200 3 ((s.nat 0x1200 3 + 1) % 18446744073709551616 : Nat)) 0x1200 4 t }
  (s1.generators 3 (fun n => n == 0xFF || n == refch)).foldl (fun (u : State) k => u.pulse k t) s1

/-! The state that will be in force (R45, R57) -/

/-- An object that a write commands instead of setting (R95, R129). -/
def commandObject (i j : Nat) : Bool :=
  match baseIdx i, j with
  | 0x1002, 4 => true | 0x1400, 6 => true | 0x1500, 4 => true | 0x1500, 5 => true | 0x1500, 13 => true | 0x1500, 14 => true
  | 0x1703, 1 => true | 0x1703, 2 => true | 0x1C10, 1 => true | 0x1C10, 3 => true | 0x1D00, 1 => true | 0x1D00, 6 => true
  | 0x1E00, 6 => true | 0x1E10, 4 => true | 0x1E10, 5 => true | 0x1F00, 6 => true | 0x1F00, 7 => true | 0x1F02, 1 => true
  | 0x1F04, 1 => true | 0x1F13, 1 => true | 0x1F13, 2 => true | 0x1F32, 1 => true | 0x1F32, 2 => true
  | b, j => (b == 0x1D01 && j != 0) || (b == 0x1D02 && j != 0) || (b == 0x1D40 && decide (1 ≤ j) && decide (j ≤ 32))

/-- The values that wait for the next tick (R45), command objects apart. -/
def State.soonWrites (s : State) : List (Nat × Val) :=
  (s.soon.filter (fun w => !commandObject (w.key / 256) (w.key % 256))).map (fun w => (w.key, w.val))

/-- The dictionary with every write that waits for the next tick or for a channel's boundary. -/
def State.odPending (s : State) : Tab Val :=
  s.chan.foldl (fun m kv => kv.2.pend.foldl (fun a w => odApply a w.2) m) (odApply s.od s.soonWrites)

/-- The armed sets other than `k` due by `t`, in the order of arming (R56, R57). -/
def State.armedBy (s : State) (k t : Nat) : List Nat :=
  isort (fun (a b : Nat) => decide ((s.set a).order < (s.set b).order))
    (s.armedSets.filter (fun j => j != k && decide ((s.set j).due ≤ t)))

/-- The dictionary that will be in force at `t` without set `k` (R57). -/
def State.odBy (s : State) (k t : Nat) : Tab Val :=
  (s.armedBy k t).foldl (fun m j => odApply m (s.set j).writes) s.odPending

/-- The mode that will be in force at `t` without set `k` (R57). -/
def State.modeBy (s : State) (k t : Nat) : Mode :=
  ((s.armedBy k t).findSome? (fun j => (s.set j).modeWrite)).getD
    (match s.moving with | some m => m.1 | none => s.mode)

/-- What the validation of set `k` at target `t` reads (R57). -/
def State.viewOf (s : State) (k t : Nat) (w : Tab Val) : View :=
  let base := s.odBy k t
  let od := odApply base w
  { base := base, od := od, writes := w, now := s.now, due := t,
    mode := match tget w (okey 0x1001 2) with
      | some v => Mode.ofCode (valInt v).toNat
      | none => s.modeBy k t }

/-- The placement that follows from the settings in force and those that wait for their boundaries (R19, R670). -/
def State.replace (s : State) (before : Tab Val) (w : Tab Val) (m : Mode) : State :=
  let v : View := { base := before, od := s.odPending, writes := w, mode := m, now := s.now, due := s.now }
  if m.media then s.install v (s.figures v) else s.idle []

end Sys2Proof.Machine
end

