-- ==== Sys2Proof/Machine/Perf.lean ====
section
/-! DEFINITION. Perf.lean: Turnstile checks, performance counters, random tagging and the built-in tests (R606–R629,
R639–R641). -/

namespace Sys2Proof.Machine

/-! Turnstile (R606–R616) -/

/-- Turnstile unit u: 0–7 snoop, 8–9 scan (R608). -/
def State.csu (s : State) (u : Nat) : Turnstile := tgetD s.cs u {}
/-- The machine with Turnstile unit u changed. -/
def State.setCs (s : State) (u : Nat) (x : Turnstile) : State := { s with cs := tset s.cs u x }
/-- The binding that 24 bytes spell (R614). -/
def bindingOf (b : List Byte) : Turnstile :=
  { source := leNat (b.take 1), algo := leNat ((b.drop 1).take 1), repeating := b.getD 2 0 == 1,
    target := leNat ((b.drop 4).take 2), count := leNat ((b.drop 6).take 2), start := leNat ((b.drop 8).take 8),
    length := leNat ((b.drop 16).take 8) }

/-- The test of a binding for unit u (R608–R610, R614, R616). -/
def State.bindCode (s : State) (u : Nat) (b : List Byte) : Code :=
  let x := bindingOf b
  if x.source = 0 then .ok
  else if x.source ≠ 0x10 ∧ x.count = 0 then .zero
  else if 3 < x.algo ∨ 1 < (b.getD 2 0).toNat then .range
  else if x.source = 0x10 then
    if u < 8 ∨ x.repeating ∨ x.target ≠ 0 ∨ x.count ≠ 0 ∨ x.start % 64 ≠ 0 ∨
      4 * regionBytes s.dramCfg < x.start + x.length then .range else .ok
  else if 8 ≤ u ∨ 3 < x.source ∨ x.length ≠ 0 then .range
  else
    let late : Nat → Code := fun n =>
      if x.start ≠ 0 ∧ (s.ch n).running ∧ x.start ≤ (s.ch n).epoch then .late else .ok
    match x.source with
    | 1 => if 1024 ≤ x.target ∨ !(videoContent s.od x.target || carriesTs s.od x.target) then .range
           else late (s.flNat x.target 0 2)
    | 2 => if 128 ≤ x.target ∨ 3 < s.source x.target ∨ x.start ≠ 0 then .range else .ok
    | _ => if 128 ≤ x.target ∨ s.source x.target ≠ 0xFF then .range else late x.target

/-- An event of class 0x13 (R612). -/
def State.csEvent (s : State) (what u value : Nat) : State := s.ev 0x13 what u (value : Nat)
/-- A counter of OD 0x1C10 + u (R613). -/
def State.csBump (s : State) (u j : Nat) : State := s.bump (0x1C10 + u) j (0x1C10 + u) 0x0A

/-- A window ends in a comparison (R611): the value, the counters, the event, and the interrupt of a mismatch.
[DEDUCED: log entry 74] -/
def State.compare (s : State) (u : Nat) (x : Turnstile) (value : Nat) : State :=
  let same : Bool := value == s.nat (0x1C10 + u) 2 % 2 ^ checkWidth x.algo
  let next : Turnstile := { x with
    result := if same then 1 else 2, state := if x.repeating then 2 else 0,
    progress := if x.source = 0x10 then min (x.length / 65536) 0xFFFFFF else 0,
    window := if x.repeating then x.window + x.count else x.window }
  let s1 := ((s.setCs u next).put (0x1C10 + u) 5 value).put (0x1C10 + u) 6 (if x.source = 0x10 then 0 else x.window : Nat)
  let s2 := (s1.csBump u (if same then 7 else 8)).csEvent (if same then 1 else 2) u value
  if same then s2
  else
    let v := s2.nat 0x1C00 1
    if v < 64 then { s2 with msix := setBit s2.msix v } else s2

/-- A window ends INCOMPLETE and is not compared (R609). -/
def State.incomplete (s : State) (u : Nat) (x : Turnstile) : State :=
  let next : Turnstile := { x with result := 3, state := if x.repeating then 2 else 0, progress := 0,
                                   window := if x.repeating then x.window + x.count else x.window }
  (((s.setCs u next).put (0x1C10 + u) 6 x.window).csBump u 9).csEvent 3 u 0

/-- A write of OD 0x1C10 + u, sub 01 (R607–R610): the unit takes the binding while it is idle. A scan starts at once, waits
for a quarter in self-refresh, and with LENGTH 0 completes with the empty-message value. -/
def csBind (u : Nat) (b : List Byte) (s : State) : Code × State :=
  if (s.csu u).state ≠ 0 then (.busy, s)
  else match s.bindCode u b with
    | .ok =>
      let x := bindingOf b
      let s1 := s.putVal (0x1C10 + u) 1 (.oct b)
      if x.source = 0 then (.ok, s1.setCs u {})
      else if x.source ≠ 0x10 then (.ok, s1.setCs u { x with state := 1 })
      else if x.length = 0 then (.ok, s1.compare u x (checkValue x.algo []))
      else
        let asleep := (x.quarters s.dramCfg).any (fun q =>
          [0, 1, 2, 3].any (fun j => (s.dch (4 * q + j)).state == 4))
        (.ok, s1.setCs u { x with state := if asleep then 3 else 2, began := s.now })
    | c => (c, s)

/-- A write of OD 0x1C10 + u, sub 03 (R607). -/
def csCancel (u value : Nat) (s : State) : Code × State :=
  if value = 0 then (.ok, s)
  else (.ok, s.setCs u { s.csu u with state := 0, result := 4, progress := 0, seen := [], holes := [] })

/-- The pictures of a line snoop's window, their samples in order and whether each was intact (R608, R609); none while one
has lines still to come. -/
def State.snoopWindow (s : State) (x : Turnstile) : Option (List (List Byte × Bool)) :=
  let c := s.ch x.target
  let g := s.cfg x.target
  let all := (List.range g.h).all (fun y => (tget c.have_ y).isSome)
  (List.range x.count).mapM (fun k =>
    match tget x.seen (x.window + k) with
    | some d => some (d, !x.holes.contains (x.window + k))
    | none => if c.running && c.epoch == x.window + k && all then some (c.samples g, c.intact g) else none)

/-- Whether the last byte of a unit's window can have passed it (R608, R610): all its pictures or access units, or the
scan's bytes at 4.0 GB/s. -/
def State.windowFull (s : State) (x : Turnstile) : Bool :=
  x.state == 2 && (if x.source = 0x10 then decide (x.began + x.length / 4 ≤ s.now)
    else if x.source = 3 then (s.snoopWindow x).isSome else decide (x.count ≤ x.progress + 1))

/-- What a unit's window covered and whether it was whole (R608, R609): a scan reads the device memory, a line snoop has what
its channel's lines gave, and `data` and `complete` say it of a flow or of access units. [DEDUCED: log entry 74] -/
def State.covered (s : State) (x : Turnstile) (data : List Byte) (complete : Bool) : List Byte × Bool :=
  if x.source = 0x10 then (memBytes s.dramMem x.start x.length, true)
  else if x.source = 3 then
    let w := (s.snoopWindow x).getD []
    (w.flatMap Prod.fst, w.all Prod.snd)
  else (data, complete || x.source == 1)

/-- TURNSTILE_WINDOW_END (R608–R611): the last byte of a unit's window has passed it. `data` is what the window of a unit that
snoops a flow or a Belvedere's input covered, `complete` is false where an access unit was damaged. [DEDUCED: log entry 74] -/
def execTurnstileWindowEnd (unit : Nat) (data : List Byte) (complete : Bool) (s : State) :
    Host.Outcome State Fault Refusal :=
  if 10 ≤ unit then .fault .noSuchUnit
  else
    let x := s.csu unit
    if !s.windowFull x then .next s
    else
      let w := s.covered x data complete
      let y : Turnstile := { x with seen := x.seen.filter (fun kv => decide (x.window + x.count ≤ kv.1)),
                                    holes := x.holes.filter (fun e => decide (x.window + x.count ≤ e)) }
      if w.2 then .next (s.compare unit y (checkValue x.algo w.1)) else .next (s.incomplete unit y)

/-- Whether a unit still has its source (R609): an enabled flow, or an enabled channel of the input it snoops.
[DEDUCED: log entry 74] -/
def State.hasSource (s : State) (x : Turnstile) : Bool :=
  match x.source with
  | 1 => s.flag (flI x.target 0) 1
  | 2 => s.flag (chI x.target 1) 5 && decide (s.source x.target ≤ 3)
  | _ => s.flag (chI x.target 1) 5 && s.source x.target == 0xFF
/-- The channel that feeds a snooping unit. -/
def State.snoopChan (s : State) (x : Turnstile) : Nat := if x.source = 1 then s.flNat x.target 0 2 else x.target
/-- The window in progress ends with SOURCE ENDED (R609): a repeating unit that keeps its source waits for the next
picture, any other becomes idle. -/
def State.sourceEnded (s : State) (u : Nat) : State :=
  let x := s.csu u
  let next : Turnstile := { x with result := 5, progress := 0, start := 0, seen := [], holes := [],
                                   state := if x.repeating && s.hasSource x then 1 else 0 }
  ((s.setCs u next).put (0x1C10 + u) 6 x.window).csEvent 4 u 0

/-- TURNSTILE_SOURCE_ENDED (R609): the source channel of a unit has stopped or its flow is disabled.
[DEDUCED: log entry 74] -/
def execTurnstileSourceEnded (unit : Nat) (s : State) : Host.Outcome State Fault Refusal :=
  if 10 ≤ unit then .fault .noSuchUnit
  else
    let x := s.csu unit
    let gone : Bool := !(s.ch (s.snoopChan x)).running || (x.source == 1 && !s.hasSource x)
    if x.state = 2 ∧ x.source ≠ 0x10 ∧ gone then .next (s.sourceEnded unit) else .next s

/-- OD 0x1C10 + u, sub 04 (R615). The progress of a scan that runs is a free value up to its length. -/
def State.csStatus (s : State) (u : Nat) : Nat × State :=
  let x := s.csu u
  let word := fun (p : Nat) => x.state % 16 * 0x10000000 + x.result % 16 * 0x1000000 + min p 0xFFFFFF
  if x.source = 0x10 ∧ 2 ≤ x.state then
    let d := s.draw
    (word (d.1 % (x.length / 65536 + 1)), d.2)
  else (word x.progress, s)
/-- OD 0x1C00.02 (R613). -/
def State.csBusy (s : State) : Nat := maskOf ((List.range 10).filter (fun u => (s.csu u).state != 0))

/-! Performance counters (R617–R624) -/

/-- Counter k: a device counter (0–127), or counter j of PAVp at 128 + 16·p + j (R617). -/
def State.ctr (s : State) (k : Nat) : Counter := tgetD s.perf.ctrs k {}
/-- The machine with counter k changed. -/
def State.setCtr (s : State) (k : Nat) (c : Counter) : State :=
  { s with perf := { s.perf with ctrs := tset s.perf.ctrs k c } }
/-- The bits of a counter (R617). -/
def ctrWidth (k : Nat) : Nat := if k < 128 then 64 else 48

/-- A device control word that R618 accepts: its event, gate, instance and qualifier are in their tables. -/
def deviceCtlOk (w : Nat) : Bool :=
  let e := ctlEvent w
  let q := ctlQual w
  let any : Bool := q == 0xFFFF
  let inst := w / 2 ^ 48 % 4096
  let event : Bool :=
    if e = 0 then true
    else if e = 1 then q == 0
    else if e = 2 ∨ e = 3 then decide (q < 32) || any
    else if e = 4 then decide (q < 4) || any
    else if 0x10 ≤ e ∧ e ≤ 0x14 then decide (q < 16) || any
    else if 0x20 ≤ e ∧ e ≤ 0x22 then decide (q < 16)
    else if e = 0x30 ∨ e = 0x31 then decide (q < 128) || any
    else if e = 0x32 then decide (q < euCount) || any
    else if e = 0x40 then decide (q < 4)
    else if e = 0x50 then decide (q < laneCount)
    else false
  let gate : Bool := match ctlGate w with
    | 0 => true
    | 1 => decide (inst < 32)
    | 2 => decide (inst < 512)
    | 3 => decide (inst < 16)
    | _ => false
  event && gate

/-- A Pavilion control word that R620 accepts. -/
def pavCtlOk (w : Nat) : Bool :=
  let f := w / 65536 % 256
  decide (w % 256 ≤ 0x0C) && (decide (f ≤ 127) || f == 255) && w / 256 % 256 == 0 && w / 2 ^ 24 % 128 == 0

/-- A control word staged (R622). -/
def ctlWrite (k w : Nat) (s : State) : Code × State :=
  if (if k < 128 then deviceCtlOk w else pavCtlOk w) then (.ok, s.setCtr k { s.ctr k with nextCtl := some w }) else (.range, s)
/-- A preset staged (R622); a Pavilion counter holds 48 bits. -/
def presetWrite (k v : Nat) (s : State) : Code × State :=
  if v < 2 ^ ctrWidth k then (.ok, s.setCtr k { s.ctr k with preset := some v }) else (.range, s)

/-- What the model counts itself: the ungated device events it shows, and of a Pavilion its SRAM corrections, its CTUs, the
coaches it runs and tagged bundles.
[DESIGN CHOICE: log entry 75] -/
def counted (k w : Nat) : Bool :=
  if k < 128 then
    !ctlEn w || ctlEvent w == 0 ||
      (ctlGate w == 0 && ([1, 2, 4, 0x10, 0x11, 0x12, 0x13, 0x20, 0x21, 0x30, 0x31, 0x50].contains (ctlEvent w)))
  else !bit w 31 || [0, 6, 7, 8, 0x0B, 0x0C].contains (w % 256)
/-- A counter of 800 MHz cycles without a gate (R619). -/
def countsCycles (k w : Nat) : Bool := decide (k < 128) && ctlEn w && ctlGate w == 0 && ctlEvent w == 1

/-- A counter at the snapshot edge (R621–R623): its count is copied with WRAPPED, then the staged control word and preset
take effect. A count the model does not show is the free value `free`. [DESIGN CHOICE: log entry 75] -/
def Counter.snapshot (c : Counter) (k cycles free : Nat) : Counter :=
  let c1 : Counter := if countsCycles k c.ctl then c.add 64 cycles
    else if counted k c.ctl then c else { c with live := free % 2 ^ ctrWidth k }
  { c1 with snap := c1.live, snapWrapped := c1.wrapped, wrapped := false, ctl := c1.nextCtl.getD c1.ctl, nextCtl := none,
            live := c1.preset.getD c1.live, preset := none }

/-- The place of a counter's control word in the object dictionary (R628). -/
def ctlObject (k : Nat) : Nat × Nat := if k < 128 then (0x1D01, k + 1) else (0x1D40 + (k - 128) / 16, (k - 128) % 16 + 1)

/-- A snapshot of every counter at one edge (R621, R622); a second one in the same tick counts once. -/
def State.countersSnapshot (s : State) : State :=
  if s.nat 0x1D00 4 ≠ 0 ∧ s.nat 0x1D00 3 / 100 = s.tick then s
  else
    let cycles := s.tb.count - s.perf.edge
    let r := s.perf.ctrs.foldl (fun (a : Tab Counter × State) kv =>
      if counted kv.1 kv.2.ctl then (a.1 ++ [(kv.1, kv.2.snapshot kv.1 cycles 0)], a.2)
      else
        let d := a.2.draw
        (a.1 ++ [(kv.1, kv.2.snapshot kv.1 cycles d.1)], d.2)) ([], s)
    let s1 : State := { r.2 with perf := { r.2.perf with ctrs := r.1, edge := s.tb.count } }
    let s2 : State := { s1 with od := r.1.foldl (fun m kv =>
      let o := ctlObject kv.1
      odSet m o.1 o.2 (kv.2.ctl : Nat)) s1.od }
    (s2.put 0x1D00 3 s.now).put 0x1D00 4 ((s.nat 0x1D00 4 + 1) % 2 ^ 64 : Nat)

/-- A write of OD 0x1D00.01 (R621). [DEDUCED: log entry 53] -/
def snapshotNow (value : Nat) (s : State) : Code × State := (.ok, if value = 0 then s else s.countersSnapshot)

/-- PERIODIC_COUNTER_SNAPSHOT (R621, R629): at each PTP instant that is a whole multiple of the period. -/
def execPeriodicCounterSnapshot (s : State) : Host.Outcome State Fault Refusal :=
  let p := s.nat 0x1D00 2 * 1000000
  if p = 0 ∨ s.tick * 100 % p ≠ 0 then .next s else .next s.countersSnapshot

/-- PERFORMANCE_COUNTER_WRAP (R623): a counter wraps after the latest snapshot. A counter whose count the model shows
wraps by its own count. -/
def execPerformanceCounterWrap (counter : Nat) (s : State) : Host.Outcome State Fault Refusal :=
  if 1152 ≤ counter then .fault .noSuchUnit
  else
    let c := s.ctr counter
    let wraps : Bool := if countsCycles counter c.ctl then decide (2 ^ 64 ≤ c.live + (s.tb.count - s.perf.edge))
      else !counted counter c.ctl
    .next (if wraps then s.setCtr counter { c with wrapped := true, late := true } else s)

/-- The values of counters `from_` on in the latest snapshot (R621, R628). [DESIGN CHOICE: log entry 75] -/
def State.snapValues (s : State) (from_ n : Nat) : List Byte :=
  (List.range n).flatMap (fun j => leBytes 8 (s.ctr (from_ + j)).snap)
/-- WRAPPED of counters `from_` on, bit j for counter from_ + j (R623). -/
def State.wrappedBits (s : State) (from_ n : Nat) : Nat :=
  maskOf ((List.range n).filter (fun j => (s.ctr (from_ + j)).snapWrapped))
/-- LATE of counters `from_` on (R623). -/
def State.lateBits (s : State) (from_ n : Nat) : Nat := maskOf ((List.range n).filter (fun j => (s.ctr (from_ + j)).late))
/-- LATE cleared by the read that returns it (R623). -/
def State.clearLate (s : State) (from_ n : Nat) : State :=
  { s with perf := { s.perf with ctrs := s.perf.ctrs.map (fun kv =>
      if decide (from_ ≤ kv.1) && decide (kv.1 < from_ + n) then (kv.1, { kv.2 with late := false }) else kv) } }
/-- OD 0x1D08.00: the whole snapshot (R628). -/
def State.wholeSnapshot (s : State) : List Byte :=
  s.snapValues 0 1152 ++ leBytes 144 (s.wrappedBits 0 1152) ++ leBytes 144 (s.lateBits 0 1152)
/-- The least class that may read counter values (R624). -/
def State.counterClass (s : State) : Nat :=
  match s.mode with
  | .ret => 3
  | .starting => 2
  | .test => 2
  | .safe => 2
  | _ => if s.flag 0x1D00 5 then 0 else 2

/-! Random tagging (R625, R626) -/

/-- One step of the LFSR (R625). -/
def lfsrStep (x : Nat) : Nat := if x % 2 = 1 then Nat.xor (x / 2) 0x80200003 else x / 2
/-- The LFSR after `steps` bundles of which only the last is tagged; none where the tags fall otherwise (R625). -/
def lfsrTag (k : Nat) : Nat → Nat → Option Nat
  | 0, _ => none
  | n + 1, x =>
    let y := lfsrStep x
    if y % 2 ^ k = 0 then (if n = 0 then some y else none) else if n = 0 then none else lfsrTag k n y
/-- The LFSR of PAVp at enable (R625). -/
def lfsrSeed (seed p : Nat) : Nat :=
  let v := Nat.xor seed (p * 0x9E3779B9 % 2 ^ 32)
  if v = 0 then 1 else v
/-- A write of OD 0x1D00.06 (R625): enabling takes k, the mask and the seed; disabling stops the tags. -/
def tagEnable (v : Nat) (s : State) : Code × State :=
  let was := s.flag 0x1D00 6
  let s1 := s.put 0x1D00 6 v
  if v = 0 then (.ok, { s1 with perf := { s1.perf with lfsr := [] } })
  else if was then (.ok, s1)
  else
    let seeds := (bits (s.nat 0x1D00 8) 64).map (fun p => (p, lfsrSeed (s.nat 0x1D00 9) p))
    (.ok, { s1 with perf := { s1.perf with tagK := s.nat 0x1D00 7, lfsr := seeds } })

/-- The 32 bytes of a tag record (R626). -/
def TagRecord.bytes (r : TagRecord) : List Byte :=
  let c := fun (v : Nat) => leBytes 2 (min v 65535)
  leBytes 4 r.ts ++ leBytes 4 r.cycle ++ leBytes 1 r.pav ++ leBytes 1 r.chan ++ leBytes 1 (r.slots % 16) ++
    leBytes 1 r.kind ++ leBytes 4 r.pc ++ c r.issue ++ c r.ready ++ c r.exec_ ++ c r.retire ++ leBytes 1 r.stall ++
    leBytes 1 r.accel ++ zeros 6

/-- TAGGED_BUNDLE_RECORD (R625, R626): a Pavilion's next tagged bundle, `steps` bundles after its last one, retires; its
record is written, or dropped where the ring's port is busy. -/
def execTaggedBundleRecord (r : TagRecord) (steps : Nat) (portBusy : Bool) (s : State) :
    Host.Outcome State Fault Refusal :=
  if pavCount ≤ r.pav then .fault .noSuchUnit
  else match (tget s.perf.lfsr r.pav).bind (lfsrTag s.perf.tagK steps) with
    | none => .next s
    | some x =>
      let s1 : State := { s with perf := { s.perf with lfsr := tset s.perf.lfsr r.pav x } }
      let s2 := s1.pavAdd r.pav r.chan 0x0C 1
      if portBusy then .next (s2.put 0x1D90 3 ((s2.nat 0x1D90 3 + 1) % 2 ^ 64 : Nat))
      else
        let ring := s2.perf.ring ++ [r]
        let s3 : State := { s2 with perf := { s2.perf with ring := ring.drop (ring.length - 1024) } }
        .next (s3.put 0x1D90 2 ((s3.nat 0x1D90 2 + 1) % 2 ^ 64 : Nat))

/-! Built-in tests (R639–R641) -/

/-- The number of units a test can name; 0 for no test (R639). -/
def testUnits (code : Nat) : Nat :=
  match code with
  | 1 => 64 | 2 => 64 | 3 => 64 | 4 => 4 | 5 => 16 | 6 => 48 | 7 => 48 | 8 => 48 | 9 => 4 | 0x0A => 16 | 0x0B => 4
  | _ => 0
/-- The time limit of a test in ns; none for one that runs until cancelled (R639). -/
def testLimit (code : Nat) : Option Nat :=
  match code with
  | 1 => some 100000000 | 2 => some 200000000 | 3 => some 1000000000 | 4 => some 1000000000 | 8 => none
  | 9 => some 10000000000 | 0x0A => some 10000000000 | _ => some 60000000000
/-- START and LENGTH of a DRAM test's arguments (R639). -/
def testRange (args : List Byte) : Nat × Nat := (leNat (args.take 8), leNat ((args.drop 8).take 8))
/-- The units and arguments that a test can use (R639, R640). -/
def State.testOk (s : State) (code mask : Nat) (args : List Byte) : Bool :=
  let n := testUnits code
  let pavs : Bool := code == 1 || code == 2 || code == 3
  decide (n ≠ 0) && decide (mask < 2 ^ n) &&
    (!pavs || (bits mask 64).all (fun p => !s.excluded p && (s.pav p).state != 5)) &&
    (code != 5 || (let r := testRange args
      r.1 % 256 == 0 && r.2 % 256 == 0 && decide (r.1 + r.2 ≤ 4 * regionBytes s.dramCfg)))

/-- A write of OD 0x1E10.04 (R34, R639, R640): the device moves from SERVICE to TEST and the test runs.
[DEDUCED: log entry 52] -/
def testStart (value : Nat) (s : State) : Code × State :=
  let code := s.nat 0x1E10 1
  let mask := s.nat 0x1E10 2
  let args := odBytes s.od 0x1E10 3
  if value = 0 then (.ok, s)
  else if s.perf.test.isSome then (.busy, s)
  else if s.mode ≠ .service then (.denied, s)
  else if code = 0 ∨ mask = 0 then (.zero, s)
  else if !s.testOk code mask args then (.range, s)
  else
    let s1 := ((s.put 0x1E10 6 1).put 0x1E10 7 0).putVal 0x1E10 8 (.oct [])
    (.ok, ({ s1 with perf := { s1.perf with test := some (code, mask, args, s.now) } }).toMode .test 8)

/-- The result record (R641). -/
def testRecord (code state duration : Nat) (v : List TestVerdict) : List Byte :=
  let failed := maskOf ((v.filter (fun x => x.verdict == 1)).map TestVerdict.unit)
  leBytes 1 code ++ leBytes 1 state ++ leBytes 2 v.length ++ leBytes 4 duration ++ leBytes 8 failed ++
    v.flatMap (fun x => leBytes 2 x.unit ++ leBytes 1 x.verdict ++ zeros 1 ++ leBytes 4 x.errors ++ leBytes 8 x.detail)

/-- A test ends in a state (R639, R641): its record is kept and the device returns to SERVICE. A DRAM test has overwritten
its range. [DESIGN CHOICE: log entry 76] -/
def State.endTest (s : State) (t : Nat × Nat × List Byte × Nat) (state duration : Nat) (v : List TestVerdict) : State :=
  let range := testRange t.2.2.1
  let mem := if t.1 = 5 then s.dramMem.filter (fun kv => decide (kv.1 < range.1) || decide (range.1 + range.2 ≤ kv.1))
    else s.dramMem
  let s1 := ((s.put 0x1E10 6 state).put 0x1E10 7 1000).putVal 0x1E10 8 (.oct (testRecord t.1 state duration v))
  ({ s1 with dramMem := mem, perf := { s1.perf with test := none } }).toMode .service 9

/-- TEST_COMPLETE (R639, R641): the running test passes (`outcome` 2), fails (3) or reaches its time limit (5), with the
verdict of every unit that its mask names, in ascending order. [DESIGN CHOICE: log entry 98] -/
def execTestComplete (outcome duration : Nat) (verdicts : List TestVerdict) (s : State) :
    Host.Outcome State Fault Refusal :=
  match s.perf.test with
  | none => .next s
  | some t =>
    let whole : Bool := verdicts.map TestVerdict.unit == bits t.2.1 64
    let fails : Bool := verdicts.any (fun v => v.verdict == 1)
    let may : Bool := match testLimit t.1 with
      | none => false
      | some lim => (outcome == 2 && !fails) || (outcome == 3 && fails) || (outcome == 5 && decide (t.2.2.2 + lim ≤ s.now))
    if whole && may then .next (s.endTest t outcome duration verdicts) else .next s

/-- A write of OD 0x1E10.05 (R639, R640): the running test is cancelled. What its units had found by then is free.
[DESIGN CHOICE: log entry 76] -/
def testCancel (value : Nat) (s : State) : Code × State :=
  if value = 0 then (.ok, s)
  else match s.perf.test with
    | none => (.ok, s)
    | some t =>
      let r := (bits t.2.1 64).foldl (fun (a : List TestVerdict × State) u =>
        let d := a.2.draw
        let e := d.2.draw
        let f := e.2.draw
        (a.1 ++ [⟨u, d.1 % 3, e.1 % 2 ^ 32, f.1 % 2 ^ 64⟩], f.2)) ([], s)
      (.ok, r.2.endTest t 4 ((s.now - t.2.2.2) / 1000000) r.1)

end Sys2Proof.Machine
end

