-- ==== Sys2Proof/Machine/Security.lean ====
section
/-! DEFINITION. Security.lean: life cycle, fuses, keys, signed images, settings generations, trials and attestation
(R573–R605). -/

namespace Sys2Proof.Machine

/-! Fuses (R573, R592–R594) -/

/-- The number of blown fuses among the low `n`. -/
def blown (v n : Nat) : Nat := (bits v n).length
/-- A group of 16 fuses reads as blown (R573). -/
def groupBlown (v : Nat) : Bool := decide (12 ≤ blown v 16)
/-- Sixteen blown fuses. -/
def allFuses : Nat := 65535
/-- The number of blown groups of a kind (R573). -/
def groupsBlown (l : List Nat) : Nat := (l.filter groupBlown).length
/-- P: the number of provisionings (R573). -/
def Security.provisionings (x : Security) : Nat := groupsBlown x.pFuse
/-- The life-cycle state derived from the fuses (R573): 0 BLANK, 1 PROVISIONED, 2 FIELD, 3 RETURN, 4 SCRAPPED. -/
def Security.derive (x : Security) : Nat :=
  let p := x.provisionings
  if groupBlown x.sFuse then 4
  else if p = 0 then 0
  else if groupsBlown x.rFuse = p then 3
  else if groupsBlown x.fFuse = p then 2
  else 1
/-- The groups partly blown, as (group number, fuses read): P1–P4 are 0–3, F1–F4 4–7, R1–R4 8–11, S 12 (R573).
[DEDUCED: log entry 30] -/
def Security.partly (x : Security) : List (Nat × Nat) :=
  let all := x.pFuse ++ x.fFuse ++ x.rFuse ++ [x.sFuse]
  ((List.range all.length).zip (all.map (fun v => blown v 16))).filter (fun g => decide (1 ≤ g.2) && decide (g.2 < 12))
/-- The rollback counter (R592): the number of the highest blown fuse. -/
def Security.rollback (x : Security) : Nat := ((bits x.rollFuse 128).getLast?.map (· + 1)).getD 0
/-- An owner slot is live (R585). -/
def OwnerSlot.live (o : OwnerSlot) : Bool := groupBlown o.prog && !groupBlown o.rev
/-- Owner slot k (R585). -/
def Security.owner (x : Security) (k : Nat) : OwnerSlot := tgetD x.owners k {}
/-- OD 0x1F10.05–.08: the state of owner slot k (R603). -/
def Security.ownerState (x : Security) (k : Nat) : Nat :=
  let o := x.owner k
  if !groupBlown o.prog then 0 else if groupBlown o.rev then 2 else 1
/-- The live owner slots. -/
def Security.liveOwners (x : Security) : List Nat := [0, 1, 2, 3].filter (fun k => (x.owner k).live)

/-! The boot record (R599) -/

/-- The copy in force: the one with the highest sequence number (R599). -/
def Security.bootRecord (x : Security) : Option BootRecord :=
  match x.boot with
  | (some a, some b) => some (if a.seq < b.seq then b else a)
  | (some a, none) => some a
  | (none, b) => b
/-- An update writes the copy that is not in force (R599). -/
def Security.writeBoot (x : Security) : Security :=
  let r : BootRecord := { seq := ((x.bootRecord).map (fun b => b.seq + 1)).getD 0, active := x.active, armed := x.armed }
  if x.boot.1.isSome ∧ x.bootRecord = x.boot.1 then { x with boot := (x.boot.1, some r) } else { x with boot := (some r, x.boot.2) }
/-- What the boot ROM reads from the boot record (R599). -/
def Security.readBoot (x : Security) : Security :=
  match x.bootRecord with
  | some b => { x with active := b.active, armed := b.armed }
  | none => x

/-! The OTP map (R593) -/

/-- The IDENTITY field (R593). [DEDUCED: log entry 30] -/
def Security.identity (x : Security) : Nat :=
  let v := leBytes 8 x.serial ++ leBytes 4 x.lot ++ leBytes 1 x.wafer ++ leBytes 1 x.dieX ++ leBytes 1 x.dieY ++ leBytes 1 x.grade ++
    leBytes 6 x.macBase ++ leBytes 4 x.made ++ zeros 2
  leNat (v ++ leBytes 4 (crc32c v))
/-- An owner slot's 320 bits (R593). -/
def OwnerSlot.word (o : OwnerSlot) : Nat :=
  leNat ((o.hash ++ zeros 32).take 32 ++ leBytes 4 (crc32c ((o.hash ++ zeros 32).take 32)) ++ leBytes 2 o.prog ++ leBytes 2 o.rev)
/-- The 16,384 OTP bits (R593). -/
def Security.otp (x : Security) : Nat :=
  x.identity + Config.otpSeed % 2 ^ 512 * 2 ^ 256 +
    ([0, 1, 2, 3].map (fun k => (tgetD x.owners k {}).word * 2 ^ (768 + 320 * k))).sum +
    (((x.pFuse ++ x.fFuse ++ x.rFuse ++ [x.sFuse]).zip (List.range 13)).map (fun g => g.1 % 65536 * 2 ^ (2048 + 16 * g.2))).sum +
    x.rollFuse % 2 ^ 128 * 2 ^ 2256 +
    ([0, 1, 2, 3, 4].map (fun g => tgetD x.settings g 0 % 2 ^ 288 * 2 ^ (2384 + 288 * g))).sum +
    Config.otpTrim % 2 ^ 12560 * 2 ^ 3824

/-! Settings generations (R594–R596) -/

/-- One 64-bit word of a generation under its SECDED check byte: as it is or with one bit corrected (R593, R594). -/
def secdedWord (w c : Nat) : Option Nat :=
  if Config.secded w = c then some w
  else match (List.range 64).find? (fun k => Config.secded (Nat.xor w (2 ^ k)) == c) with
    | some k => some (Nat.xor w (2 ^ k))
    | none => if (List.range 8).any (fun k => Config.secded w == Nat.xor c (2 ^ k)) then some w else none
/-- The 256 data bits of a valid generation (R594). -/
def settingsData (v : Nat) : Option Nat :=
  let words := [0, 1, 2, 3].map (fun k => secdedWord (v / 2 ^ (64 * k) % 2 ^ 64) (v / 2 ^ (256 + 8 * k) % 256))
  match words with
  | [some a, some b, some c, some d] =>
    let data := a + b * 2 ^ 64 + c * 2 ^ 128 + d * 2 ^ 192
    if bit data 255 then some data else none
  | _ => none
/-- The 288 bits that program a block of 256 data bits (R593). -/
def settingsWord (data : Nat) : Nat :=
  data % 2 ^ 256 + ([0, 1, 2, 3].map (fun k => Config.secded (data / 2 ^ (64 * k) % 2 ^ 64) * 2 ^ (256 + 8 * k))).sum
/-- A generation as it stands in OTP, 0 when unprogrammed (R595). -/
def Security.generation (x : Security) (g : Nat) : Nat := tgetD x.settings g 0
/-- The settings in force: the highest valid generation, with its number from 1, or 0 and none (R594). An unprogrammed
generation is never valid: its MARK is 0 under its check bytes, which are those of 0. -/
def Security.inForce (x : Security) : Nat × Nat :=
  [4, 3, 2, 1, 0].foldl (fun a g => if a.1 ≠ 0 ∨ x.generation g = 0 then a else match settingsData (x.generation g) with
    | some d => (g + 1, d)
    | none => a) (0, 0)
/-- The programmed generations that fail (R594). -/
def Security.skipped (x : Security) : List Nat :=
  [0, 1, 2, 3, 4].filter (fun g => x.generation g != 0 && (settingsData (x.generation g)).isNone)
/-- A bit of the settings block in force, OD 0x1F00.05 (R596). -/
def State.setting (s : State) (k : Nat) : Bool := bit (leNat (odBytes s.od 0x1F00 5)) k
/-- BOARD of the settings in force (R596). -/
def State.settingsBoard (s : State) : Nat := leNat ((odBytes s.od 0x1F00 5).drop 2 |>.take 2)

/-! Signed images (R589–R591) -/

/-- The bytes of an ASCII string. -/
def ascii (t : String) : List Byte := t.toList.map (fun c => BitVec.ofNat 8 c.toNat)
/-- One signature block: KEYID, public key and signature (R589). -/
structure SigBlock where
  /-- R589. KEYID -/
  keyid : Nat
  /-- R589. public key -/
  key : List Byte
  /-- R589. signature -/
  sig : List Byte
deriving DecidableEq, Repr
/-- Block j of an image (R589). -/
def sigBlock (b : List Byte) (j : Nat) : SigBlock :=
  let x := (b.drop (128 + 5268 * j)).take 5268
  { keyid := leNat (x.take 1), key := (x.drop 4).take 1952, sig := (x.drop 1956).take 3309 }
/-- The signature blocks of an image. -/
def sigBlocks (b : List Byte) : List SigBlock := (List.range (leNat ((b.drop 7).take 1))).map (sigBlock b)
/-- A block's key is the ROM root or a live owner, and its signature verifies (R590). -/
def Security.blockOk (x : Security) (head : List Byte) (k : SigBlock) : Bool :=
  let h := Config.shake256 32 k.key
  let known := if k.keyid = 0 then h == Config.rootHash
    else decide (k.keyid ≤ 4) && (x.owner (k.keyid - 1)).live && h == (x.owner (k.keyid - 1)).hash
  known && Config.sigOk k.key head k.sig (ascii "SD4864 image")
/-- The signer policy of R590. -/
def State.signersOk (s : State) (type : Nat) (ids : List Nat) : Bool :=
  let druthal := ids.contains 0
  let owner := ids.any (fun k => k != 0)
  match type with
  | 1 => druthal && (!s.setting 0 || owner)
  | 2 => druthal && (!s.setting 0 || owner)
  | 3 => if s.setting 1 then owner else druthal || owner
  | 4 => if s.setting 1 then owner else druthal || owner
  | 7 => owner
  | _ => druthal && !owner
/-- The image that bytes spell, not yet verified (R589, R591). -/
def imageOf (b : List Byte) : Image :=
  { type := leNat ((b.drop 5).take 1), rollback := leNat ((b.drop 6).take 1), version := leNat ((b.drop 8).take 4),
    board := leNat ((b.drop 12).take 2), keyids := (sigBlocks b).map SigBlock.keyid, verified := false,
    meas := Config.shake256 32 b, payload := b.drop (128 + 5268 * leNat ((b.drop 7).take 1)) }
/-- The verification of R590, in its order, of an image for a place that takes one type. -/
def State.verifyImage (s : State) (type : Nat) (b : List Byte) : Code :=
  let i := imageOf b
  let nsig := leNat ((b.drop 7).take 1)
  if b.take 4 ≠ ascii "STED" ∨ leNat ((b.drop 4).take 1) ≠ 1 ∨ i.type ≠ type ∨ nsig < 1 ∨ 2 < nsig ∨
      i.payload.length ≠ leNat ((b.drop 20).take 4) then .range
  else if i.type < 7 ∧ i.rollback < s.sec.rollback then .rollback
  else if i.board ≠ 0 ∧ s.settingsBoard ≠ 0 ∧ i.board ≠ s.settingsBoard then .range
  else if !(sigBlocks b).all (s.sec.blockOk (b.take 128)) then .signature
  else if !s.signersOk i.type i.keyids then .signature
  else if Config.shake256 64 i.payload ≠ (b.drop 24).take 64 then .digest
  else .ok
/-- The verification of an image already held, at STARTING (R590, R602): `bad` says that a signature or the digest no
longer passes. -/
def State.reverify (s : State) (i : Image) (bad : Bool) : Code :=
  if i.rollback < s.sec.rollback then .rollback
  else if i.board ≠ 0 ∧ s.settingsBoard ≠ 0 ∧ i.board ≠ s.settingsBoard then .range
  else if !i.keyids.all (fun k => k == 0 || (s.sec.owner (k - 1)).live) then .signature
  else if !s.signersOk i.type i.keyids then .signature
  else if bad || !i.verified then .signature
  else .ok

/-! Banks (R599–R604) -/

/-- The active bank of a type: 0 A, 1 B (R599). -/
def Security.activeBank (x : Security) (t : Nat) : Nat := b2n (bit x.active (t - 1))
/-- The bank that runs: the other one during a trial (R601). -/
def Security.runningBank (x : Security) (t : Nat) : Nat :=
  if (tget x.running t).isSome then 1 - x.activeBank t else x.activeBank t
/-- The image of a bank. -/
def Security.bank (x : Security) (t b : Nat) : Option Image := tget x.banks (2 * t + b)
/-- A trial of a type is armed or its bank runs unconfirmed within its window (R604). -/
def Security.onTrial (x : Security) (t : Nat) : Bool :=
  (tget x.armed t).isSome || ((tget x.running t).getD 0) != 0
/-- OD 0x1F32.04 (R604). -/
def Security.bankWord (x : Security) : Nat :=
  ([1, 2, 3].map (fun t =>
    (x.activeBank t + b2n (x.onTrial t) * 2 +
      b2n ((x.bank t (1 - x.activeBank t)).any (fun i => i.verified)) * 4) * 16 ^ (t - 1))).sum + b2n x.recovery * 8

/-! Who asks (R33, R576, R584, R585) -/

/-- A request that FIELD takes only from an owner command (R576, R586, R595). -/
def State.needsOwner (s : State) (w : Who) : Bool := s.sec.lcs == 2 && w.owner.isNone

/-! Life-cycle requests (R574, R575) -/

/-- A stage-set or session write of an image is in progress (R574, R600). -/
def imageObject (o : ObjRef) : Bool := o.idx == 0x1F30 || o.idx == 0x1F31
/-- Whether an image transfer is open (R600). -/
def State.imageOpen (s : State) : Bool :=
  s.ctl.sessions.any (fun kv => kv.2.xfer.any (fun x => x.write && imageObject x.obj))
/-- The transition that R574 lists from a life-cycle state to another, and P short of 4 for re-provisioning. -/
def lifeTransition (from_ to_ p : Nat) : Bool :=
  match from_, to_ with
  | 0, 1 => true
  | 1, 2 => true
  | 1, 3 => true
  | 2, 3 => true
  | 3, 1 => decide (p < 4)
  | 3, 4 => true
  | _, _ => false
/-- The requester is of the kind the transition's row names (R574). -/
def lifeRequester (from_ to_ : Nat) (w : Who) : Bool :=
  match from_, to_ with
  | 0, _ => decide (2 ≤ w.cls)
  | 1, _ => decide (2 ≤ w.cls) && decide (w.cred < 16)
  | 2, _ => decide (2 ≤ w.cls) && decide (w.cred < 16) && w.owner.isSome
  | 3, 1 => w.cls == 3 && bit w.perms 1
  | 3, _ => w.cls == 3 && bit w.perms 2
  | _, _ => false
/-- The fuses of a transition blown (R574). -/
def Security.blow (x : Security) (from_ to_ : Nat) : Security :=
  let p := x.provisionings
  match from_, to_ with
  | 0, _ => { x with pFuse := x.pFuse.set 0 allFuses }
  | 1, 2 => { x with fFuse := x.fFuse.set (p - 1) allFuses }
  | 3, 1 => { x with pFuse := x.pFuse.set p allFuses }
  | 3, _ => { x with sFuse := allFuses }
  | _, _ =>
    let f := if groupBlown (x.fFuse.getD (p - 1) 0) then x.fFuse else x.fFuse.set (p - 1) allFuses
    { x with fFuse := f, rFuse := x.rFuse.set (p - 1) allFuses }
/-- Owner secrets zeroised on entering RETURN (R575). -/
def State.zeroise (s : State) : State :=
  let gone := s.sec.packs.filter (fun kv => kv.2.verified && !kv.2.keyids.contains 0)
  let kept := s.sec.packs.filter (fun kv => !(kv.2.verified && !kv.2.keyids.contains 0))
  let s1 : State := { s with ctl := { s.ctl with slotA := none, slotB := none }, sec := { s.sec with packs := kept } }
  s1.log 0x46 0xFFFF 0xFF [maskOf (tkeys gone)]
/-- A life-cycle request tested in the order of R574, and its fuses and actions up to the warm reset that follows. -/
def lifecycleStep (w : Who) (v : Nat) (s : State) : Code × State :=
  let to_ := v / 2 ^ 56 % 256
  let f := s.sec.lcs
  if v = 0 ∨ v % 2 ^ 32 ≠ s.sec.serial % 2 ^ 32 then (.range, s)
  else if !lifeTransition f to_ s.sec.provisionings then (.lifecycle, s)
  else if !lifeRequester f to_ w then (.denied, s)
  else if s.sec.armed ≠ [] ∨ s.ctl.storing.isSome ∨ s.imageOpen then (.busy, s)
  else if f = 0 ∧ (s.sec.liveOwners = [] ∨ !anyService s.od []) then (.range, s)
  else
    let s1 : State := ({ s with sec := s.sec.blow f to_ }).log 0x43 0xFFFF 0xFF [f, to_]
    (.ok, if to_ = 3 then s1.zeroise else s1)

/-! Fuses written by commands (R586, R592, R595) -/

/-- OD 0x1F00.07 written (R592, R605); in FIELD, as every write to OTP, only by an owner command (R576). -/
def rollbackAdvance (w : Who) (v : Nat) (s : State) : Code × State :=
  let lim := fun t => ((s.sec.bank t (s.sec.activeBank t)).map Image.rollback).getD 0
  if s.needsOwner w then (.denied, s)
  else if v ≤ s.sec.rollback ∨ lim 1 < v ∨ lim 2 < v then (.range, s)
  else if s.sec.armed ≠ [] then (.busy, s)
  else (.ok, { s with sec := { s.sec with rollFuse := Nat.lor s.sec.rollFuse (2 ^ v - 1) } })

/-- The lowest unprogrammed generation programmed, `bad` being what failing generations read back as, in turn (R595). -/
def Security.program (x : Security) (data : Nat) : List Nat → Option Security
  | [] => match [0, 1, 2, 3, 4].find? (fun g => x.generation g == 0) with
    | some g => some { x with settings := tset x.settings g (settingsWord data) }
    | none => none
  | b :: r => match [0, 1, 2, 3, 4].find? (fun g => x.generation g == 0) with
    | some g => ({ x with settings := tset x.settings g (max 1 b) }).program data r
    | none => none
/-- OD 0x1F04.01 written (R595, R605). A write that finds no generation that reads back leaves those it spoilt. -/
def settingsWrite (w : Who) (b : List Byte) (bad : List Nat) (s : State) : Code × State :=
  let data := leNat b
  let full := [0, 1, 2, 3, 4].all (fun g => s.sec.generation g != 0)
  if s.needsOwner w then (.denied, s)
  else if !bit data 255 ∨ full then (.range, s)
  else match s.sec.program data bad with
    | some x => (.ok, { s with sec := x })
    | none =>
      let spoilt := [0, 1, 2, 3, 4].foldl (fun (x : Tab Nat × List Nat) g =>
        if (tget x.1 g).isSome then x else (tset x.1 g (max 1 (x.2.headD 1)), x.2.tail)) (s.sec.settings, bad)
      (.hardware, { s with sec := { s.sec with settings := spoilt.1 } })

/-- OD 0x1F13.01 written (R586): an owner slot programmed. -/
def programOwner (w : Who) (k : Nat) (hash : List Byte) (s : State) : Code × State :=
  if s.needsOwner w then (.denied, s)
  else if 3 < k ∨ groupBlown (s.sec.owner k).prog then (.range, s)
  else (.ok, { s with sec := { s.sec with owners := tset s.sec.owners k { s.sec.owner k with hash := hash, prog := allFuses } } })

/-- OD 0x1F13.02 written (R586): an owner slot revoked, in FIELD by another key than its own. -/
def revokeOwner (w : Who) (k : Nat) (s : State) : Code × State :=
  if s.needsOwner w ∨ (s.sec.lcs = 2 ∧ w.owner = some k) then (.denied, s)
  else if 3 < k ∨ ((s.setting 0 || s.setting 1) && (s.sec.liveOwners.filter (· != k)).isEmpty) then (.range, s)
  else (.ok, { s with sec := { s.sec with owners := tset s.sec.owners k { s.sec.owner k with rev := allFuses } } })

/-! Trials (R601, R605) -/

/-- OD 0x1F32.01 written: a trial armed. [DEDUCED: log entry 27] -/
def armTrial (t : Nat) (s : State) : Code × State :=
  let other := 1 - s.sec.activeBank t
  if t < 1 ∨ 3 < t ∨ !(s.sec.bank t other).any (fun i => i.verified) then (.range, s)
  else (.ok,
    ({ s with sec := ({ s.sec with armed := tset s.sec.armed t (s.nat 0x1F32 3) } : Security).writeBoot }).log
      0x45 0xFFFF 0xFF [t, other])

/-- OD 0x1F32.02 written: the trial bank made active before its window has run out. -/
def confirmTrial (t : Nat) (s : State) : Code × State :=
  match tget s.sec.running t with
  | none => (.range, s)
  | some e =>
    if t < 1 ∨ 3 < t ∨ e = 0 ∨ e ≤ s.lodge.time then (.range, s)
    else
      let a := if bit s.sec.active (t - 1) then clrBit s.sec.active (t - 1) else setBit s.sec.active (t - 1)
      let s1 : State := { s with sec := ({ s.sec with active := a, running := tdel s.sec.running t } : Security).writeBoot }
      (.ok, s1.log 0x45 0xFFFF 0xFF [t, 1 - s.sec.activeBank t])

/-- CONFIRM_WINDOW_EXPIRY (R601): an unconfirmed trial's window has passed; the device runs on, and the next start
boots the old bank. [DEDUCED: log entry 27] -/
def execConfirmWindowExpiry (type : Nat) (s : State) : Host.Outcome State Fault Refusal :=
  match tget s.sec.running type with
  | none => .next s
  | some e =>
    if e = 0 ∨ s.lodge.time < e then .next s
    else .next (({ s with sec := { s.sec with running := tset s.sec.running type 0 } }).log 0x1B 0xFFFF 0xFF [type])

/-! Attestation (R597) -/

/-- OD 0x1F02.01 written: a nonce that serves one report. -/
def attestNonce (b : List Byte) (s : State) : Code × State :=
  if b.all (· == 0) then (.zero, s) else (.ok, { s with sec := { s.sec with attNonce := some b } })

/-- `n` bytes of a list, padded with zeros. -/
def fixed (n : Nat) (b : List Byte) : List Byte := (b ++ zeros n).take n
/-- The measurement of a running bank's image, zero where there is none (R597). -/
def State.bankMeas (s : State) (t : Nat) : List Byte :=
  fixed 32 (((s.sec.bank t (s.sec.runningBank t)).map Image.meas).getD [])
/-- Hashes and states of the four owner slots (R597). -/
def Security.ownerBytes (x : Security) : List Byte :=
  ([0, 1, 2, 3].flatMap (fun k => fixed 32 (x.owner k).hash)) ++ [0, 1, 2, 3].map (fun k => BitVec.ofNat 8 (x.ownerState k))
/-- The report's bytes 0–551 (R597). -/
def State.attestBody (s : State) (nonce : List Byte) : List Byte :=
  let packs := s.sec.packs.filter (fun kv => kv.2.verified)
  ascii "SDAT" ++ leBytes 1 1 ++ leBytes 1 s.sec.lcs ++ leBytes 1 s.sec.provisionings ++ leBytes 1 s.sec.rollback ++
    leBytes 8 s.sec.serial ++ fixed 32 nonce ++ time80 s.now ++ zeros 2 ++ leBytes 8 (s.lodge.time / 10) ++
    leBytes 1 (s.nat 0x1F00 4) ++ leBytes 1 s.mode.code ++ leBytes 1 s.cluster.role ++ leBytes 1 packs.length ++
    fixed 32 Config.romMeasurement ++ s.bankMeas 1 ++ s.bankMeas 2 ++ fixed 32 s.lodge.digest ++
    Config.shake256 32 (fixed 32 (odBytes s.od 0x1F00 5)) ++ Config.shake256 32 s.sec.ownerBytes ++
    s.clusterDigest ++
    (List.range 8).flatMap (fun k => fixed 32 (((tget s.sec.packs k).map Image.meas).getD []))
/-- The signed report, and the nonce used up (R597). -/
def State.attest (s : State) : Option (List Byte × State) :=
  s.sec.attNonce.map (fun n =>
    let b := s.attestBody n
    (b ++ Config.deviceSign b (ascii "SD4864 attest"), { s with sec := { s.sec with attNonce := none } }))

/-! Sessions (R576, R577, R583) -/

/-- The class that R576 grants: `role` requested, `cred` presented, its record where it is a credential. -/
def State.grant (s : State) (role cred path : Nat) (record : List Byte) : Option Nat :=
  let udp := fun c => if path = 0 ∧ s.setting 2 then min c 1 else c
  let byCred := if decide (role ≤ (record.getD 0 0).toNat) && bit (record.getD 1 0).toNat 0 && decide (role ≤ 2) then
    some (udp role) else none
  let boot := some (udp 2)
  match s.sec.lcs with
  | 0 => if cred = 0xFF then boot else if cred < 16 then byCred else none
  | 1 => if cred = 0xFF then (if anyService s.od [] then none else boot) else if cred < 16 then byCred else none
  | 2 => if cred < 16 then byCred else none
  | _ => if cred = 0xFE ∧ !(path = 0 ∧ s.setting 2) then some 3 else none

end Sys2Proof.Machine
end

