-- ==== Sys2Proof/Machine/Lodge.lean ====
section
/-! DEFINITION. Lodge.lean: the Lodge's rules and wakes, the brownout sequence, the thermal trip, and the resets with
what survives them (R548–R572, R633). -/

namespace Sys2Proof.Machine

/-! Rules (R550–R553) -/

/-- A counter of OD 0x1703 with its wrap flag in OD 0x1702.06 (R571). -/
def State.lodgeCount (s : State) (j : Nat) : State :=
  { s with od := odCount s.od 0x1703 j 0x1702 6 (16 + j) 4294967296 1 }

/-- Rule k's condition holds for a filtered value (R550). [DEDUCED: log entry 28] -/
def LodgeRule.holds (r : LodgeRule) (v : Int) : Bool :=
  match r.op with
  | 0 => decide (r.thresh < v)
  | 1 => decide (v < r.thresh)
  | 2 => decide (r.thresh < v)
  | 3 => v != 0
  | 4 => v == 0
  | _ => false

/-- A wake (R34, R551): from DORMANT only; held, it is refused and counted. [DEDUCED: log entry 26] -/
def State.wake (s : State) : State :=
  if s.mode ≠ .dormant ∨ !s.lodge.powered then s
  else if s.lodge.holding then s.lodgeCount 0x0C
  else if s.lodge.order = 0 then s.setLodge { s.lodge with order := 1 }
  else s

/-- The brownout sequence (R560, R633): DORMANT with trigger 0x05, the queued entries lost, and one entry written from
VLODGE energy. In DORMANT only the entry is made. [DEDUCED: log entry 29] -/
def State.brownout (s : State) (rule : Nat) (value : Int) : State :=
  let lost := s.bb.queue.length
  let s1 := (s.bump 0x1700 6 0x1702 6).keepEvent 1 rule value
  let s2 := (if s.mode = .dormant then s1 else s1.powerDown 5).act 1
  let e := s2.bbEntry 0x10 rule 0xFF [u64 value, lost]
  { s2 with bb := { s2.bb with queue := [], dropped := 0 }.write { e with mode := s.mode.code } true }

/-- What a firing rule does (R551): wake, black-box entry, brownout sequence, Lodge reset and SAFE act once. -/
def State.ruleAction (s : State) (k : Nat) (r : LodgeRule) (value : Int) : State :=
  match r.action with
  | 1 => s.wake
  | 4 => s.log 0x13 k 0xFF [r.arg, u64 value]
  | 5 => s.brownout k value
  | 6 => s.setLodge { s.lodge with order := 2 }
  | 7 => match s.mode with
    | .dormant => s
    | .starting => s
    | .ret => s
    | _ => (s.log 0x13 k 0xFF [r.arg, u64 value]).enterSafe 0x0F 3
  | _ => s

/-- A digital input that State holds reads as the value named (R548): PAIR_LIVE_IN live and DRAWBAR low. -/
def State.inputReads (s : State) (input : Nat) (value : Int) : Bool :=
  if input = 0x30 then (value != 0) == s.pair.live
  else if input = 0x31 then (value != 0) == (s.pair.held || s.pair.drawbar)
  else true

/-- Rule k fires with a filtered value (R550, R551): a condition that was not true becomes true. `rises` conditions are
true only at the crossing. -/
def State.fireRule (s : State) (k : Nat) (value : Int) : State :=
  match s.lodge.rules[k]? with
  | none => s
  | some r =>
    if !s.lodge.powered || !r.active s.mode || !r.holds value || !s.inputReads r.input value || s.lodge.conds.contains k then s
    else
      let s1 := if r.op = 2 then s else s.setLodge { s.lodge with conds := s.lodge.conds ++ [k] }
      let s2 := (s1.put 0x1702 3 ((s1.nat 0x1702 3 + 1) % 4294967296 : Nat)).lodgeEvent 5 k value
      (s2.alertLevel k value).ruleAction k r value

/-- LODGE_RULE_FIRE (R548–R551, R553): a rule of the table in force fires. [DEDUCED: log entry 28] -/
def execLodgeRuleFire (rule : Nat) (value : Int) (s : State) : Host.Outcome State Fault Refusal :=
  if 64 ≤ rule then .fault .noSuchUnit else .next (s.fireRule rule value)

/-- BROWNOUT_SEQUENCE (R560): a brownout rule fires. [DEDUCED: log entry 29] -/
def execBrownoutSequence (rule vin : Nat) (s : State) : Host.Outcome State Fault Refusal :=
  if 64 ≤ rule then .fault .noSuchUnit
  else if (s.lodge.rules[rule]?).any (fun r => r.action == 5) then .next (s.fireRule rule vin)
  else .next s

/-- RULE_CONDITION_CLEARED (R38, R550, R551): a rule's condition has become false, and stayed so for its HOLD time. -/
def execRuleConditionCleared (rule : Nat) (s : State) : Host.Outcome State Fault Refusal :=
  if 64 ≤ rule then .fault .noSuchUnit
  else if s.lodge.conds.contains rule then
    let s1 := s.setLodge { s.lodge with conds := s.lodge.conds.filter (· != rule) }
    let s2 := s1.alertLevel rule 0
    let safe := (s2.lodge.rules[rule]?).any (fun r => r.action == 7) && !s2.lodge.anyTrue [7]
    .next (if safe then s2.clearCause 3 else s2)
  else .next s

/-! Temperature (R562) -/

/-- THERMAL_TRIP (R40, R562): a die sensor has read 165 °C or more, in 1/16 °C, at four consecutive samples. A power-on, reset
or brownout of the same tick drops it. -/
def execThermalTrip (sensor : Nat) (temp : Int) (s : State) : Host.Outcome State Fault Refusal :=
  if 16 ≤ sensor then .fault .noSuchUnit
  else if temp < 2640 ∨ s.lodge.powered = false ∨ s.outranked 2 = true then .next s
  else
    let e := s.bbEntry 0x11 sensor 0xFF [u64 temp]
    let s1 := (s.put 0x1701 0x14 ((s.nat 0x1701 0x14 + 1) % 4294967296 : Nat)).keepEvent 4 sensor temp
    let s2 : State := { s1 with bb := s1.bb.write e true }
    let s3 := (if s2.mode = .dormant then s2 else s2.powerDown 0x0D).act 2
    .next (s3.setLodge { s3.lodge with thermalHold := true, order := 0 })

/-- THERMAL_HOLD_RELEASE (R562): all 16 sensors read below 125 °C. -/
def execThermalHoldRelease (s : State) : Host.Outcome State Fault Refusal :=
  .next (s.setLodge { s.lodge with thermalHold := false })

/-! Wakes (R34, R125) -/

/-- WAKE_N_LOW: a filtered low on WAKE_N. -/
def execWakeNLow (s : State) : Host.Outcome State Fault Refusal := .next s.wake

/-- WAKE (R123, R125, R133): a CAN FD wake frame carries the wake code of OD 0x1101.05, which is not all zeros.
[DEDUCED: log entry 56] -/
def execWake (busaddr node : Nat) (code : List Byte) (s : State) : Host.Outcome State Fault Refusal :=
  let want := odBytes s.od 0x1101 5
  let mine : Bool := busaddr == s.nat 0x1101 2 || busaddr == 0xFF
  if s.mode = .dormant ∧ s.flag 0x1101 1 ∧ mine ∧ node = 0 ∧ code = want ∧ !want.all (· == 0) then .next s.wake else .next s

/-! The stored image (R96, R97) -/

/-- The newest valid stored image with its slot, 1 A or 2 B (R97): its digest and its tag, sealed to the number of
provisionings, pass. -/
def State.newestStored (s : State) : Option (Nat × StoredImage) :=
  let ok := fun (x : Option StoredImage) => x.bind (fun i => if i.good && i.sealedP == s.sec.provisionings then some i else none)
  match ok s.ctl.slotA, ok s.ctl.slotB with
  | some a, some b => if a.gen < b.gen then some (2, b) else some (1, a)
  | some a, none => some (1, a)
  | none, some b => some (2, b)
  | none, none => none

/-- Whether an object is stored (R95). -/
def storedObject (i j : Nat) : Bool := (odRow i j).any (fun r => r.pers == 1)

/-- Every stored object at its stored value or its default (R97): a value out of the object's present range is replaced
and logged; where no image is valid an entry records it, its slot states a free value. -/
def State.loadStored (s : State) : State :=
  let bare : State := { s with od := s.od.filter (fun kv => !storedObject (kv.1 / 256) (kv.1 % 256)) }
  match s.newestStored with
  | none =>
    let d := bare.draw
    let e := d.2.draw
    ((e.2.put 0x1104 1 0).put 0x1104 3 0).log 0x18 0xFFFF 0xFF [d.1, e.1]
  | some (slot, img) =>
    let t := img.vals.foldl (fun (u : State) kv =>
      let i := kv.1 / 256
      let j := kv.1 % 256
      if inRange i j kv.2 then u.putVal i j kv.2 else u.log 0x19 0xFFFF 0xFF [i * 256 + j]) bare
    (t.put 0x1104 1 img.gen).put 0x1104 3 slot

/-! Resets (R565–R569) -/

/-- The role that CLUSTER_ROLE straps (R443). -/
def strapRole (x : Straps) : Nat := if x.role % 4 = 3 then 0 else x.role % 4

/-- The straps sampled (R443, R470): the role, the node and PAIR_HOME; the fourth code is logged and taken as solo. -/
def State.sampleStraps (s : State) (x : Straps) : State :=
  let node := if strapRole x = 2 then x.node % 16 else 0
  let s1 : State := { s with cluster := { role := strapRole x, strap := x.node % 16 }, pair := { home := x.pairHome } }
  let s2 := s1.put 0x1300 1 node
  if x.role % 4 = 3 then s2.log 0x2B 0xFFFF 0xFF [x.node % 16 * 4 + 3] else s2

/-- The objects a reset leaves (R569): the Lodge's counters, and after a warm or watchdog reset also ADJ, the root's
status, the Turnstile's expected values, the equalisation in force and the node. -/
def survives (keep : Bool) (i j : Nat) : Bool :=
  (odRow i j).any (fun r => r.pers == 3) ||
    (keep && ((i == 0x1500 && j == 4) || (decide (0x1C10 ≤ i) && decide (i < 0x1C1A) && j == 2) || (i == 0x1960 && j == 3) ||
      (i == 0x1601 && (j == 2 || j == 3 || j == 5)) || (decide (0x1610 ≤ i) && decide (i < 0x1616) && j == 3) ||
      (i == 0x1300 && j == 1)))

/-- The fuses read (R573, R594): the life-cycle state, the settings in force, and the entries for groups partly blown and
generations skipped. [DEDUCED: log entry 30] -/
def State.readFuses (s : State) : State :=
  let f := s.sec.inForce
  let s1 : State := { s with sec := { s.sec with lcs := s.sec.derive } }
  let s2 := ((s1.put 0x1F00 4 f.1).putVal 0x1F00 5 (.oct (leBytes 32 f.2))).put 0x1F00 8 (maskOf s.sec.skipped : Nat)
  let s3 := s.sec.skipped.foldl (fun (t : State) g => t.log 0x1C (g + 1) 0xFF []) s2
  s.sec.partly.foldl (fun (t : State) g => t.log 0x1D g.1 0xFF [g.2]) s3

/-- The trials as STARTING begins (R601): an armed one boots its bank once, one that ran unconfirmed is over. -/
def Security.bootTrials (y : Security) (time : Nat) : Security :=
  let x := y.readBoot
  let z : Security := { x with armed := [], running := x.armed.map (fun kv => (kv.1, time + kv.2 * 10000000)), recovery := false,
                               attNonce := none }
  if x.armed = [] then z else z.writeBoot

/-- The lanes' full training and the DRAM training begin (R412, R516). -/
def State.beginTraining (s : State) : State :=
  (List.range 16).foldl (fun (t : State) k => t.setDch k { state := 1 }) s.trainLanes

/-- STARTING begins (R565, R569): what the kind of reset keeps is kept, every other part of the machine is as after reset,
stored settings are reloaded and training begins. In RETURN the stored-image slots are erased (R575). `keep` marks the warm
and watchdog resets; `straps` are sampled by every other kind. -/
def State.beginStarting (s : State) (kind trigger : Nat) (keep : Bool) (straps : Option Straps) : State :=
  let s0 := s.toMode .starting trigger
  let l := s0.lodge
  let retired := s0.mews.pavs.filter (fun kv => kv.2.state == 5)
  let clk0 : Clock := { qualFrom := some 0 }
  let tb0 : Timebase := if keep then { count := s.tb.count, c0 := s.tb.c0, t0 := s.tb.t0 } else {}
  let lanes : Tab Lane := if keep then s.lane.map (fun kv => (kv.1, { eq := kv.2.eq })) else []
  let erased : Bool := s0.sec.derive == 3
  let ctl0 : Control := if erased then {} else { slotA := s0.ctl.slotA, slotB := s0.ctl.slotB }
  let lodge0 : Lodge := { l with order := 0, held := false, resetKind := kind, trigger := trigger, began := l.time, kept := keep }
  let s1 : State := { State.reset with
    pending := s0.pending, free := s0.free, mode := .starting, bb := s0.bb, board := s0.board, dramCfg := s0.dramCfg,
    sec := s0.sec.bootTrials l.time, ctl := ctl0, lodge := lodge0, tb := tb0, lane := lanes,
    clk := if keep then s0.clk else clk0, cluster := { role := s0.cluster.role, strap := s0.cluster.strap },
    jtag := s0.jtag, pair := { home := s0.pair.home }, mews := { pavs := retired.map (fun kv => (kv.1, { state := 5 })) },
    od := s0.od.filter (fun kv => survives keep (kv.1 / 256) (kv.1 % 256)) }
  let s2 := s1.put 0x1001 7 trigger
  let s3 := match straps with
    | some x => s2.sampleStraps x
    | none => s2
  let d := s3.readFuses.drawBytes 32
  let s4 : State := { d.2 with sec := { d.2.sec with ownerNonce := d.1 } }
  let s5 := if s4.sec.lcs = 3 ∨ s4.sec.lcs = 4 then
      let e := s4.drawBytes 32
      { e.2 with sec := { e.2.sec with challenge := e.1 } }
    else s4
  s5.loadStored.beginTraining

/-- STARTING by a reset of the first rank (R40): a thermal trip of the same tick is dropped, its hold with it. -/
def State.firstReset (s : State) (kind trigger : Nat) (straps : Option Straps) : State :=
  let tripped := s.acted == (s.lodge.time, 2)
  let s1 := s.beginStarting kind trigger false straps
  (s1.setLodge { s1.lodge with thermalHold := s1.lodge.thermalHold && !tripped }).act 1

/-- VIN_POWER_ON (R34, R565): a wake that is not held powers the VIN domain from DORMANT. The first one after VLODGE
power-on is the power-on of R42, any later one a wake. [DEDUCED: log entry 26] -/
def execVinPowerOn (straps : Straps) (s : State) : Host.Outcome State Fault Refusal :=
  if s.mode = .dormant ∧ s.lodge.powered ∧ s.lodge.order = 1 ∧ !s.lodge.holding then
    let first := s.lodge.resetKind = 0x10
    .next (((s.lodgeCount 0x0B).beginStarting 0 (if first then 0 else 6) false (some straps)).act 1)
  else .next s

/-- PIN_RESET (R565): RESET_N has been low for 1 µs; the device is held in reset. [DEDUCED: log entry 26] -/
def execPinReset (s : State) : Host.Outcome State Fault Refusal :=
  if s.lodge.powered = false ∨ s.lodge.held then .next s
  else
    let s1 := (s.lodgeCount 6).firstReset 1 1 none
    .next (s1.setLodge { s1.lodge with held := true })

/-- RESET_N_RISING_EDGE (R443, R470, R565): the straps are sampled and STARTING begins. -/
def execResetNRisingEdge (straps : Straps) (s : State) : Host.Outcome State Fault Refusal :=
  if s.lodge.held then
    .next ((s.sampleStraps straps).setLodge { (s.sampleStraps straps).lodge with held := false, began := s.lodge.time })
  else .next s

/-- LODGE_RESET (R551, R565): a Lodge reset rule has fired. [DEDUCED: log entry 26] -/
def execLodgeReset (straps : Straps) (s : State) : Host.Outcome State Fault Refusal :=
  if s.lodge.powered ∧ s.lodge.order = 2 ∧ !s.lodge.held then .next ((s.lodgeCount 7).firstReset 4 4 (some straps))
  else .next s

/-- WATCHDOG_EXPIRY (R40, R565, R566): the Gatehouse has not serviced its watchdog; `pc` is its program address. A trigger of
the same tick that ranks higher drops it. -/
def execWatchdogExpiry (pc : Nat) (s : State) : Host.Outcome State Fault Refusal :=
  if s.mode = .dormant ∨ s.lodge.held = true ∨ s.outranked 3 = true then .next s
  else .next ((((s.log 0x12 0xFFFF 0xFF [pc]).lodgeCount 8).beginStarting 3 3 true none).act 3)

/-- A warm reset (R40, R565), which a trigger of the same tick that ranks higher drops. -/
def State.warm (s : State) : State :=
  if s.outranked 3 then s else ((s.lodgeCount 9).beginStarting 2 2 true none).act 3

/-- A write of OD 0x1703.01 (R565, R572). -/
def warmReset (value : Nat) (s : State) : Code × State :=
  if value = 0 then (.ok, s) else (.ok, s.warm)

/-- What VLODGE keeps of the machine once it is gone (R565, R569): OTP, the images in flash and the black box's slots. -/
def State.lodgeLost (s : State) : State :=
  let x := s.sec
  let sec0 : Security := { x with running := [], recovery := false, ownerNonce := [], challenge := [], attNonce := none }
  { State.reset with pending := s.pending, free := s.free, board := s.board, sec := sec0,
                     ctl := { slotA := s.ctl.slotA, slotB := s.ctl.slotB },
                     bb := { slots := s.bb.slots, seq := s.bb.seq, unpinned := s.bb.unpinned } }

/-- VLODGE_POWER_ON (R555, R565): everything, the Lodge and its retention memory included, is reset; DORMANT with the ROM
table. [DEDUCED: log entry 26] -/
def execVlodgePowerOn (straps : Straps) (s : State) : Host.Outcome State Fault Refusal :=
  .next ((s.lodgeLost.sampleStraps straps).act 1)

/-- VLODGE_LOSS (R554): below 2.20 V the Lodge is held in reset and the VIN domain is unpowered. -/
def execVlodgeLoss (s : State) : Host.Outcome State Fault Refusal :=
  .next ((s.lodgeLost.setLodge { s.lodgeLost.lodge with powered := false }).act 1)

/-! Media-domain reset (R565, R567) -/

/-- An object of the media list (R567). OD 0x2002 goes on giving the lengths of the timetable lists, which keep their
entries. -/
def mediaList (i j : Nat) : Bool :=
  let off := (i - 0x4000) % 0x80
  (i == 0x2000 || i == 0x2001 || i == 0x2004) ||
    (decide (0x4000 ≤ i) && decide (i < 0x8000) &&
      ([0x08, 0x0C, 0x68, 0x69, 0x78, 0x79].contains off || (off == 0x48 && decide (3 ≤ j) && decide (j ≤ 9))))

/-- A Pavilion or entropy unit after a media-domain reset: retired, excluded and spare states stay (R567). -/
def Engine.mediaReset (e : Engine) : Engine :=
  { state := if e.state = 4 ∨ e.state = 5 then e.state else 0, standsFor := e.standsFor, began := e.began, stuck := e.stuck }

/-- A channel context after it: its Tollhouse context and its picture stores are gone; its epochs and its output policy go
on (R567). -/
def Chan.mediaReset (c : Chan) : Chan :=
  { origin := c.origin, rateNum := c.rateNum, rateDen := c.rateDen, epoch := c.epoch, stamp := c.stamp, stamps := c.stamps,
    pend := c.pend, was := c.was, policy := c.policy, depE := c.depE, depRow := c.depRow, slateAu := c.slateAu,
    stripes := c.stripes, retE := c.retE, retLine := c.retLine }

/-- A write of OD 0x1703.02 (R565, R567, R568, R572, R609). [DEDUCED: log entry 27] -/
def mediaDomainReset (value : Nat) (s : State) : Code × State :=
  if value = 0 then (.ok, s)
  else if s.mode ≠ .service ∧ s.mode ≠ .test ∧ s.mode ≠ .safe then (.busy, s)
  else
    let mews0 : Mews := { pavs := s.mews.pavs.map (fun kv => (kv.1, kv.2.mediaReset)),
                          eus := s.mews.eus.map (fun kv => (kv.1, kv.2.mediaReset)) }
    let s1 : State := { s with od := s.od.filter (fun kv => !mediaList (kv.1 / 256) (kv.1 % 256)), mews := mews0, dec := [],
                               chan := s.chan.map (fun kv => (kv.1, kv.2.mediaReset)),
                               perf := { s.perf with ctrs := s.perf.ctrs.filter (fun kv => decide (kv.1 < 128)) } }
    let s2 := (List.range 8).foldl (fun (t : State) u => if (t.csu u).state = 2 then t.sourceEnded u else t) s1
    let s3 := ((s2.lodgeCount 0x0A).put 0x1703 4 0x11).put 0x1703 5 (s.lodge.time / 10 : Nat)
    (.ok, s3.ev 0x12 6 0x11 0)

end Sys2Proof.Machine
end

