-- ==== Sys2Proof/Machine/Commands.lean ====
section
/-! DEFINITION. Commands.lean: the objects whose write is a command, and what each does (R38, R321–R327, R486, R565–R567,
R574, R586, R592, R595, R597, R601, R607, R621–R625, R635, R640). -/

namespace Sys2Proof.Machine

/-- A life-cycle request: R574's test and fuses, then the warm reset (R574, R575). -/
def lifecycleRequest (w : Who) (v : Nat) (s : State) : Code × State :=
  let r := lifecycleStep w v s
  if r.1 = .ok then (.ok, r.2.warm) else r

/-- What a write of such an object does, with its verdict. `bad` is what settings generations read back as, in turn, where a
write of OD 0x1F04.01 finds them spoilt (R595). [DEDUCED: log entries 52, 53] -/
def State.obey (s : State) (w : Who) (i j : Nat) (v : Val) (bad : List Nat) : Code × State :=
  let n := (valInt v).toNat
  let b := valBytes v
  let u := i - baseIdx i
  match baseIdx i, j with
  | 0x1002, 4 => ackCauses n s
  | 0x1400, 6 => yieldNow n s
  | 0x1500, 4 => adjWrite (valInt v) s
  | 0x1500, 5 => timeSet n s
  | 0x1500, 13 => if n = 0 then (.ok, s) else applyPendingStep s
  | 0x1500, 14 => ppsSeconds n s
  | 0x1703, 1 => warmReset n s
  | 0x1703, 2 => mediaDomainReset n s
  | 0x1C10, 1 => csBind u b s
  | 0x1C10, 3 => csCancel u n s
  | 0x1D00, 1 => snapshotNow n s
  | 0x1D00, 6 => tagEnable n s
  | 0x1D01, k => ctlWrite (k - 1) n s
  | 0x1D02, k => presetWrite (k - 1) n s
  | 0x1D40, k => if k ≤ 16 then ctlWrite (128 + 16 * u + (k - 1)) n s else presetWrite (128 + 16 * u + (k - 17)) n s
  | 0x1E00, 6 => hostNote b s
  | 0x1E10, 4 => testStart n s
  | 0x1E10, 5 => testCancel n s
  | 0x1F00, 6 => lifecycleRequest w n s
  | 0x1F00, 7 => rollbackAdvance w n s
  | 0x1F02, 1 => attestNonce b s
  | 0x1F04, 1 => settingsWrite w b bad s
  | 0x1F13, 1 => programOwner w (b.headD 0).toNat (b.drop 1) s
  | 0x1F13, 2 => revokeOwner w n s
  | 0x1F32, 1 => armTrial n s
  | 0x1F32, 2 => confirmTrial n s
  | _, _ => (.ok, s)

/-- The commands among the writes of a set, carried out in the order of their keys; one that cannot be carried out is not. -/
def State.obeyAll (s : State) (w : Tab Val) : State :=
  (w.filter (fun kv => commandObject (kv.1 / 256) (kv.1 % 256))).foldl (fun (t : State) kv =>
    let r := t.obey ⟨3, 0xFF, 0, none⟩ (kv.1 / 256) (kv.1 % 256) kv.2 []
    if r.1 = .ok then r.2 else t) s

/-! Single-object commits at their tick (R45) -/

/-- A single-object commit applies at its tick (R45, R78): its command is carried out, or its value comes into force. -/
def State.runSoon1 (s : State) (w : Soon) : State :=
  let i := w.key / 256
  let j := w.key % 256
  let count := fun (t : State) => if w.counted && t.mode != .starting then t.countCommit (t.tick * 100) 0xFF else t
  if commandObject i j then
    let r := s.obey w.who i j w.val w.bad
    if r.1 = .ok then count r.2 else r.2
  else count (s.applyNow [(w.key, w.val)])

/-- What waits for the tick applies, in the order of its validation (R45); a reset on the way takes the rest with it. -/
def State.runSoon (s : State) : State :=
  s.soon.foldl (fun (t : State) w => if t.soon.isEmpty then t else ({ t with soon := t.soon.tail } : State).runSoon1 w) s

/-- A single-object commit that has passed its validation waits for the next tick (R45). -/
def State.later (s : State) (key : Nat) (v : Val) (w : Who) (bad : List Nat) (counted : Bool) : State :=
  { s with soon := s.soon ++ [{ key := key, val := v, who := w, bad := bad, counted := counted }] }

end Sys2Proof.Machine
end

