-- ==== Sys2Proof/Machine/Commit.lean ====
section
/-! DEFINITION. Commit.lean: commit targets, arming, the points of a commit, deferral, the two-phase commits of clusters and
pairs, and firing (R34–R36, R52–R77). -/

namespace Sys2Proof.Machine

/-! Targets (R52–R55) -/

/-- The nodes that host a channel under a dictionary (R451). -/
def hostNodes (od : Tab Val) (n : Nat) : List Nat :=
  let h := odNat od 0x1318 (n + 1)
  if h ≤ 15 then [h] else groupMembers od h

/-- A PTP time rounded up to the 100 ns tick (R53). -/
def tickUp (t : Nat) : Nat := ceilDiv t 100 * 100

/-- Channel n is hosted on a worker of this manager's cluster only (R451). -/
def State.far (s : State) (n : Nat) : Bool := s.cluster.role == 1 && decide (n < 128) && !s.hosts s.od n

/-- A channel hosted on a worker runs: it is enabled, and its host is a member in a media mode (R23, R451, R667).
[DEDUCED: log entry 37] -/
def State.farRuns (s : State) (n : Nat) : Bool :=
  s.flag (chI n 1) 5 && (hostNodes s.od n).all (fun k => s.members.contains k && (Mode.ofCode (s.nd k).mode).media)

/-- A target whose reference channel runs on a worker (R52, R53): no message carries the channel's cadence origin or count to
the manager, so where its boundaries lie and what they count are free values. [DEDUCED: log entry 37] -/
def State.farAim (s : State) (t : Target) (lead : Nat) : Code × Nat × Nat :=
  let p := (s.cfg t.refch).period.floor.toNat
  let phase := Config.freeNat s.free
  let count := Config.freeNat (s.free + 1)
  if t.kind = 0 then (.ok, s.now + lead + phase % max 1 p, count)
  else if t.kind = 1 ∧ t.value = 0 then (.late, 0, 0)
  else
    let due := if t.kind = 1 then t.value + phase % max 1 p else phase
    (if due < s.now + lead then .late else .ok, due, if t.kind = 1 then count else t.value)

/-- A target (R52, R53, R55) at least `lead` ns after acceptance (R54): its verdict, T in PTP ns, and the epoch count of the
reference channel at T. [DEDUCED: log entry 37] -/
def State.aim (s : State) (t : Target) (lead : Nat) : Code × Nat × Nat :=
  let c := s.ch t.refch
  if 2 < t.kind ∨ (128 ≤ t.refch ∧ t.refch ≠ 0xFF) ∨ (t.kind = 2 ∧ t.refch = 0xFF) then (.range, 0, 0)
  else if s.far t.refch then (if s.farRuns t.refch then s.farAim t lead else (.range, 0, 0))
  else if t.refch ≠ 0xFF ∧ !c.running then (.range, 0, 0)
  else if t.kind = 1 ∧ t.value = 0 then (.late, 0, 0)
  else
    let from_ := if t.kind = 0 then s.now + lead else t.value
    let e := if t.refch = 0xFF then 0 else if t.kind = 2 then t.value
      else c.boundaryAt from_ (if t.kind = 0 then c.epoch + 1 else 0)
    let due := if t.refch = 0xFF then tickUp from_ else c.expected e
    (if t.kind ≠ 0 ∧ due < s.now + lead then .late else .ok, due, e)

/-- The audio groups that a set enables and that are not enabled, or have not been armed, yet (R389). -/
def State.newGroups (s : State) (x : StageSet) : List Nat :=
  x.groups.filter (fun g => !s.flag (0x1B20 + g) 1 || s.nat (0x1B20 + g) 3 == 0)

/-- The effective lead of a commit, ns (R54). -/
def State.effLead (s : State) (x : StageSet) : Nat :=
  let od := odApply s.od x.writes
  let mode := match x.modeWrite with
    | some m => if m.media then modeLead s.mode else 0
    | none => 0
  let audio := if (s.newGroups x).any (fun g => odNat od (0x1B20 + g) 2 == 0) then 3000000 else 0
  max (s.nat 0x1200 1 * 1000) (max mode audio)

/-- Whether set k may move the device to a mode (R34): the start commit also takes it from SERVICE through STANDBY (R447). -/
def State.mayMove (s : State) (k : Nat) (m : Mode) : Bool :=
  s.mayRequest m || (k == startSet && s.mode == .service && m.media)

/-- The verdict on set k's mode request (R28, R33, R34, R38) for a session of class `cls`. [DEDUCED: log entry 21] -/
def State.modeBad (s : State) (k : Nat) (x : StageSet) (cls : Nat) : Bad :=
  match x.modeWrite with
  | none => none
  | some m =>
    let refuse := fun (c : Code) => (some (c, okey 0x1001 2) : Bad)
    if s.transition ≠ 0 then refuse .busy
    else if !s.mayMove k m then refuse .range
    else if s.mode = .safe ∧ m = .service ∧ s.nat 0x1002 3 ≠ 0 then refuse .busy
    else if (m = .dormant ∨ s.mode = .safe ∧ m = .service) ∧ cls < 2 then refuse .denied
    else none

/-! What a commit books (R56, R65, R284, R286, R389, R667) -/

/-- The channels that run under a dictionary in a mode (R451, R667). -/
def State.runsUnder (s : State) (od : Tab Val) (m : Mode) : List Nat :=
  if m.media then (listedChans od).filter (fun n => odFlag od (chI n 1) 5 && s.hosts od n) else []

/-- The timetable entries of set k. [DEDUCED: log entry 59] -/
def State.entries (s : State) (k : Nat) : List TtEntry :=
  let x := s.set k
  let ent := fun (kind due target : Nat) => (⟨due / 100, kind, target, x.order, x.owner⟩ : TtEntry)
  let v := s.viewOf k x.due x.writes
  let before := s.runsUnder v.base (s.modeBy k x.due)
  let after := s.runsUnder v.od v.mode
  let decides := if x.coordinator.isSome then [ent 7 (x.due - 20000) k]
    else if x.members.isEmpty then [] else [ent 6 (x.due - 40000) k]
  [ent 5 (x.due - 100000) k, ent 1 x.due k] ++ decides ++
    (after.filter (fun n => !before.contains n)).map (ent 2 x.due) ++
    (before.filter (fun n => !after.contains n)).map (ent 3 x.due) ++
    (s.newGroups x).map (fun g => ent 8 (groupStart v.od g x.due) g)

/-- Frame-bound entries inserted one by one; none where one finds no room (R286). [DEDUCED: log entries 39, 59] -/
def State.book (s : State) : List TtEntry → Option State
  | [] => some s
  | e :: r => if s.ttRoom e.kind e.due then (s.ttInsert e).book r else none

/-- The audio groups that a set enables are armed with its settings (R389). [DEDUCED: log entry 59] -/
def State.armGroups (s : State) (k : Nat) : State :=
  let x := s.set k
  let od := odApply s.od x.writes
  (s.newGroups x).foldl (fun (t : State) g => t.armGroup od g (groupStart od g x.due)) s

/-! Arming (R54, R56, R57) -/

/-- A set refused at arming (R57, R79, R81, R82, R84). [DEDUCED: log entry 41] -/
def State.refuseSet (s : State) (k : Nat) (c : Code) (reason off : Nat) : State :=
  let x := s.set k
  let s1 := s.setSet k { x with state := 7, reason := reason, result := c, offending := s.node * 268435456 + off,
                                members := [], finished := s.now }
  let od := odSetFlag s1.od 0x1200 8 4
  { s1 with od := if c = .late then odSetFlag od 0x1200 8 6 else od }

/-- The least object that a set writes and another armed set writes too (R56). -/
def State.overlap (s : State) (k : Nat) : Option Nat :=
  (tkeys (s.set k).writes).find? (fun key =>
    s.armedSets.any (fun j => j != k && (tget (s.set j).writes key).isSome))

/-- The first command object among writes that cannot be carried out now, with its code. [DESIGN CHOICE: log entry 108] -/
def State.cantObey (s : State) (w : Tab Val) : Bad :=
  w.findSome? (fun kv =>
    if commandObject (kv.1 / 256) (kv.1 % 256) then
      let c := (s.obey ⟨3, 0xFF, 0, none⟩ (kv.1 / 256) (kv.1 % 256) kv.2 []).1
      if c = .ok then none else some (c, kv.1)
    else none)

/-- Set k is validated, booked and armed for the target `a` with its reference channel, or refused (R54–R57).
[DESIGN CHOICE: log entry 108] -/
def State.armSet (s : State) (k : Nat) (a : Code × Nat × Nat) (refch cls : Nat) : Code × State :=
  let x := s.set k
  let v := s.viewOf k a.2.1 x.writes
  let f := s.figures v
  if x.writes.isEmpty then (.zero, s.refuseSet k .zero 1 0)
  else match s.overlap k with
    | some key => (.busy, s.refuseSet k .busy 9 key)
    | none =>
      if a.1 ≠ .ok then (a.1, s.refuseSet k a.1 1 0)
      else match (s.validate v f (s.modeBad k x cls)).or (s.cantObey x.writes) with
        | some b => (b.1, (s.writeFigures f).refuseSet k b.1 1 b.2)
        | none =>
          let s1 : State := { s.writeFigures f with armings := s.armings + 1 }
          let s2 := s1.setSet k { x with state := 2, due := a.2.1, epoch := a.2.2, refch := refch, order := s1.armings,
                                         lead := s.nat 0x1200 1 * 1000, limit := s.nat 0x1200 2 }
          match s2.book (s2.entries k) with
          | some s3 => (.ok, s3.armGroups k)
          | none => (.busy, (s.writeFigures f).ttBusy.refuseSet k .busy 1 0)

/-! Clusters and pairs (R70–R77, R450, R489, R494) -/

/-- The channel that a channel-level object belongs to (R14, R379). -/
def keyChan (od writes : Tab Val) (k : Nat) : Option Nat :=
  let i := k / 256
  if 0x4000 ≤ i ∧ i < 0x8000 then some ((i - 0x4000) / 0x80)
  else if i = 0x1318 then some (k % 256 - 1)
  else if 0x3000 ≤ i ∧ i < 0x4000 then
    let f := (i - 0x3000) / 4
    some (match tget writes (okey (flI f 0) 2) with
      | some v => (valInt v).toNat
      | none => odNat od (flI f 0) 2)
  else none

/-- The workers that writes touch (R70): every member for a cluster-wide object, and the hosts, before and after, of each
channel named. -/
def State.workersOf (s : State) (w : Tab Val) : List Nat :=
  if s.cluster.role ≠ 1 then []
  else
    let after := odApply s.od w
    let hosts := (tkeys w).flatMap (fun k => match keyChan s.od w k with
      | some n => hostNodes s.od n ++ hostNodes after n
      | none => [])
    s.members.filter (fun m => m != s.node && ((tkeys w).any clusterWideKey || hosts.contains m))

/-- Writes that run as a commit of both units of the pair (R75). [DEDUCED: log entry 46] -/
def State.forPeer (s : State) (w : Tab Val) : Bool := pairShared s.od && (tkeys w).any pairSharedKey

/-- The number by which a coordinator knows set k of this device: the peer's sets are held as 9–16. -/
def StageSet.coordNumber (x : StageSet) (k : Nat) : Nat := if x.coordinator = some 0x10 then k - 8 else k

/-- PREPARE to a member (R70, R75, R77): the set, with the epoch of the reference channel for the peer and T for a
worker. [DEDUCED: log entry 46] -/
def State.sayPrepare (s : State) (k m : Nat) : State :=
  let x := s.set k
  if m = 0x10 ∧ x.refch ≠ 0xFF then s.say m 0x10 [k, 2, x.refch, x.epoch] else s.say m 0x10 [k, 1, 0xFF, x.due]

/-- A commit of this device's own (R57, R70, R75, R76): armed here, and prepared on every member. -/
def State.commitSet (s : State) (k : Nat) (t : Target) (cls : Nat) : Code × State :=
  let x := s.set k
  let peer := s.forPeer x.writes
  if peer && !s.pair.link then (.aborted, s.refuseSet k .aborted 7 0)
  else
    let ms := s.workersOf x.writes ++ (if peer then [0x10] else [])
    let s1 := s.setSet k { x with members := ms.map (fun m => (m, MemberArm.asked)) }
    let r := s1.armSet k (s1.aim t (s1.effLead x)) t.refch cls
    let r2 : State := if s1.far t.refch then { r.2 with free := r.2.free + 2 } else r.2
    if r.1 = .ok then (.ok, ms.foldl (fun (u : State) m => u.sayPrepare k m) r2) else (r.1, r2)

/-- Every member of a set has answered ARMED (R70). -/
def StageSet.allArmed (x : StageSet) : Bool := x.members.all (fun m => m.2 != MemberArm.asked && m.2 != MemberArm.refused)
/-- Every member of a set has reported at its ready point (R71). -/
def StageSet.allReported (x : StageSet) : Bool :=
  x.members.all (fun m => m.2 == MemberArm.ready || m.2 == MemberArm.notReady)
/-- This device and every member of the set are READY (R71). -/
def StageSet.allReady (x : StageSet) : Bool := x.report == 1 && x.members.all (fun m => m.2 == MemberArm.ready)

/-- A member's report to its coordinator (R71), once its own and those of its members are there. -/
def State.reportUp (s : State) (k : Nat) : State :=
  let x := s.set k
  match x.coordinator with
  | some c => if x.report ≠ 0 ∧ x.allReported then s.say c (if x.allReady then 0x13 else 0x14) [x.coordNumber k] else s
  | none => s

/-! Deferral (R61, R62, R64) -/

/-- The target after the one in force: the next boundary of the reference channel; without one, the next boundary of the
lowest running channel that the set touches, or else T plus the arm lead. [DEDUCED: log entry 37] -/
def State.nextTarget (s : State) (x : StageSet) : Nat × Nat :=
  let next := fun (c : Chan) => c.boundaryAt (x.due + 1) (c.epoch + 1)
  if s.far x.refch then (x.due + cadence (s.cfg x.refch).num (s.cfg x.refch).den 1, x.epoch + 1)
  else if x.refch ≠ 0xFF then ((s.ch x.refch).expected (next (s.ch x.refch)), next (s.ch x.refch))
  else match (x.chans s.od).find? (fun n => (s.ch n).running) with
    | some n => (tickUp ((s.ch n).expected (next (s.ch n))), 0)
    | none => (x.due + x.lead, 0)

/-- A set moves to a new target (R61, R64): what it has booked moves with it, on its reservation and whatever room the new
tick has. [DEDUCED: log entry 37] -/
def State.deferTo (s : State) (k due epoch : Nat) : State :=
  let s1 := (s.disarmGroups k).unbookSet k
  let x := s1.set k
  let s2 := s1.setSet k { x with state := 3, deferrals := x.deferrals + 1, due := due, epoch := epoch, report := 0,
                                 decision := 0, members := x.members.map (fun m => (m.1, MemberArm.armed)) }
  (((s2.entries k).foldl State.ttInsert s2).armGroups k).setNotice k 2

/-- A set that is not ready is deferred, or abandoned once it has been deferred as often as its limit allows (R61, R62,
R71). -/
def State.notReady (s : State) (k : Nat) : State :=
  let x := s.set k
  if x.limit ≤ x.deferrals then s.endSet k 3 5
  else
    let n := s.nextTarget x
    (tkeys x.members).foldl (fun (t : State) m => t.say m 0x16 [k, n.1]) (s.deferTo k n.1 n.2)

/-! The points of a commit (R59–R62, R70–R73, R489) -/

/-- The ready point (R59, R61, R71): a solo device decides; a coordinator or member notes its own readiness, and a member
reports it. A command object that could not be carried out makes the set as unready as a fence does.
[DEDUCED: log entry 38; DESIGN CHOICE: log entry 108] -/
def State.readyPoint (s : State) (k : Nat) : State :=
  let x := s.set k
  let ok := s.fencesOk x && x.report != 2 && (s.cantObey x.writes).isNone
  if !x.armed || x.readyPassed then s
  else if x.coordinator.isNone && x.members.isEmpty then (if ok then s.prime k else s.notReady k)
  else if x.report ≠ 0 then s
  else (s.setSet k { x with report := if ok then 1 else 2 }).reportUp k

/-- The decision of a coordinator (R71, R73, R489): a lost peer is no member any more. -/
def State.decide_ (s : State) (k : Nat) : State :=
  let s0 := s.readyPoint k
  let x0 := s0.set k
  let x := if s0.pair.live then x0 else { x0 with members := tdel x0.members 0x10 }
  if !x.armed || x.readyPassed || x.coordinator.isSome || (x0.members.isEmpty) then s0
  else
    let s1 := s0.setSet k x
    if x.allReady then (tkeys x.members).foldl (fun (t : State) m => t.say m 0x15 [k]) (s1.prime k) else s1.notReady k

/-- A worker whose set was not decided, or ended after it was, is isolated (R72, R73). -/
def State.isolate (s : State) : State :=
  let s1 : State := { s with cluster := { s.cluster with joined := false } }
  (s1.setNd s1.node { s1.nd s1.node with state := 4 }).clusterEvent 4 s1.node 0 0

/-- A set that ended here although its commit had been decided (R73): a worker leaves the cluster view; a manager takes the
workers that fire out of it. [DEDUCED: log entry 46] -/
def State.splitView (s : State) (k : Nat) : State :=
  let x := s.set k
  if !x.split then s
  else
    let s1 := s.setSet k { x with split := false }
    if x.coordinator = some 0 then s1.isolate
    else if s1.cluster.role = 1 then s1.dropNodes 4 4 ((tkeys x.members).filter (· != 0x10)) else s1

/-- The cutoff of a member without a decision (R72, R489): it does not fire and reports reason 0x08, and a worker is
isolated. Where its coordinator was the peer and is lost, it fires if it was READY, and ends with reason 0x07 if not. -/
def State.cutoff (s : State) (k : Nat) : State :=
  let x := s.set k
  match x.coordinator with
  | none => s
  | some c =>
    if !x.armed || x.decision != 0 then s
    else if c = 0x10 ∧ !s.pair.live then
      if x.report = 1 then
        (tkeys x.members).foldl (fun (t : State) m => t.say m 0x15 [k]) (s.prime k)
      else s.endSet k 4 7
    else
      let s1 := s.endSet k 4 8
      if s1.cluster.role = 2 then s1.isolate else s1

/-! Firing (R34–R36, R55, R58, R78) -/

/-- The DRAM channels leave self-refresh at once (R34): a transition to a media mode has begun. -/
def State.wakeDram (s : State) : State :=
  (tkeys s.dram).foldl (fun (t : State) k =>
    let c := t.dch k
    if c.state = 4 then t.setDch k { c with state := 2, debt := 0, credit := 0 } else t) s

/-- The lanes that the enabled channels name (R34). -/
def State.lanesNamed (s : State) : List Nat :=
  bits (((listedChans s.od).filter (fun n => s.flag (chI n 1) 5)).foldl (fun m n => Nat.lor m (s.nat (chI n 10) 1)) 0) 48

/-- SERVICE to STANDBY completes once the PLL and every named lane are locked (R34). [DEDUCED: log entry 22] -/
def State.standbyDone (s : State) : State :=
  match s.moving with
  | some (.standby, _, []) =>
    if s.mode = .service ∧ (s.clk.state = 2 ∨ s.clk.state = 3) ∧ s.lanesNamed.all (fun l => (s.laneAt l).rx == 2) then
      s.toMode .standby 8
    else s
  | _ => s

/-- A transition that is complete when the channels listed have reached their boundaries (R36). [DEDUCED: log entry 22] -/
def State.moveWith (s : State) (m : Mode) (t : Nat) (l : List Nat) : State :=
  if l.isEmpty then s.toMode m 8 else { s with moving := some (m, t, l) }

/-- A channel that stopped before the fire instant still has rows to send (R34). [DEDUCED: log entry 22] -/
def Chan.tail (c : Chan) : Bool := !c.running && decide (c.depE < c.epoch)

/-- A mode request fires at T (R34, R36); `starts` and `stops` are the channels that the commit starts and stops.
[DEDUCED: log entry 22] -/
def State.startMove (s : State) (m : Mode) (t : Nat) (starts stops : List Nat) : State :=
  let s0 := (if s.mode = .service ∧ m.media = true then s.toMode .standby 8 else s).put 0x1001 2 m.code
  if m = .dormant then s0.powerDown 8
  else if m = .service then s0.toMode .service 8
  else if s.mode.media && !m.media then
    let waiting := s0.liveChans.filter (fun n => (s0.ch n).starting.isSome)
    let s1 := waiting.foldl State.stopChannel s0
    let late := stops.filter (fun n => (s1.ch n).tail && s.mode != .decode)
    let s2 := if m = .hold then late.foldl (fun (u : State) n => u.setCh n { u.ch n with policy := some (u.ch n).epoch }) s1
      else s1
    s2.moveWith m t (channels.filter (fun n => (s2.ch n).running || late.contains n))
  else if m = .standby then ({ s0 with moving := some (m, t, []) } : State).standbyDone
  else if s.mode.media then
    s0.moveWith m t (channels.filter (fun n => starts.contains n ||
      (s0.ch n).running && !stops.contains n && decide ((s0.ch n).expected (s0.ch n).epoch < t)))
  else s0.wakeDram.moveWith m t starts

/-- The writes of a set that apply at the tick of T (R55): those of no channel, and those of channels that neither run nor
start. [DEDUCED: log entry 39] -/
def StageSet.nowWrites (x : StageSet) (od : Tab Val) (wait : List Nat) : Tab Val :=
  x.writes.filter (fun kv => match chanOfKey od x.writes kv.1 with
    | none => true
    | some n => !wait.contains n)

/-- A channel whose boundary of the target count has come ahead of T, and ahead of the decision, takes the writes laid ready
for it now, or stops there after all (R55, R667): the picture in progress is begun anew with them. -/
def State.overtake (s : State) (due n : Nat) : State :=
  let c := s.ch n
  if !c.running || decide (c.expected c.epoch < due) then s
  else
    let s1 := s.takePending n due
    let s2 := if c.pend.any (fun w => decide (w.1 ≤ due)) then s1.restate n else s1
    match (s2.ch n).stopping with
    | some t => if t ≤ due then s2.stopHere n c.epoch (c.expected c.epoch) else s2
    | none => s2

/-- What the objects that a set writes, and those that count commits, hold (R40, R78). -/
def State.beforeSet (s : State) (x : StageSet) : Tab Val :=
  (okey 0x1200 3 :: okey 0x1200 4 :: tkeys x.writes).foldl (fun (m : Tab Val) key =>
    tset m key (odGet s.od (key / 256) (key % 256))) []

/-- A set that has gone ahead fires at T (R55, R58, R78, R83, R84). A mode request that a higher trigger has left without
a transition of R34 ends the set instead (R40, R41), and so does a command object that can no longer be carried out (R58).
[DEDUCED: log entries 21, 39; DESIGN CHOICE: log entry 108] -/
def State.fireSet (s : State) (k : Nat) : State :=
  let x := s.set k
  let starts := s.bookedChans k 2
  let stops := s.bookedChans k 3
  let wait := s.liveChans ++ starts
  let late := (x.chans s.od).filter (fun n => wait.contains n && !x.primed.contains n)
  let now_ := (x.nowWrites s.od wait).filter (fun kv => !commandObject (kv.1 / 256) (kv.1 % 256))
  let gone := (x.chans s.od).filter (fun n => !wait.contains n)
  let illegal := match x.modeWrite with
    | some m => !s.mayMove k m || s.moving.isSome
    | none => false
  if illegal then s.endSet k 4 6
  else match s.cantObey x.writes with
  | some b => s.endSetWith k 4 1 b.1 (s.node * 268435456 + b.2)
  | none =>
    let old := s.beforeSet x
    let before := (s.unprime k).odPending
    let s1 := gone.foldl (fun (t : State) n => t.setCh n ((t.ch n).unprime (x.due, x.chanWrites s.od n) false)) s
    let s2 := late.foldl (fun (t : State) n =>
      t.setCh n { t.ch n with pend := (t.ch n).pend ++ [(x.due, x.chanWrites s.od n)] }) s1
    let s3 := (s2.setSet k { x with state := 4, reason := 0, result := .ok, finished := s.now }).ttRemove
      (fun e => (e.kind == 1 || e.kind == 5 || e.kind == 6 || e.kind == 7) && e.target == k)
    let s3' := s3.applyNow now_
    let s4 := ((s3'.describeFlows s3'.odPending (if k = startSet then s3'.odPending else x.writes)).countCommit x.due x.refch).setNotice k 1
    let s5 := match x.modeWrite with
      | some m => s4.startMove m x.due starts stops
      | none => s4
    let s6 := (s5.replace before x.writes (match s5.moving with | some m => m.1 | none => s5.mode)).obeyAll x.writes
    let s7 := (wait.filter (fun n => (x.chans s.od).contains n || stops.contains n)).foldl
      (fun (t : State) n => t.overtake x.due n) s6
    let s8 := (s7.reportNew s before s7.odPending).formUp
    { s8 with undo := tset s8.undo k old }

/-- A set at its fire instant (R58, R59, R72): what its ready, decision or cutoff point has not yet settled is settled,
and a set that goes ahead and is still due fires. -/
def State.fire (s : State) (k : Nat) : State :=
  let x := s.set k
  if !x.armed || decide (s.tick < x.due / 100) then s
  else
    let s1 := if x.coordinator.isSome then s.cutoff k else if x.members.isEmpty then s.readyPoint k else s.decide_ k
    let y := s1.set k
    if y.armed && y.readyPassed && decide (y.due / 100 ≤ s1.tick) then s1.fireSet k else s1

/-- The set of which a timetable entry of kind 2 or 3 is part. -/
def State.setOf (s : State) (ref : Nat) : Option Nat :=
  setNumbers.find? (fun k => (s.set k).order == ref && (s.set k).state != 0)

/-- An entry of kind 2 or 3 for a channel is due and its commit has fired (R65, R667). [DEDUCED: log entry 39] -/
def State.chanDue (s : State) (kind n : Nat) (e : TtEntry) : Bool :=
  e.kind == kind && e.target == n && decide (e.due ≤ s.tick) &&
    (match s.setOf e.ref with | some k => !(s.set k).armed | none => true)

/-- A channel start comes due (R667, R672): the channel waits for its first boundary at or after T. Like a channel stop and an
audio group start that a commit books, it sends no completion notice of class 0x02 of its own (R83): the commit's notice of class
0x01 covers it. [DEDUCED: log entry 59; DESIGN CHOICE: log entry 107] -/
def State.chanStart (s : State) (n : Nat) : State :=
  match (s.ttl 0).find? (s.chanDue 2 n) with
  | none => s
  | some e =>
    let t := match s.setOf e.ref with | some k => (s.set k).due | none => e.due * 100
    (s.ttRemove (s.chanDue 2 n)).startChannel n t

/-- A channel stop comes due (R667): the channel stops at its first boundary at or after T; one that still waits for its
first boundary never runs. [DEDUCED: log entry 59] -/
def State.chanStop (s : State) (n : Nat) : State :=
  match (s.ttl 0).find? (s.chanDue 3 n) with
  | none => s
  | some e =>
    let t := match s.setOf e.ref with | some k => (s.set k).due | none => e.due * 100
    let s1 := s.ttRemove (s.chanDue 3 n)
    let c := s1.ch n
    if c.starting.isSome then s1.stopChannel n
    else if c.running ∧ c.stopping.isNone then s1.setCh n { c with stopping := some t } else s1

end Sys2Proof.Machine
end

