-- ==== Sys2Proof/Machine/Objects.lean ====
section
/-! DEFINITION. Objects.lean: who may use an object, what it reads as, what a read clears, and its description (R33, R44,
R87, R92, R94, R99, R108, R576, R624, R636). -/

namespace Sys2Proof.Machine

/-! Who may use an object (R33, R92, R576, R584, R624, R636) -/

/-- What a mode permits a request of a class (R33). -/
def Mode.permits (m : Mode) (cls : Nat) (write : Bool) (i : Nat) : Bool :=
  match m with
  | .dormant => false
  | .starting => cls == 0 && !write && decide (0x1000 ≤ i) && decide (i < 0x1100)
  | .test => decide (2 ≤ cls) || (cls == 0 && !write)
  | .safe => cls != 1
  | .ret => decide (3 ≤ cls)
  | _ => true

/-- The class that a read of an object needs (R99, R624). -/
def State.readClass (s : State) (i j : Nat) (r : OdRow) : Nat :=
  let values := i == 0x1D03 || i == 0x1D04 || i == 0x1D08 || (baseIdx i == 0x1D40 && decide (33 ≤ j))
  if values && decide (0 < j ∨ i = 0x1D08) then s.counterClass else r.rc

/-- What the life-cycle state leaves a Maker session (R576, R584, R636). [DEDUCED: log entry 20] -/
def State.makerMay (s : State) (w : Who) (write : Bool) (i j : Nat) : Bool :=
  let entries := (i == 0x1E01 && j == 3) || i == 0x1E02
  let scrapped := !write && ((decide (0x1000 ≤ i) && decide (i < 0x1100)) || (decide (0x1E00 ≤ i) && decide (i < 0x1F00)) ||
    (decide (0x1F00 ≤ i) && decide (i ≤ 0x1F08)))
  (s.sec.lcs != 4 || scrapped) && (!entries || s.sec.lcs < 3 || bit w.perms 0)

/-- A Druthal failure-analysis index that the requester's token opens (R87, R584). [DESIGN CHOICE: log entry 49] -/
def State.labOpen (s : State) (w : Who) (i : Nat) : Bool :=
  decide (0xC000 ≤ i) && decide (w.cls = 3) && decide (s.sec.lcs = 3) && bit w.perms 3

/-- The verdict on an object's existence and on the requester's class (R33, R87, R95, R576). A write of an RO or CONST object
has no class of its own; it is READONLY, or DENIED where the object is fused. A mode request counts in the class of its
session, since those that TEST and SAFE take need Service class (R34). [DEDUCED: log entry 20] -/
def State.may (s : State) (w : Who) (write : Bool) (i j : Nat) : Code :=
  match odRow i j with
  | none => if odIndexExists i then .nosub else .noobject
  | some r =>
    if write && (r.acc == 0 || r.acc == 3) then (if r.pers = 2 then .denied else .readonly)
    else
      let need := if write then r.wc else s.readClass i j r
      if w.cls < need ∨ !s.mode.permits (if w.cls = 3 then 3 else if write ∧ i = 0x1001 ∧ j = 2 then w.cls else need) write i then .denied
      else if w.cls = 3 ∧ !s.makerMay w write i j then .denied
      else .ok

/-! What an object reads as (R44, R50, R94) -/

/-- Da and Da − Dv of audio output o in ns, rounded up (R400). [DEDUCED: log entry 82] -/
def State.aoDelay (s : State) (o : Nat) : Nat × Nat :=
  let d := s.aoDa o
  (d.1.ceil.toNat, (d.1.sub d.2).ceil.toNat)

/-- A channel status object that follows from the settings in force (R179, R260). -/
def chanFigure (b j : Nat) : Bool :=
  (b == 0x4048 && (j == 1 || j == 2 || j == 6 || j == 7 || j == 8 || j == 10 || j == 11)) ||
    (b == 0x4068 && ((decide (3 ≤ j) && decide (j ≤ 9)) || j == 0x11))

/-- The value of an object that the machine works out when it is read; none where the dictionary holds it. -/
def State.figure (s : State) (i j : Nat) : Option Val :=
  let num := fun (v : Nat) => some (Val.num v)
  let oct := fun (b : List Byte) => some (Val.oct b)
  let n := (i - 0x4000) / 0x80
  let f := (i - 0x3000) / 4
  let b := baseIdx i
  let u := i - b
  if chanFigure b j then
    (if s.flag (chI n 1) 5 then some (odGet (s.refreshStatus n).od i j) else none)
  else match b, j with
  | 0x1001, 1 => num s.mode.code
  | 0x1001, 4 => num s.cluster.role
  | 0x1001, 5 => num (if s.flag 0x1400 1 then (if s.pair.home then 1 else 2) else 0)
  | 0x1001, 6 => num s.transition
  | 0x1100, 1 => num (s.ctl.sessions.filter (fun kv => kv.2.path != 3)).length
  | 0x1201, j + 1 => num (s.set (j + 1)).word
  | 0x1202, j + 1 => num (s.set (j + 1)).result.value
  | 0x1203, j + 1 => num (s.set (j + 1)).offending
  | 0x1300, 5 => oct s.clusterDigest
  | 0x1401, 2 => num s.pairPins
  | 0x1401, 3 => oct s.pairDigest
  | 0x1402, j + 1 => num (s.pairChanState j)
  | 0x1500, 1 => oct (time80 s.now ++ leBytes 4 (stamp32 s.now) ++ zeros 2)
  | 0x1500, 2 => num s.tb.count
  | 0x1511, j + 1 => oct ((tgetD s.cap j {}).fifo.flatMap (captureRecord j))
  | 0x1601, 1 => num s.clk.word
  | 0x1601, 4 => num s.holdoverMs
  | 0x1700, 5 => num (1 + 2 * b2n s.lodge.powered + 4 * b2n s.lodge.alert + 8 * b2n s.lodge.thermalHold)
  | 0x1701, 0x11 => some (.num (s.board * 16))
  | 0x1702, 1 => num s.lodge.table
  | 0x1702, 2 => oct (fixed 32 s.lodge.digest)
  | 0x1702, 4 => num (s.lodge.time / 10)
  | 0x1702, 5 => num (maskOf s.lodge.conds)
  | 0x1810, 1 => num ((s.dch u).word s.dramCfg.2.1 s.now)
  | 0x1908, j + 1 => num (s.laneWord j)
  | 0x1A00, 9 => oct ((leBytes 6 (s.sec.macBase + u)).reverse)
  | 0x1B10, 2 => num (s.frameRate u)
  | 0x1B10, 3 => num (s.ap u).fifo.length
  | 0x1B10, 10 => some (.num (apDelay s.od u).ceil)
  | 0x1B40, 9 => num (s.aoDelay u).1
  | 0x1B40, 10 => num (s.aoDelay u).2
  | 0x1C00, 2 => num s.csBusy
  | 0x1D03, j + 1 => num (s.ctr j).snap
  | 0x1D04, 1 => oct (leBytes 16 (s.wrappedBits 0 128))
  | 0x1D04, 2 => oct (leBytes 16 (s.lateBits 0 128))
  | 0x1D08, 0 => oct s.wholeSnapshot
  | 0x1D40, 49 => num (s.wrappedBits (128 + 16 * u) 16 + 65536 * s.lateBits (128 + 16 * u) 16)
  | 0x1D90, 1 => oct (s.perf.ring.flatMap TagRecord.bytes)
  | 0x1E00, 1 => num s.bb.seq
  | 0x1E00, 2 => num s.bb.wholeRing
  | 0x1E00, 3 => num s.bb.wholePinned
  | 0x1E01, 3 => oct (s.bb.entries (s.nat 0x1E01 1) (s.nat 0x1E01 2))
  | 0x1E02, 0 => oct s.bb.pinned
  | 0x1F00, 1 => num s.sec.lcs
  | 0x1F00, 2 => num s.sec.provisionings
  | 0x1F00, 3 => num s.sec.rollback
  | 0x1F01, 1 => num s.sec.serial
  | 0x1F01, 2 => oct s.sec.cert
  | 0x1F01, 3 => oct (Config.shake256 32 Config.identityKey)
  | 0x1F05, 0 => oct (fixed 32 s.sec.ownerNonce)
  | 0x1F08, 0 => oct (fixed 32 s.sec.challenge)
  | 0x1F10, j + 1 => if j < 4 then oct (fixed 32 (s.sec.owner j).hash) else num (s.sec.ownerState (j - 4))
  | 0x1F32, 4 => num s.sec.bankWord
  | 0x2000, 4 => num s.stallsInUse
  | 0x2001, j + 1 => num (s.occupancy j)
  | 0x2006, 2 => num (stallWord (s.stall (s.nat 0x2006 1)))
  | 0x2020, 0 => oct s.timetableImage
  | 0x2100, j + 1 => num (s.pavWord j)
  | 0x3001, 7 => oct (((s.fl f).sdp.map Config.sdp).getD [])
  | 0x3003, 1 => num (s.flowState f)
  | 0x4003, 1 => if s.flag (chI n 2) 9 then none else oct (builtInKernel (s.nat (chI n 2) 7))
  | 0x4003, 2 => if s.flag (chI n 2) 9 then none else oct (builtInKernel (s.nat (chI n 2) 8))
  | 0x4004, j => if 2 ≤ j ∧ j ≤ 5 ∧ 2 ≤ s.nat (chI n 4) 1 then oct (presetTable 0 (s.nat (chI n 4) 1) (j - 2)) else none
  | 0x4021, j =>
    let p := s.nat i 3
    if 4 ≤ j ∧ j ≤ 6 ∧ 2 ≤ p then oct (presetTable 1 p ([0, 1, 3].getD (j - 4) 0)) else none
  | 0x4069, 0 => oct (s.ch n).toll
  | _, j => if b = 0x1D40 ∧ 33 ≤ j ∧ j ≤ 48 then num (s.ctr (128 + 16 * u + (j - 33))).snap else none

/-- A measured value that no step brings to the machine: it reads as a free value of the object's type (R44).
[DESIGN CHOICE: log entry 49] -/
def unseen (i j : Nat) : Bool :=
  (i == 0x1700 && decide (1 ≤ j) && decide (j ≤ 4)) || (i == 0x1701 && j != 0 && j != 0x11 && j != 0x14) ||
    (i == 0x1601 && j == 3) || (i == 0x1802 && decide (9 ≤ j)) || (baseIdx i == 0x1A00 && decide (12 ≤ j) && decide (j ≤ 14)) ||
    (i == 0x1311 && j != 0)

/-- The value of an object as a read finds it, clearing nothing. [DESIGN CHOICE: log entry 49] -/
def State.peek (s : State) (i j : Nat) (r : OdRow) : Val × State :=
  if (unseen i j || (i == 0x1E10 && j == 7 && s.perf.test.isSome)) && j != 0 then
    let d := s.draw
    let lim := if i = 0x1E10 then 1001 else 256 ^ r.size
    (.num (if 6 ≤ r.ty then leSigned (leBytes r.size d.1) else (d.1 % lim : Nat)), d.2)
  else if baseIdx i = 0x1C10 ∧ j = 4 then
    let c := s.csStatus (i - 0x1C10)
    (.num c.1, c.2)
  else ((s.figure i j).getD (odGet s.od i j), s)

/-- An object whose value is cleared by the read that returns it. -/
def clearsOnRead (i j : Nat) : Bool :=
  match baseIdx i, j with
  | 0x1100, 8 => true | 0x1200, 6 => true | 0x1200, 8 => true | 0x1300, 6 => true | 0x1300, 8 => true
  | 0x1401, 13 => true | 0x1508, 6 => true | 0x1601, 11 => true | 0x1701, 0x13 => true | 0x1702, 6 => true
  | 0x1801, 3 => true | 0x1801, 11 => true | 0x1920, 9 => true | 0x1950, 9 => true | 0x1A00, 15 => true
  | 0x1B10, 11 => true | 0x1B40, 13 => true | 0x1C10, 10 => true | 0x1E00, 7 => true | 0x1F38, 5 => true
  | 0x2000, 5 => true | 0x2000, 6 => true | 0x2000, 13 => true | 0x3003, 8 => true | 0x3003, 9 => true
  | 0x4008, 9 => true | 0x400C, 6 => true | 0x4048, 9 => true | 0x4068, 0x10 => true | 0x4068, 0x12 => true
  | 0x4078, 12 => true | 0x4078, 14 => true | 0x4079, 7 => true | 0x4079, 9 => true
  | b, j => (b == 0x1311 && j != 0) || (b == 0x1802 && decide (5 ≤ j) && decide (j ≤ 8))

/-- What the read that returned an object clears; `taken` bytes of a capture FIFO were returned (R342). -/
def State.cleared (s : State) (i j taken : Nat) : State :=
  let n := (i - 0x4000) / 0x80
  let s1 := if clearsOnRead i j then s.putVal i j (odDefault i j) else s
  match baseIdx i, j with
  | 0x1511, k + 1 =>
    let c := tgetD s1.cap k {}
    { s1 with cap := tset s1.cap k { c with fifo := c.fifo.drop (taken / 8) } }
  | 0x1810, 1 => s1.setDch (i - 0x1810) { s1.dch (i - 0x1810) with peak := 0 }
  | 0x1D04, 2 => s1.clearLate 0 128
  | 0x1D40, 49 => s1.clearLate (128 + 16 * (i - 0x1D40)) 16
  | 0x1D08, 0 => s1.clearLate 0 1152
  | 0x4078, 12 => s1.setDc n { s1.dc n with margin := none }
  | _, _ => s1

/-! Describing an object (R99) -/

/-- The 28-byte descriptor. [DEDUCED: log entry 18] -/
def OdRow.descriptor (r : OdRow) (rclass : Nat) : List Byte :=
  let signed := decide (6 ≤ r.ty) && decide (r.ty ≤ 10)
  let lim := fun (v : Int) => if !r.numeric then zeros 8 else if signed then leInt 8 v else leBytes 8 v.toNat
  leBytes 1 r.ty ++ leBytes 1 r.acc ++ leBytes 1 r.pers ++ leBytes 1 rclass ++ leBytes 1 r.wc ++ leBytes 1 r.zk ++
    zeros 2 ++ leBytes 4 (if r.ty = 12 then 255 else r.size) ++ lim r.mn ++ lim r.mx

/-! Reading (R90, R107, R108) -/

/-- A value zero-padded to a multiple of 4 (R107). -/
def padded (b : List Byte) : List Byte := b ++ zeros (ceilDiv b.length 4 * 4 - b.length)

/-- A read entry (R107). [DEDUCED: log entry 55] -/
def readEntry (c : Code) (at_ : Nat) (b : List Byte) : List Byte :=
  leBytes 2 c.value ++ leBytes 2 b.length ++ time80 at_ ++ zeros 2 ++ padded b

/-- The period at which an object is sampled, ns; 0 for one that is not (R404, R545, R571). -/
def samplePeriod (i j : Nat) : Nat :=
  match baseIdx i, j with
  | 0x1700, j => if 1 ≤ j ∧ j ≤ 4 then 1000000 else 0
  | 0x1701, j => if 1 ≤ j ∧ j ≤ 0x13 then 10000 else 0
  | 0x1601, 3 => 1000000 | 0x1601, 4 => 1000000 | 0x1B10, 2 => 1000000 | 0x1B10, 4 => 1000000 | _, _ => 0

/-- CAPTURE of a read entry (R44, R107): the instant of the read, or for a measured value that of its measurement. Of a value
that is sampled at unstated instants it lies somewhere within the sampling period. [DESIGN CHOICE: log entry 49] -/
def State.capturedAt (s : State) (i j : Nat) : Nat :=
  match tget s.meas (okey i j) with
  | some t => t
  | none => if samplePeriod i j = 0 then s.now else s.now - Config.sampleAge s.free % samplePeriod i j

/-- An object of a channel or flow that runs on another node of the cluster, whose status this device does not know
(R450). [DESIGN CHOICE: log entry 49] -/
def State.elsewhere (s : State) (i j : Nat) (r : OdRow) : Bool :=
  let n := if i = 0x1210 then j - 1 else if i < 0x4000 then s.nat (flI ((i - 0x3000) / 4) 0) 2 else (i - 0x4000) / 0x80
  s.cluster.role == 1 && r.acc == 0 && (i == 0x1210 && j != 0 || decide (0x3000 ≤ i) && decide (i < 0x8000)) &&
    (hostNodes s.od n).head? != some s.node

/-- One object as a read finds it, nothing cleared: its code and value bytes, at most `room` of a capture FIFO's. A DOMAIN
moves only by block transfer (`block`) and does not fit a message otherwise (R90, R342). [DEDUCED: log entry 17] -/
def State.look (s : State) (w : Who) (room i j : Nat) (block : Bool) : Code × List Byte × State :=
  if s.labOpen w i then
    match Config.labObject i j with
    | some b => (.ok, b, s)
    | none => (.noobject, [], s)
  else
    let c := s.may w false i j
    match odRow i j with
    | none => (c, [], s)
    | some r =>
      if c ≠ .ok then (c, [], s)
      else if r.acc = 2 then (.writeonly, [], s)
      else if r.ty = 14 ∧ i ≠ 0x1511 ∧ !block then (.toobig, [], s)
      else if s.elsewhere i j r then
        let d := s.drawBytes r.size
        (.ok, d)
      else
        let v := s.peek i j r
        let b := r.bytes v.1
        (.ok, if i = 0x1511 ∧ j ≠ 0 then b.take (room / 8 * 8) else b, v.2)

/-- One object read (R44, R108), with what its read clears. -/
def State.readObject (s : State) (w : Who) (room i j : Nat) (block : Bool) : Code × List Byte × State :=
  let r := s.look w room i j block
  (r.1, r.2.1, if r.1 = .ok then r.2.2.cleared i j r.2.1.length else r.2.2)

end Sys2Proof.Machine
end

