-- ==== Sys2Proof/Machine/Wire.lean ====
section
/-! DEFINITION. Wire.lean: the bytes of SOP messages and the CAN FD frames that carry them (R100, R103, R106, R116, R122–R124,
R582). -/

namespace Sys2Proof.Machine

/-! Messages (R100) -/

/-- The header fields of a message (R100). -/
structure SopHead where
  /-- R100. FLAGS: bit 0 RESP, bit 1 NOTICE, bit 4 AUTH -/
  flags : Nat
  /-- R100. SERVICE -/
  service : Nat
  /-- R100. byte of NODE -/
  node : Nat
  /-- R100. TXID -/
  txid : Nat
  /-- R100. SESSION -/
  session : Nat
  /-- R100. COUNTER -/
  counter : Nat
deriving DecidableEq, Repr

/-- The 20 header bytes of a message with a body of `len` bytes (R100). -/
def SopHead.bytes (h : SopHead) (len : Nat) : List Byte :=
  leBytes 1 1 ++ leBytes 1 h.flags ++ leBytes 1 h.service ++ leBytes 1 h.node ++ leBytes 2 len ++ leBytes 2 h.txid ++
    leBytes 4 h.session ++ leBytes 8 h.counter

/-- The tag of a message under a key (R100, R582). -/
def sopTag (key msg : List Byte) : List Byte := fixed 16 (Config.kmac 16 key msg (ascii "SD4864 SOP tag"))

/-- A whole message: header and body, with the tag over both where AUTH is set (R100). -/
def SopHead.message (h : SopHead) (key body : List Byte) : List Byte :=
  let m := h.bytes body.length ++ body
  if bit h.flags 4 then m ++ sopTag key m else m

/-- A response as it leaves (R100, R106): STATUS, two reserved bytes and the body of its service. -/
def Resp.message (r : Resp) (key : List Byte) : List Byte :=
  SopHead.message ⟨1 + 16 * b2n r.auth, r.service, r.node % 16, r.txid, r.session, r.counter⟩ key
    (leBytes 2 r.status.value ++ zeros 2 ++ r.body)

/-- A notice body (R116). -/
def Notice.bytes (n : Notice) : List Byte :=
  leBytes 1 n.subid ++ leBytes 1 n.kind ++ leBytes 2 n.lost ++ leBytes 4 n.nseq ++ time80 n.time ++ zeros 2 ++ n.payload

/-- A notice as it leaves (R100, R102, R116). -/
def Notice.message (n : Notice) (node session counter : Nat) (key : List Byte) : List Byte :=
  SopHead.message ⟨18, 0x52, node, 0, session, counter⟩ key n.bytes

/-- The bytes of a message taken apart (R100): VERSION, the other header fields, LENGTH, the body, and the bytes of the tag;
none where they are not one whole message. [DEDUCED: log entry 32] -/
def parseMessage (b : List Byte) : Option (Nat × SopHead × Nat × List Byte × List Byte) :=
  let field := fun (k n : Nat) => leNat ((b.drop k).take n)
  let len := field 4 2
  let tag := if bit (field 1 1) 4 then 16 else 0
  if b.length < 20 ∨ b.length ≠ 20 + len + tag then none
  else some (field 0 1, ⟨field 1 1, field 2 1, field 3 1, field 6 2, field 8 4, field 12 8⟩, len,
    (b.drop 20).take len, b.drop (20 + len))

/-! CAN FD frames (R122–R124) -/

/-- The 29-bit identifier of a frame (R123). -/
def canId (prio dir busaddr node service seq : Nat) : Nat :=
  prio % 8 * 67108864 + dir % 2 * 33554432 + busaddr % 256 * 131072 + node % 16 * 8192 + service % 256 * 32 + seq % 32

/-- The data lengths that a CAN FD frame can have (ISO 11898-1). -/
def canSizes : List Nat := [0, 1, 2, 3, 4, 5, 6, 7, 8, 12, 16, 20, 24, 32, 48, 64]

/-- The smallest data length that holds `n` bytes (R124). -/
def canSize (n : Nat) : Nat := (canSizes.find? (fun k => decide (n ≤ k))).getD 64

/-- The data of the frames of a message (R124): 64 bytes in every one but the last, whose remainder is padded. -/
def canPieces (b : List Byte) : List (List Byte) :=
  (List.range (ceilDiv b.length 64)).map (fun k =>
    let p := (b.drop (64 * k)).take 64
    p ++ zeros (canSize p.length - p.length))

/-- The frames in which the device sends a message, in order and without another between them (R123, R124). -/
def canFrames (prio busaddr node service : Nat) (b : List Byte) : List (Nat × List Byte) :=
  let p := canPieces b
  (List.range p.length).map (fun k => (canId prio 1 busaddr node service k, p.getD k []))

/-- The datagram that answers another (R121). -/
def replyTo (d : Datagram) : Datagram :=
  { d with srcIp := d.dstIp, srcPort := d.dstPort, dstIp := d.srcIp, dstPort := d.srcPort }

end Sys2Proof.Machine
end

