-- ==== Sys2Proof/Machine/Session.lean ====
section
/-! DEFINITION. Session.lean: paths, sessions, the order of requests and responses, kept responses, node addressing and the
handshake (R51, R100–R106, R118–R121, R126–R129, R579–R584). -/

namespace Sys2Proof.Machine

/-! Paths (R103, R121, R126) -/

/-- The largest body that a path carries (R103): UDP, CAN FD, and the mailbox or a relay. [DEDUCED: log entry 55] -/
def pathBody (path : Nat) : Nat :=
  match path with
  | 0 => 1364
  | 1 => 2012
  | _ => 4060

/-- A port on which SOP over UDP runs (R121, R349): the mask names it and its link is up. -/
def State.sopPort (s : State) (k : Nat) : Bool := decide (k < 4) && bit (s.nat 0x1102 2) k && s.linkUp k

/-- A path reaches the Gatehouse (R121, R133, R349). -/
def State.pathOn (s : State) (path : Nat) : Bool :=
  match path with
  | 0 => s.flag 0x1102 1 && [0, 1, 2, 3].any s.sopPort
  | 1 => s.flag 0x1101 1
  | 2 => s.flag 0x1103 1
  | 3 => s.cluster.role == 2 && s.cluster.joined
  | _ => false

/-- A request by UDP is a whole datagram for port 4864 of the device's address, on a port of the mask (R121). -/
def State.hears (s : State) (h : ReqHdr) : Bool :=
  s.pathOn h.path && (h.path != 0 || s.sopPort h.udp.net && h.udp.dstIp == s.nat 0x1102 1 && h.udp.dstPort == 4864 && !h.udp.frag)

/-- A message discarded without a response, counted in OD 0x1100.04–.06 (R102, R129). [DEDUCED: log entry 32] -/
def State.discard (s : State) (j : Nat) : State := s.bump 0x1100 j 0x1100 8

/-- A response message enters the mailbox, or waits for the host to clear RSP_VALID (R127, R128). -/
def State.mailResponse (s : State) (b : List Byte) : State :=
  let m := s.ctl.mbx
  if m.rspValid then { s with ctl := { s.ctl with mbx := { m with waiting := m.waiting ++ [b] } } }
  else
    let m1 := { m with rsp := b, rspLen := b.length, rspValid := true, busy := false }
    let s1 : State := { s with ctl := { s.ctl with mbx := m1 } }
    if m.rspIrqEn then { s1 with msix := setBit s1.msix (s1.nat 0x1103 2) } else s1

/-- A message leaves on a path of its own (R121, R123, R124, R126): as a datagram, or as CAN FD frames. -/
def State.transmit (s : State) (path prio node service : Nat) (b : List Byte) : State :=
  { s with ctl := { s.ctl with
      wire := b, frames := if path = 1 then canFrames prio (s.nat 0x1101 2) node service b else s.ctl.frames } }

/-- A response leaves with the device's own counter and tag (R100, R102), by the path of its request: from the address that
the request was sent to (R121), in frames of the request's priority (R123), or into the mailbox; to a relayed request or a
manager's SNAPSHOT it goes to the manager (R69, R118). -/
def State.send (s : State) (a : Ask) (counter : Nat) (c : Code) (body : List Byte) (auth : Bool) : State :=
  let r : Resp := { service := a.service, node := a.node, txid := a.txid, session := a.session % 4294967296,
                    counter := counter, status := c, body := body, auth := auth, udp := replyTo a.udp, prio := a.prio }
  let b := r.message (((tget s.ctl.sessions a.session).map Session.keyDh).getD [])
  let s1 : State := { s with ctl := { s.ctl with sent := some r } }
  if a.path = 3 then
    s1.say 0 (if a.service = 0x30 then 0x19 else 0x21) ([s1.node, a.session % 4294967296, a.txid, c.value] ++
      body.map BitVec.toNat)
  else
    let s2 := s1.transmit a.path a.prio (a.node % 16) a.service b
    if a.path = 2 then s2.mailResponse b else s2

/-! Sessions (R51, R80, R104–R106) -/

/-- The requester behind a session; no session holds Operate class. -/
def State.who (s : State) (id : Nat) : Who :=
  match tget s.ctl.sessions id with
  | some x => ⟨x.cls, x.cred, x.perms, none⟩
  | none => ⟨0, 0, 0, none⟩

/-- A stage set is free again. -/
def State.freeSet (s : State) (k : Nat) : State := { s with sets := tdel s.sets k }

/-- A session ends (R51, R80, R106): its open sets are discarded, its finished ones freed, an armed one goes on without it,
and what it asked for or subscribed to is dropped; a single-object commit under way goes on. -/
def State.endSession (s : State) (id : Nat) : State :=
  let s1 := setNumbers.foldl (fun (t : State) k =>
    let x := t.set k
    if x.state = 0 ∨ x.owner ≠ id ∨ x.orphan ∨ x.coordinator.isSome then t
    else if x.armed then t.setSet k { x with orphan := true, reply := none }
    else t.freeSet k) s
  let gone := tkeys (s1.ctl.snaps.filter (fun kv => kv.2.ask.session == id))
  let s2 := s1.ttRemove (fun e => e.kind == 4 && gone.contains e.ref)
  { s2 with ctl := { s2.ctl with sessions := tdel s2.ctl.sessions id,
                                 relays := s2.ctl.relays.filter (fun r => r.ask.session != id),
                                 jobs := s2.ctl.jobs.filter (fun j => j.ask.session != id),
                                 snaps := s2.ctl.snaps.filter (fun kv => kv.2.ask.session != id) } }

/-- Answers leave in COUNTER order (R104): those at the head of the session's requests that are there. -/
def State.drain (s : State) (id : Nat) : List Slot → State
  | [] => s.onSession id (fun x => { x with slots := [] })
  | w :: r =>
    match w.resp with
    | none => s.onSession id (fun x => { x with slots := w :: r })
    | some (c, b) =>
      let n := ((tget s.ctl.sessions id).map (fun x => x.tx + 1)).getD 0
      let s1 := (s.onSession id (fun x => { x with tx := n })).send w.ask n c b true
      if w.ask.service = 2 ∧ c = .ok then s1.endSession id else s1.drain id r

/-- The same request, by whichever path it came (R105). [DEDUCED: log entry 32] -/
def Ask.same (a b : Ask) : Bool := decide (a = { b with path := a.path, udp := a.udp, prio := a.prio })

/-- A request is answered (R104–R106): its response is kept, and leaves in its turn. One that came without a session is
answered at once (R101), with COUNTER 0. [DESIGN CHOICE: log entry 107] -/
def State.answer (s : State) (a : Ask) (c : Code) (b : List Byte) : State :=
  if a.session = 0 then s.send a 0 c b false
  else match tget s.ctl.sessions a.session with
  | none => s
  | some x =>
    let slots := x.slots.map (fun w => if w.ask.same a && w.resp.isNone then { w with resp := some (c, b) } else w)
    let kept := x.kept.map (fun k => if k.ask.same a && k.resp.isNone then { k with resp := some (c, b) } else k)
    (s.onSession a.session (fun y => { y with kept := kept })).drain a.session slots

/-! Requests (R100–R106, R118–R120) -/

/-- What a service answers, none where it answers later, and the state it leaves. -/
abbrev Answer := Option (Code × List Byte) × State

/-- A service as a request asks for it: its code, the request to keep, the objects it names, whether it writes them, and
whether it needs no session (R101). -/
structure Service where
  /-- R106. service code -/
  code : Nat
  /-- R105. the request, without its counter -/
  req : Instr
  /-- R107. objects named -/
  objs : List ObjRef := []
  /-- R119. it writes or stages them -/
  writes : Bool := false
  /-- R101. it executes without a session -/
  open_ : Bool := false

/-- A header without what changes from one sending of a request to the next (R105). -/
def bareHdr (h : ReqHdr) : ReqHdr := { h with path := 0, counter := 0, udp := {}, prio := 0 }

/-- A cluster-wide object (R450). [DEDUCED: log entry 48] -/
def clusterWide (o : ObjRef) : Bool :=
  clusterWideKey (okey o.idx o.sub) || (decide (0x3000 ≤ o.idx) && decide (o.idx < 0x8000))

/-- The verdict on NODE (R118–R120). [DEDUCED: log entry 48] -/
def State.nodeCode (s : State) (h : ReqHdr) (v : Service) : Code :=
  if s.cluster.role = 2 then
    if h.node ≠ s.node ∨ (h.path ≠ 3 ∧ !([0x01, 0x02, 0x10, 0x12, 0x30].contains v.code)) then .wrongnode else .ok
  else if h.node = 0 then .ok
  else if s.cluster.role = 0 ∨ 15 < h.node ∨ !s.members.contains h.node then .nonode
  else if v.writes && v.objs.any clusterWide then .wrongnode
  else .ok

/-- The services that a host may ask for (R106). -/
def services : List Nat :=
  [0x01, 0x02, 0x10, 0x11, 0x12, 0x20, 0x21, 0x22, 0x23, 0x24, 0x25, 0x30, 0x40, 0x41, 0x42, 0x50, 0x51, 0x60, 0x61]

/-- A request that a manager relays to the worker it names (R118, R119). [DEDUCED: log entry 48] -/
def State.relays (s : State) (h : ReqHdr) (v : Service) : Bool :=
  s.cluster.role == 1 && h.node != 0 && v.code != 0x02 && services.contains v.code && (v.objs.isEmpty || !v.objs.all clusterWide)

/-- An accepted request is executed, relayed or refused (R103, R118–R120, R131). -/
def State.serve (s : State) (h : ReqHdr) (a : Ask) (v : Service) (run : Nat → State → Answer) : Answer :=
  let refuse := fun (c : Code) => ((some (c, []), s) : Answer)
  let n := s.nodeCode h v
  if n ≠ .ok then refuse n
  else if s.relays h v then
    let s1 := s.say h.node 0x20 [a.session, a.txid, a.service]
    (none, { s1 with ctl := { s1.ctl with relays := s1.ctl.relays ++ [⟨a, s.now⟩] } })
  else if !h.bodyOk then refuse .malformed
  else
    let r := run a.session s
    match r.1 with
    | some (_, b) => if pathBody h.path < 4 + b.length then refuse .toobig else r
    | none => r

/-- A request accepted on a session (R104, R105): a kept one is answered again, a ninth outstanding one refused.
[DEDUCED: log entry 32] -/
def State.accept (s : State) (x : Session) (h : ReqHdr) (a : Ask) (v : Service) (run : Nat → State → Answer) : State :=
  let s1 := s.onSession a.session (fun y => { y with rx := h.counter, lastUse := s.now, udp := h.udp })
  match x.kept.find? (fun k => k.ask.same a) with
  | some k =>
    match k.resp with
    | some r => (s1.bump 0x1100 7 0x1100 8).drain a.session (x.slots ++ [{ ask := a, resp := some r }])
    | none => s1.onSession a.session (fun y => { y with slots := y.slots ++ [{ ask := a }] })
  | none =>
    if 8 ≤ (x.slots.filter (fun w => !w.ninth)).length then
      s1.drain a.session (x.slots ++ [{ ask := a, resp := some (.busy, []), ninth := true }])
    else
      let kept := ((⟨a, none⟩ : Kept) :: x.kept.filter (fun k => k.ask.txid != a.txid)).take 16
      let s2 := s1.onSession a.session (fun y => { y with slots := y.slots ++ [{ ask := a }], kept := kept })
      let r := s2.serve h a v run
      match r.1 with
      | some (c, b) => r.2.answer a c b
      | none => r.2

/-- The key of a session: its number, or 2^32 more for a manager's session at a worker. -/
def sessionKey (h : ReqHdr) : Nat := if h.path = 3 then 4294967296 + h.session else h.session

/-- A request taken, past what the mailbox does with it (R33, R100–R106). A response outside a session has COUNTER 0.
[DESIGN CHOICE: log entry 107] -/
def State.take (s : State) (h : ReqHdr) (v : Service) (run : Nat → State → Answer) : State :=
  let a : Ask := ⟨sessionKey h, h.txid, h.node, v.code, h.path, v.req, h.udp, h.prio⟩
  if h.version ≠ 1 ∨ pathBody h.path < h.length then s.discard 4
  else if h.session = 0 ∧ v.open_ then
    let r := s.serve h a v run
    match r.1 with
    | some (c, b) => r.2.send a 0 c b false
    | none => r.2
  else match tget s.ctl.sessions (sessionKey h) with
    | none => s.discard 5
    | some x =>
      if !h.auth ∨ !h.tagOk then s.discard 5
      else if h.counter ≤ x.rx then s.discard 6
      else s.accept x h a v run

/-- The mailbox takes a request from its buffer at a GO (R127, R128): none while BUSY or RSP_VALID is 1, which sets OVERRUN. -/
def State.mailGo (s : State) (run : State → State) : State :=
  let m := s.ctl.mbx
  if m.busy || m.rspValid then { s with ctl := { s.ctl with mbx := { m with overrun := true } } }
  else run { s with ctl := { s.ctl with mbx := { m with busy := true } } }

/-- A request reaches the Gatehouse (R33, R100–R106, R121); by the mailbox, as its host writes GO (R127).
[DEDUCED: log entries 32, 57] -/
def State.request (s : State) (h : ReqHdr) (v : Service) (run : Nat → State → Answer) : State :=
  if s.mode = .dormant ∨ s.lodge.held ∨ !s.hears h then s
  else if h.path = 2 then s.mailGo (fun t => t.take h v run)
  else s.take h v run

/-! The handshake (R579–R584) -/

/-- The largest fragment of a handshake message on a path (R580). -/
def fragSize (path : Nat) : Nat := pathBody path - 4
/-- The number of fragments of a message. -/
def fragCount (path len : Nat) : Nat := max 1 (ceilDiv len (fragSize path))
/-- A HELLO body that carries fragment k of a message (R580). -/
def fragBody (step path k : Nat) (b : List Byte) : List Byte :=
  leBytes 1 step ++ leBytes 1 k ++ leBytes 1 (fragCount path b.length) ++ zeros 1 ++
    (b.drop (k * fragSize path)).take (fragSize path)

/-- A session number not in use, the next after the last one given (R579). [DEDUCED: log entry 34] -/
def State.nextId (s : State) : Nat :=
  let used := fun k => (tget s.ctl.sessions k).isSome || (tget s.ctl.hands k).isSome
  ((List.range 21).map (fun d => (s.ctl.lastId + d) % 4294967295 + 1)).find? (fun k => !used k) |>.getD 1

/-- DEVICE (R579): the message that answers CLIENT, and the state after its random draws. -/
def State.deviceMessage (s : State) (id : Nat) (client : List Byte) : List Byte × State :=
  let nonce := s.drawBytes 32
  let d := nonce.2.draw
  let ct := fixed 1088 (Config.kemCiphertext ((client.drop 36).take 1184) d.1)
  let challenge := if 3 ≤ s.sec.lcs then fixed 32 s.sec.challenge else zeros 32
  let head := leBytes 4 id ++ nonce.1 ++ ct ++ leBytes 8 s.sec.serial ++ challenge
  (head ++ fixed 3309 (Config.deviceSign (Config.shake256 64 (client ++ head)) (ascii "SD4864 SOP device")), d.2)

/-- The CLIENT message opens a handshake (R579, R581). [DEDUCED: log entry 34] -/
def State.helloClient (s : State) (h : ReqHdr) (a : Ask) (frag nfrag : Nat) (data : List Byte) : State :=
  let refuse := fun (c : Code) => s.send a 0 c [] false
  if frag ≠ 0 ∨ nfrag ≠ 1 ∨ data.length ≠ 1220 then refuse .malformed
  else if data.headD 0 ≠ 1 then refuse .range
  else if 4 ≤ s.ctl.hands.length then refuse .busy
  else
    let id := s.nextId
    let d := s.deviceMessage id data
    let x : Handshake := { path := h.path, client := data, device := d.1, rx := h.counter, tx := 1, began := s.now,
                           secret := Config.kemSecret ((data.drop 36).take 1184) (Config.freeNat (s.free + 32)) }
    let s1 : State := { d.2 with ctl := { d.2.ctl with hands := tset d.2.ctl.hands id x, lastId := id } }
    s1.send a 1 .ok (fragBody 2 h.path 0 d.1) false

/-- The Maker token of a PROOF (R584): its permissions where it holds. -/
def State.tokenPerms (s : State) (b : List Byte) : Option Nat :=
  let i := imageOf b
  let p := i.payload
  if b.take 4 = ascii "STED" ∧ leNat ((b.drop 4).take 1) = 1 ∧ i.type = 8 ∧ i.keyids = [0] ∧ p.length = 44 ∧
      leNat ((b.drop 20).take 4) = 44 ∧ (sigBlocks b).all (s.sec.blockOk (b.take 128)) ∧
      Config.shake256 64 p = (b.drop 24).take 64 ∧ leNat (p.take 8) = s.sec.serial ∧
      (p.drop 8).take 32 = fixed 32 s.sec.challenge then some (leNat ((p.drop 40).take 4))
  else none

/-- The class and permissions that a PROOF earns (R576, R583, R584); none where a signature, token or role check fails. -/
def State.proofGrant (s : State) (path : Nat) (x : Handshake) : Option (Nat × Nat) :=
  let role := (x.client.getD 1 0).toNat
  let cred := (x.client.getD 2 0).toNat
  let grant := fun (record : List Byte) => s.grant role cred path record
  if 3 < role then none
  else if cred < 16 then
    let record := odBytes s.od 0x1F20 (cred + 1)
    let pk := x.proof.take 1952
    let msg := Config.shake256 64 (x.client ++ x.device ++ pk)
    if x.proof.length = 5261 ∧ Config.shake256 32 pk = record.drop 8 ∧
        Config.sigOk pk msg (x.proof.drop 1952) (ascii "SD4864 SOP host") then (grant record).map (fun c => (c, 0))
    else none
  else if cred = 0xFE then (s.tokenPerms x.proof).bind (fun p => (grant []).map (fun c => (c, p)))
  else if cred = 0xFF ∧ x.proof = [] then (grant []).map (fun c => (c, 0))
  else none

/-- The final fragment of PROOF (R579, R581–R584): FINISH opens the session, under the keys of R582, or the handshake is refused.
[DEDUCED: log entry 33] -/
def State.finishHello (s : State) (h : ReqHdr) (a : Ask) (x : Handshake) : State :=
  let s0 : State := { s with ctl := { s.ctl with hands := tdel s.ctl.hands h.session } }
  match s.proofGrant h.path x with
  | none => (s0.bump 0x1F38 2 0x1F38 5).send a (x.tx + 1) .denied [] false
  | some (cls, perms) =>
    if min 16 (s.nat 0x1100 2) ≤ (s.ctl.sessions.filter (fun kv => kv.2.path != 3)).length then
      s0.send a (x.tx + 1) .busy [] false
    else
      let th := Config.shake256 64 (x.client ++ x.device ++ x.proof)
      let y : Session := { path := h.path, cls := cls, cred := (x.client.getD 2 0).toNat, perms := perms, rx := h.counter,
                           tx := x.tx + 1, lastUse := s.now, udp := h.udp,
                           keyHd := Config.kmac 32 x.secret th (ascii "SD4864 SOP h2d"),
                           keyDh := Config.kmac 32 x.secret th (ascii "SD4864 SOP d2h") }
      let s1 : State := { s0 with ctl := { s0.ctl with sessions := tset s0.ctl.sessions h.session y } }
      let s2 := if cls = 3 then
          let d := s1.drawBytes 32
          { d.2 with sec := { d.2.sec with challenge := d.1 } }
        else s1
      (s2.bump 0x1F38 1 0x1F38 5).send a (x.tx + 1) .ok (fragBody 4 h.path 0 (leBytes 1 cls ++ zeros 3)) true

/-- A later request of a handshake (R580, R581): a fragment of DEVICE is asked for, or one of PROOF arrives.
[DEDUCED: log entry 34] -/
def State.helloNext (s : State) (h : ReqHdr) (a : Ask) (x : Handshake) (step frag nfrag : Nat) (data : List Byte) : State :=
  let keep := fun (y : Handshake) => ({ s with ctl := { s.ctl with hands := tset s.ctl.hands h.session y } } : State)
  let y := { x with rx := h.counter, tx := x.tx + 1 }
  if step = 2 then
    if data ≠ [] then (keep y).send a y.tx .malformed [] false
    else if fragCount h.path x.device.length ≤ frag then (keep y).send a y.tx .range [] false
    else (keep y).send a y.tx .ok (fragBody 2 h.path frag x.device) false
  else if step ≠ 3 then (keep y).send a y.tx .range [] false
  else if frag ≠ x.frags ∨ nfrag ≤ frag then (keep y).send a y.tx .sequence [] false
  else if (if frag + 1 < nfrag then data.length ≠ fragSize h.path else fragSize h.path < data.length) then
    (keep y).send a y.tx .malformed [] false
  else
    let z := { y with proof := x.proof ++ data, frags := frag + 1 }
    if frag + 1 < nfrag then (keep z).send a z.tx .ok [] false
    else s.finishHello h a { z with tx := x.tx }

/-- A HELLO request taken (R579–R584). [DEDUCED: log entry 34] -/
def State.takeHello (s : State) (h : ReqHdr) (step frag nfrag : Nat) (data : List Byte) : State :=
  let a : Ask := ⟨h.session, h.txid, h.node, 1, h.path, .hello (bareHdr h) step frag nfrag data, h.udp, h.prio⟩
  if h.version ≠ 1 ∨ pathBody h.path < h.length then s.discard 4
  else
    let n := s.nodeCode h { code := 1, req := a.req }
    if h.session = 0 then
      if step ≠ 1 then s.discard 5
      else if n ≠ .ok then s.send a 0 n [] false
      else if !h.bodyOk then s.send a 0 .malformed [] false
      else s.helloClient h a frag nfrag data
    else match tget s.ctl.hands h.session with
      | none => s.discard 5
      | some x =>
        if h.counter ≤ x.rx then s.discard 6
        else if n ≠ .ok ∨ !h.bodyOk then
          let y := { x with rx := h.counter, tx := x.tx + 1 }
          let s1 : State := { s with ctl := { s.ctl with hands := tset s.ctl.hands h.session y } }
          s1.send a y.tx (if n ≠ .ok then n else .malformed) [] false
        else s.helloNext h a x step frag nfrag data

/-- The HELLO service (R121, R127, R579–R584). [DEDUCED: log entry 34] -/
def State.helloService (s : State) (h : ReqHdr) (step frag nfrag : Nat) (data : List Byte) : State :=
  if s.mode = .dormant ∨ s.lodge.held ∨ !s.hears h ∨ h.path = 3 then s
  else if h.path = 2 then s.mailGo (fun t => t.takeHello h step frag nfrag data)
  else s.takeHello h step frag nfrag data

/-- HELLO (R579–R584). -/
def execHello (h : ReqHdr) (step frag nfrag : Nat) (data : List Byte) (s : State) : Host.Outcome State Fault Refusal :=
  .next (s.helloService h step frag nfrag data)

/-- HANDSHAKE_TIMEOUT (R581). -/
def execHandshakeTimeout (session : Nat) (s : State) : Host.Outcome State Fault Refusal :=
  match tget s.ctl.hands session with
  | none => .next s
  | some x =>
    if s.now < x.began + 5000000000 then .next s
    else .next { s with ctl := { s.ctl with hands := tdel s.ctl.hands session } }

/-- The CLOSE service (R104, R106): the session ends once the requests before it have been answered. -/
def State.closeService (s : State) (h : ReqHdr) : State :=
  s.request h { code := 2, req := .close (bareHdr h) } (fun _ t => (some (.ok, []), t))

/-- CLOSE (R106). -/
def execClose (h : ReqHdr) (s : State) : Host.Outcome State Fault Refusal := .next (s.closeService h)

/-- SESSION_IDLE_TIMEOUT (R51, R129, R133). -/
def execSessionIdleTimeout (session : Nat) (s : State) : Host.Outcome State Fault Refusal :=
  match tget s.ctl.sessions session with
  | none => .next s
  | some x =>
    let t := s.nat 0x1100 3
    if t = 0 ∨ s.now < x.lastUse + t * 1000000000 then .next s else .next (s.endSession session)

/-! Relays (R118) -/

/-- RELAY_TIMEOUT (R118): the worker has not answered within 10 ms. -/
def execRelayTimeout (session txid : Nat) (s : State) : Host.Outcome State Fault Refusal :=
  match s.ctl.relays.find? (fun r => r.ask.session == session && r.ask.txid == txid) with
  | none => .next s
  | some r =>
    if s.now < r.sent + 10000000 then .next s
    else
      let s1 : State := { s with ctl := { s.ctl with relays := s.ctl.relays.filter (fun q => q != r) } }
      .next (s1.answer r.ask .timeout [])

/-! Notices (R115–R117, R128) -/

/-- The oldest notice of a session is delivered (R115–R117, R128), with what was dropped before it: into the notice buffer on
the mailbox, once it is free; on the other paths at once where the path is there, on CAN FD at priority 6 (R123). -/
def State.deliver (s : State) (id : Nat) : State :=
  match tget s.ctl.sessions id with
  | none => s
  | some x =>
    match x.queue with
    | [] => s
    | q :: r =>
      let n := { q with lost := min x.lost 65535 }
      let b := n.message s.node (id % 4294967296) (x.tx + 1) x.keyDh
      let gone := s.onSession id (fun y => { y with queue := r, tx := y.tx + 1, lost := 0 })
      let s1 : State := { gone with ctl := { gone.ctl with noticed := some (id, n) } }
      if x.path = 3 then (if s.pathOn 3 then s1 else s)
      else if x.path ≠ 2 then (if s.pathOn x.path then s1.transmit x.path 6 s.node 0x52 b else s)
      else if s.ctl.mbx.ntcValid || !s.pathOn 2 then s
      else
        let m := s1.ctl.mbx
        let s2 : State := { s1 with ctl := { s1.ctl with wire := b, mbx := { m with ntc := b, ntcLen := b.length, ntcValid := true } } }
        if m.ntcIrqEn then { s2 with msix := setBit s2.msix (s2.nat 0x1103 2 + 1) } else s2

end Sys2Proof.Machine
end

