-- ==== Sys2Proof/Machine/Writing.lean ====
section
/-! DEFINITION. Writing.lean: WRITE as single-object commits, STAGE, and writes by block transfer of images and owner commands
(R45, R48, R49, R91–R95, R109, R110, R130, R585, R600). -/

namespace Sys2Proof.Machine

/-! Single-object commits (R45) -/

/-- The verdict on a single-object commit (R45): against the state in force, and against every armed set at its epoch with
the write added; what waits for the next tick counts as in force. -/
def State.rwCode (s : State) (i j : Nat) (v : Val) : Code :=
  let code := fun (t : State) (k due : Nat) (w : Tab Val) =>
    let x := t.viewOf k due w
    match t.validate x (t.figures x) none with
    | some b => b.1
    | none => Code.ok
  let now_ := code s 0 s.now [(okey i j, v)]
  if now_ ≠ .ok then now_
  else ((s.armedSets.map (fun k => code (s.later (okey i j) v ⟨3, 0xFF, 0, none⟩ [] true) k (s.set k).due (s.set k).writes)).find?
    (· ≠ .ok)).getD .ok

/-- An object that takes effect at the next STARTING only (R45). [DEDUCED: log entry 54] -/
def nextStart (i j : Nat) : Bool :=
  (i == 0x1001 && j == 3) || (i == 0x1300 && (j == 3 || j == 4)) || (i == 0x1800 && decide (1 ≤ j) && decide (j ≤ 4))

/-- What a write of one object came to: its verdict, the set in which it waits for the other members of a two-phase commit,
and the state it leaves. -/
structure Wrote where
  /-- R131. verdict -/
  code : Code
  /-- R70. set of a commit that has not ended -/
  set : Option Nat := none
  /-- R45. the machine after it -/
  st : State

/-- A single-object commit that touches other members of a cluster or pair, or the peer (R45, R70, R75): it runs in two phases
in a set of its own, for the first tick after the arm lead. [DEDUCED: log entry 46] -/
def State.rwTogether (s : State) (w : Tab Val) : Wrote :=
  match rwSets.find? (fun k => (s.set k).state == 0) with
  | none => ⟨.busy, none, s⟩
  | some k =>
    let r := (s.setSet k { state := 1, orphan := true, writes := w }).commitSet k ⟨0, 0xFF, 0⟩ 3
    if r.1 = .ok then ⟨.ok, some k, r.2⟩ else ⟨r.1, none, r.2.freeSet k⟩

/-- A single-object commit validated (R45, R84). On a device of its own it applies at the next tick; one that other members
share runs in two phases (R70, R75), and without a pair link a pair-shared one is refused (R76). [DEDUCED: log entry 7] -/
def State.rwCommit (s : State) (w : Who) (i j : Nat) (v : Val) : Wrote :=
  let x : Tab Val := [(okey i j, v)]
  let refuse := fun (c : Code) => (⟨c, none, { s with od := odSetFlag s.od 0x1200 8 4 }⟩ : Wrote)
  let peer := s.forPeer x
  if peer && !s.pair.link then refuse .aborted
  else
    let c := if nextStart i j then Code.ok else s.rwCode i j v
    if c ≠ .ok then refuse c
    else if peer || !(s.workersOf x).isEmpty then s.rwTogether x
    else ⟨.ok, none, s.later (okey i j) v w [] true⟩

/-! Checks of one entry (R91–R95, R49, R132) -/

/-- Fused objects that a WRITE may reach (R95). [DEDUCED: log entry 52] -/
def fusedCommand (i j : Nat) : Bool :=
  (i == 0x1F00 && (j == 6 || j == 7)) || (i == 0x1F04 && j == 1) || (i == 0x1F13 && (j == 1 || j == 2))

/-- The checks of an entry in their order up to its value: existence, access class and kind, fused objects, length, type,
range and zero. `stage` says that it is staged, `block` that its bytes came by block transfer.
[DEDUCED: log entries 16, 17] -/
def State.entryCode (s : State) (w : Who) (i j len : Nat) (v : Val) (stage block : Bool) : Code :=
  let c := s.may w true i j
  match odRow i j with
  | none => c
  | some r =>
    if c ≠ .ok then c
    else if i = 0x1F20 ∧ s.needsOwner w then .denied
    else if r.acc = 4 ∧ !stage then .stageonly
    else if r.pers = 2 ∧ (stage || !fusedCommand i j) then .denied
    else if fusedCommand i j ∧ stage then .denied
    else if !(if block && r.ty == 14 then len == r.size || len == 0 || r.size == 16777216 && decide (len ≤ 16777216)
        else r.lenOk len v) then .length
    else if !time80Ok r v then .range
    else valueCode i j r (r.value len v)

/-- The value that an entry brings to its object (R90). -/
def entryVal (i j len : Nat) (v : Val) : Val :=
  match odRow i j with
  | some r => r.value len v
  | none => v

/-- The path that a write of an object turns off (R130, R133): UDP also where the port mask leaves no port with a link. -/
def State.offPath (s : State) (i j : Nat) (v : Val) : Option Nat :=
  match i, j with
  | 0x1101, 1 => if v = .num 0 then some 1 else none
  | 0x1102, 1 => if v = .num 0 then some 0 else none
  | 0x1102, 2 => if [0, 1, 2, 3].any (fun p => bit (valInt v).toNat p && s.linkUp p) then none else some 0
  | 0x1103, 1 => if v = .num 0 then some 2 else none
  | _, _ => none

/-- A write that would cut off the path carrying it while no other path has a session of Service class or above (R130). -/
def State.cutsOff (s : State) (path i j : Nat) (v : Val) : Bool :=
  s.offPath i j v == some path && !s.ctl.sessions.any (fun kv => kv.2.path != path && decide (2 ≤ kv.2.cls))

/-- A checked value written to its object (R45, R93, R130). A command is held to what it would be answered once the writes
before it have applied, and is carried out at the next tick; fuses that do not take are found out at once (R595).
[DEDUCED: log entry 7] -/
def State.writeValue (s : State) (w : Who) (path i j : Nat) (v : Val) (bad : List Nat) : Wrote :=
  if s.cutsOff path i j v then ⟨.denied, none, s⟩
  else if s.armedSets.any (fun k => (tget (s.set k).writes (okey i j)).isSome) then ⟨.busy, none, s⟩
  else if commandObject i j then
    let c := (s.runSoon.obey w i j v bad).1
    if c = .ok then ⟨.ok, none, s.later (okey i j) v w bad true⟩
    else if c = .hardware then ⟨c, none, (settingsWrite w (valBytes v) bad s).2⟩
    else ⟨c, none, s⟩
  else s.rwCommit w i j v

/-- One entry of a WRITE (R87, R91–R95, R109). A failure-analysis object takes a value whose effect the manual leaves open:
its verdict is a free value. -/
def State.writeEntry (s : State) (w : Who) (path : Nat) (e : WriteEnt) (bad : List Nat) : Wrote :=
  let i := e.obj.idx
  let j := e.obj.sub
  if s.labOpen w i then
    if (Config.labObject i j).isNone then ⟨.noobject, none, s⟩
    else
      let d := s.draw
      ⟨Code.ofValue (d.1 % 30), none, d.2⟩
  else
    let c := s.entryCode w i j e.len e.val false false
    if c ≠ .ok then ⟨c, none, s⟩ else s.writeValue w path i j (entryVal i j e.len e.val) bad

/-- What the entries of a WRITE came to: the codes of those done, and the commit and the entries that wait. -/
structure WroteAll where
  /-- R109. codes of the entries done -/
  codes : List Code
  /-- R109. set that the next entry waits for, and the entries after it -/
  wait : Option (Nat × List WriteEnt) := none
  /-- R45. the machine after them -/
  st : State

/-- The entries of a WRITE in order, up to the first refusal or the first that waits (R109). -/
def State.writeEntries (s : State) (w : Who) (path : Nat) : List WriteEnt → WroteAll
  | [] => ⟨[], none, s⟩
  | e :: r =>
    let a := s.writeEntry w path e []
    match a.set with
    | some k => ⟨[], some (k, r), a.st⟩
    | none =>
      if a.code = .ok then
        let b := a.st.writeEntries w path r
        ⟨a.code :: b.codes, b.wait, b.st⟩
      else ⟨a.code :: r.map (fun _ => Code.skipped), none, a.st⟩

/-- COUNT status words (R106). -/
def statusWords (l : List Code) : List Byte :=
  leBytes 1 l.length ++ zeros 3 ++ padded (l.flatMap (fun c => leBytes 2 c.value))

/-! Staging (R47–R49, R110) -/

/-- The verdict on naming a set to write into: another session's is DENIED, an armed one BUSY, any other that is not open
NOSET (R47, R110). -/
def State.stageSet (s : State) (id k : Nat) : Code :=
  let x := s.set k
  if k < 1 ∨ 8 < k ∨ x.state = 0 then .noset
  else if x.owner ≠ id ∨ x.orphan ∨ x.coordinator.isSome then .denied
  else if x.armed then .busy
  else if x.state = 1 then .ok
  else .noset

/-- A checked value staged (R28, R34, R40, R41, R48, R49): a mode request while a transition is in progress, or in a tick in which
a trigger of higher rank was acted on, is BUSY; one for DORMANT, or out of SAFE, needs Service class. [DEDUCED: log entry 52] -/
def State.stageValue (s : State) (w : Who) (k i j len : Nat) (v : Val) : Code × State :=
  let x := s.set k
  let mode : Bool := i == 0x1001 && j == 2
  let old := tget x.writes (okey i j)
  let oldLen := match old with
    | some (.oct b) => b.length
    | some (.num _) => ((odRow i j).map OdRow.size).getD 0
    | none => 0
  let bytes := x.bytes - oldLen + len
  if mode && decide (w.cls < 2) && (v == .num 0 || s.mode == .safe) then (.denied, s)
  else if mode && (s.transition != 0 || s.outranked 5) then (.busy, s)
  else if (old.isNone && decide (4096 ≤ x.writes.length)) || decide (262144 < bytes) then (.range, s)
  else (.ok, s.setSet k { x with writes := tset x.writes (okey i j) v, bytes := bytes })

/-- One entry of a STAGE (R49, R87). A failure-analysis object's verdict is a free value. [DESIGN CHOICE: log entry 49] -/
def State.stageEntry (s : State) (w : Who) (k : Nat) (e : WriteEnt) : Code × State :=
  let i := e.obj.idx
  let j := e.obj.sub
  if s.labOpen w i then
    let r := s.writeEntry w 0 e []
    (r.code, r.st)
  else
  let c := s.entryCode w i j e.len e.val true false
  if c ≠ .ok then (c, s) else s.stageValue w k i j e.len (entryVal i j e.len e.val)

/-- The entries of a STAGE, each on its own (R110). -/
def State.stageEntries (s : State) (w : Who) (k : Nat) : List WriteEnt → List Code × State
  | [] => ([], s)
  | e :: r =>
    let a := s.stageEntry w k e
    let b := a.2.stageEntries w k r
    (a.1 :: b.1, b.2)

/-! Images and owner commands by block transfer (R585, R600) -/

/-- A pack slot that a running channel uses (R182, R202, R600). -/
def State.packInUse (s : State) (k : Nat) : Bool :=
  (tget s.sec.packs k).any (fun p => p.verified && s.runningChans.any (fun n =>
    decide (0x10 ≤ s.nat (chI n 0x40) 7) && Config.packDefines p.payload (s.nat (chI n 0x40) 7)))

/-- A bank or slot that may not be written now (R600). -/
def State.imageBusy (s : State) (i j : Nat) : Bool :=
  s.ctl.storing.isSome || (if i = 0x1F30 then s.sec.onTrial j else s.packInUse (j - 1))

/-- An image written to an inactive bank or a pack slot and verified (R590, R600). -/
def State.writeImage (s : State) (i j : Nat) (b : List Byte) : Code × State :=
  if s.imageBusy i j then (.busy, s)
  else
    let c := s.verifyImage (if i = 0x1F30 then j else 4) b
    let im := { imageOf b with verified := decide (c = .ok) }
    let x := s.sec
    let s1 : State := { s with sec :=
      if i = 0x1F30 then { x with banks := tset x.banks (2 * j + (1 - x.activeBank j)) im }
      else { x with packs := tset x.packs (j - 1) im } }
    (c, if c = .ok then s1 else s1.bump 0x1F38 3 0x1F38 5)

/-- The write entries that a WRITE body spells (R107), `n` of them. -/
def parseEntries : Nat → List Byte → Option (List WriteEnt)
  | 0, b => if b = [] then some [] else none
  | n + 1, b =>
    let len := leNat ((b.drop 4).take 2)
    let size := 8 + ceilDiv len 4 * 4
    if b.length < size then none
    else (parseEntries n (b.drop size)).map (fun l =>
      ⟨⟨leNat (b.take 2), leNat ((b.drop 2).take 1)⟩, len, .oct ((b.drop 8).take len)⟩ :: l)

/-- An owner command executed (R585): a new nonce is drawn, and the answer is the first code that is not OK. -/
def State.ownerDone (s : State) (codes : List Code) : Code × State :=
  let d := s.drawBytes 32
  ((codes.find? (· ≠ .ok)).getD .ok, { d.2 with sec := { d.2.sec with ownerNonce := d.1 } })

/-- The requester that an owner command's signer makes of the session carrying it (R585). -/
def ownerWho (w : Who) (b : List Byte) : Who := { w with owner := some ((imageOf b).keyids.headD 1 - 1) }

/-- An owner command (R585, R590): its entries are executed as WRITE would under its signer's slot.
[DEDUCED: log entry 52] -/
def State.ownerCommand (s : State) (w : Who) (path : Nat) (b : List Byte) : WroteAll :=
  let p := (imageOf b).payload
  let c := s.verifyImage 7 b
  let refuse := fun (c : Code) => (⟨[c], none, s.bump 0x1F38 4 0x1F38 5⟩ : WroteAll)
  if c ≠ .ok then refuse c
  else if leNat (p.take 8) ≠ s.sec.serial ∨ (p.drop 8).take 32 ≠ fixed 32 s.sec.ownerNonce then refuse .denied
  else match parseEntries (leNat ((p.drop 40).take 1)) (p.drop 44) with
    | none => refuse .malformed
    | some [] => refuse .zero
    | some l =>
      let r := s.writeEntries (ownerWho w b) path l
      if r.wait.isSome then r
      else
        let d := r.st.ownerDone r.codes
        ⟨[d.1], none, d.2⟩

/-- An object written by block transfer at BLOCK_END (R87, R114): the code that BLOCK_END answers, or the commit it waits for. -/
def State.blockWrite (s : State) (id : Nat) (w : Who) (path : Nat) (x : Xfer) : WroteAll :=
  let i := x.obj.idx
  let j := x.obj.sub
  let v := Val.oct x.data
  let one := fun (r : Code × State) => (⟨[r.1], none, r.2⟩ : WroteAll)
  let c := s.entryCode w i j x.data.length v (x.set != 0) true
  if s.labOpen w i then
    let r := s.writeEntry w path ⟨x.obj, x.data.length, v⟩ []
    one (r.code, r.st)
  else if c ≠ .ok then one (c, s)
  else if x.set ≠ 0 then
    let k := s.stageSet id x.set
    if k ≠ .ok then one (k, s)
    else if imageObject x.obj ∨ i = 0x1F06 then one (.denied, s)
    else one (s.stageValue w x.set i j x.data.length (entryVal i j x.data.length v))
  else if imageObject x.obj then one (s.writeImage i j x.data)
  else if i = 0x1F06 then s.ownerCommand w path x.data
  else
    let r := s.writeValue w path i j (entryVal i j x.data.length v) []
    match r.set with
    | some k => ⟨[], some (k, []), r.st⟩
    | none => one (r.code, r.st)

/-! Writes that wait for a two-phase commit (R70, R75, R109) -/

/-- The answer to a WRITE, or to a BLOCK_END that wrote one object or an owner command (R106, R109, R114), whose entries have all
been done; an owner command draws its nonce. -/
def State.writeDone (s : State) (a : Ask) (w : Who) (codes : List Code) : (Code × List Byte) × State :=
  if a.service = 0x42 then
    if w.owner.isSome then
      let d := s.ownerDone codes
      ((d.1, []), d.2)
    else (((codes.find? (· ≠ .ok)).getD .ok, []), s)
  else ((.ok, statusWords codes), s)

/-- Entries carried out for a request: it is answered, or waits (R109). -/
def WroteAll.finish (r : WroteAll) (a : Ask) (w : Who) (done : List Code) : Answer :=
  match r.wait with
  | some (k, left) =>
    (none, { r.st with ctl := { r.st.ctl with jobs := r.st.ctl.jobs ++ [⟨a, w, done ++ r.codes, k, left⟩] } })
  | none =>
    let d := r.st.writeDone a w (done ++ r.codes)
    (some d.1, d.2)

/-- A single-object commit in two phases has ended (R70, R109): its set is free, and the write that waited for it goes on. -/
def State.settleWrite (s : State) (k : Nat) : State :=
  let x := s.set k
  if x.state < 4 then s
  else
    let s1 := s.freeSet k
    match s1.ctl.jobs.find? (fun j => j.set == k) with
    | none => s1
    | some j =>
      let s2 : State := { s1 with ctl := { s1.ctl with jobs := s1.ctl.jobs.filter (fun i => i.set != k) } }
      let c := if x.state = 4 then Code.ok else x.result
      let r := if c = .ok then (s2.writeEntries j.who j.ask.path j.left) else ⟨j.left.map (fun _ => Code.skipped), none, s2⟩
      let a := r.finish j.ask j.who (j.done ++ [c])
      match a.1 with
      | some (d, b) => a.2.answer j.ask d b
      | none => a.2

end Sys2Proof.Machine
end

