-- ==== Sys2Proof/Machine/Sop.lean ====
section
/-! DEFINITION. Sop.lean: the services of the Steod Object Protocol (R47–R69, R96–R99, R106–R118). -/

namespace Sys2Proof.Machine

/-- A service refused. -/
def refuseWith (c : Code) (s : State) : Answer := (some (c, []), s)

/-- A service of a class (R33): the stores as Service-class requests about OD 0x1104; the set services, which carry the mode
requests of OD 0x1001, need Configure class and count in the class of their session. [DEDUCED: log entry 20] -/
def State.mayUse (s : State) (w : Who) (need i : Nat) : Bool :=
  decide (need ≤ w.cls) && s.mode.permits (if w.cls = 3 ∨ i = 0x1001 then w.cls else need) true i

/-! READ and DESCRIBE (R99, R107, R108) -/

/-- Read entries in turn: each takes at most the room that those after it leave. [DEDUCED: log entry 55] -/
def State.readEntries (s : State) (w : Who) : Nat → List ObjRef → List (List Byte) × State
  | _, [] => ([], s)
  | room, o :: r =>
    let a := s.readObject w (room - 16 - 20 * r.length) o.idx o.sub false
    let e := readEntry a.1 (s.capturedAt o.idx o.sub) a.2.1
    let b := a.2.2.readEntries w (room - e.length) r
    (e :: b.1, b.2)

/-- The READ service. -/
def State.readService (s : State) (h : ReqHdr) (refs : List ObjRef) : State :=
  let public_ := refs.all (fun o => decide (0x1000 ≤ o.idx) && decide (o.idx < 0x1100))
  s.request h { code := 0x10, req := .read (bareHdr h) refs, objs := refs, open_ := public_ } (fun id t =>
    if refs = [] then refuseWith .zero t
    else
      let r := t.readEntries (t.who id) (pathBody h.path - 8) refs
      (some (.ok, leBytes 1 refs.length ++ zeros 3 ++ r.1.flatten), r.2))

/-- READ (R101, R108). [DEDUCED: log entry 17] -/
def execRead (h : ReqHdr) (refs : List ObjRef) (s : State) : Host.Outcome State Fault Refusal := .next (s.readService h refs)

/-- The DESCRIBE service (R87, R99). Of a failure-analysis object it returns a descriptor that the manual leaves open.
[DESIGN CHOICE: log entry 49] -/
def State.describeService (s : State) (h : ReqHdr) (obj : ObjRef) : State :=
  s.request h { code := 0x12, req := .describe (bareHdr h) obj, objs := [obj] } (fun id t =>
    let c := t.may (t.who id) false obj.idx obj.sub
    if t.labOpen (t.who id) obj.idx then
      if (Config.labObject obj.idx obj.sub).isNone then refuseWith .noobject t
      else
        let d := t.drawBytes 28
        (some (.ok, d.1), d.2)
    else match odRow obj.idx obj.sub with
    | none => refuseWith c t
    | some r => if c ≠ .ok then refuseWith c t
      else (some (.ok, r.descriptor (t.readClass obj.idx obj.sub r)), t))

/-- DESCRIBE (R99). -/
def execDescribe (h : ReqHdr) (obj : ObjRef) (s : State) : Host.Outcome State Fault Refusal := .next (s.describeService h obj)

/-! WRITE and the stage sets (R47–R62, R109–R111) -/

/-- The WRITE service (R109): answered once its entries are done, those that run in two phases included (R70).
[DEDUCED: log entry 46] -/
def State.writeService (s : State) (h : ReqHdr) (entries : List WriteEnt) : State :=
  let objs := entries.map WriteEnt.obj
  s.request h { code := 0x11, req := .write (bareHdr h) entries, objs := objs, writes := true } (fun id t =>
    if entries = [] then refuseWith .zero t
    else
      (t.writeEntries (t.who id) h.path entries).finish
        ⟨id, h.txid, h.node, 0x11, h.path, .write (bareHdr h) entries, h.udp, h.prio⟩ (t.who id) [])

/-- WRITE (R45, R109). -/
def execWrite (h : ReqHdr) (entries : List WriteEnt) (s : State) : Host.Outcome State Fault Refusal :=
  .next (s.writeService h entries)

/-- The OPEN_SET service (R47, R80): the session's finished sets become free, and it takes the lowest-numbered free set. -/
def State.openSetService (s : State) (h : ReqHdr) : State :=
  s.request h { code := 0x20, req := .openSet (bareHdr h) } (fun id t =>
    if !t.mayUse (t.who id) 1 0x1001 then refuseWith .denied t
    else
      let mine := fun (x : StageSet) => decide (4 ≤ x.state) && x.owner == id && !x.orphan && x.coordinator.isNone
      let t1 := [1, 2, 3, 4, 5, 6, 7, 8].foldl (fun (u : State) k => if mine (u.set k) then u.freeSet k else u) t
      match [1, 2, 3, 4, 5, 6, 7, 8].find? (fun k => (t1.set k).state == 0) with
      | some k => (some (.ok, leBytes 1 k ++ zeros 3), t1.setSet k { state := 1, owner := id })
      | none => refuseWith .busy t1)

/-- OPEN_SET (R47, R80). -/
def execOpenSet (h : ReqHdr) (s : State) : Host.Outcome State Fault Refusal := .next (s.openSetService h)

/-- The STAGE service (R49, R110). [DEDUCED: log entry 35] -/
def State.stageService (s : State) (h : ReqHdr) (set : Nat) (entries : List WriteEnt) : State :=
  let objs := entries.map WriteEnt.obj
  s.request h { code := 0x21, req := .stage (bareHdr h) set entries, objs := objs, writes := true } (fun id t =>
    if !t.mayUse (t.who id) 1 0x1001 then refuseWith .denied t
    else if entries = [] then refuseWith .zero t
    else
      let c := t.stageSet id set
      if c ≠ .ok then refuseWith c t
      else
        let r := t.stageEntries (t.who id) set entries
        (some (.ok, statusWords r.1), r.2))

/-- STAGE (R48, R49, R110). -/
def execStage (h : ReqHdr) (set : Nat) (entries : List WriteEnt) (s : State) : Host.Outcome State Fault Refusal :=
  .next (s.stageService h set entries)

/-- A set that a session holds open (R110). [DEDUCED: log entry 35] -/
def State.holdsOpen (s : State) (id k : Nat) : Bool :=
  let x := s.set k
  decide (1 ≤ k) && decide (k ≤ 8) && x.owner == id && x.state == 1
/-- A set that a session owns and that is armed. [DEDUCED: log entry 35] -/
def State.holdsArmed (s : State) (id k : Nat) : Bool :=
  let x := s.set k
  decide (1 ≤ k) && decide (k ≤ 8) && x.owner == id && x.armed && !x.orphan && x.coordinator.isNone

/-- One object of a set as the set would leave it (R50): its staged value, or else its value in force.
[DEDUCED: log entry 36] -/
def State.stagedEntry (s : State) (w : Who) (k : Nat) (o : ObjRef) : List Byte × State :=
  match (s.set k).staged o.idx o.sub, odRow o.idx o.sub with
  | some v, some r =>
    let c := s.may w false o.idx o.sub
    if c ≠ .ok then (readEntry c s.now [], s)
    else if r.acc = 2 then (readEntry .writeonly s.now [], s)
    else (readEntry .ok s.now (r.bytes v), s)
  | _, _ =>
    let a := s.look w 0 o.idx o.sub false
    (readEntry a.1 (s.capturedAt o.idx o.sub) a.2.1, a.2.2)

/-- The READ_STAGED service (R50, R110). [DEDUCED: log entry 36] -/
def State.readStagedService (s : State) (h : ReqHdr) (set : Nat) (refs : List ObjRef) : State :=
  s.request h { code := 0x22, req := .readStaged (bareHdr h) set refs, objs := refs } (fun id t =>
    if !t.mayUse (t.who id) 1 0x1001 then refuseWith .denied t
    else if refs = [] then refuseWith .zero t
    else if !t.holdsOpen id set then refuseWith .noset t
    else
      let r := refs.foldl (fun (a : List Byte × State) o =>
        let e := a.2.stagedEntry (t.who id) set o
        (a.1 ++ e.1, e.2)) ([], t)
      (some (.ok, leBytes 1 refs.length ++ zeros 3 ++ r.1), r.2))

/-- READ_STAGED (R50). -/
def execReadStaged (h : ReqHdr) (set : Nat) (refs : List ObjRef) (s : State) : Host.Outcome State Fault Refusal :=
  .next (s.readStagedService h set refs)

/-- The body of a COMMIT response (R106, R111). -/
def commitBody (x : StageSet) : List Byte :=
  time80 x.due ++ leBytes 8 (if x.refch = 0xFF then 0 else x.epoch) ++ zeros 2

/-- The COMMIT service (R57, R111): answered once the set is armed or refused; with members, once they have answered.
[DEDUCED: log entry 35] -/
def State.commitService (s : State) (h : ReqHdr) (set : Nat) (target : Target) : State :=
  let req : Instr := .commit (bareHdr h) set target
  s.request h { code := 0x23, req := req } (fun id t =>
    if !t.mayUse (t.who id) 1 0x1001 then refuseWith .denied t
    else if t.holdsArmed id set then refuseWith .busy t
    else if !t.holdsOpen id set then refuseWith .noset t
    else
      let r := t.commitSet set target (t.who id).cls
      let x := r.2.set set
      if r.1 ≠ .ok then refuseWith r.1 r.2
      else if x.members.isEmpty then (some (.ok, commitBody x), r.2)
      else (none, r.2.setSet set { x with reply := some ⟨id, h.txid, h.node, 0x23, h.path, req, h.udp, h.prio⟩ }))

/-- COMMIT (R52–R57, R70, R111). -/
def execCommit (h : ReqHdr) (set : Nat) (target : Target) (s : State) : Host.Outcome State Fault Refusal :=
  .next (s.commitService h set target)

/-- A COMMIT that still waits for its answer gets it (R111). -/
def State.replySet (s : State) (k : Nat) : State :=
  let x := s.set k
  match x.reply with
  | none => s
  | some a =>
    let s1 := s.setSet k { x with reply := none }
    if x.armed || x.state == 4 then s1.answer a .ok (commitBody x) else s1.answer a x.result []

/-- The ABORT service (R60): before the ready point of the set's present target. -/
def State.abortService (s : State) (h : ReqHdr) (set : Nat) : State :=
  s.request h { code := 0x24, req := .abort (bareHdr h) set } (fun id t =>
    let x := t.set set
    if !t.mayUse (t.who id) 1 0x1001 then refuseWith .denied t
    else if !t.holdsArmed id set then refuseWith .noset t
    else if x.readyPassed || x.report != 0 || decide (x.due ≤ t.now + 100000) then refuseWith .late t
    else (some (.ok, []), (t.endSet set 4 2).replySet set))

/-- ABORT (R60). -/
def execAbort (h : ReqHdr) (set : Nat) (s : State) : Host.Outcome State Fault Refusal := .next (s.abortService h set)

/-- The DISCARD service (R110). -/
def State.discardService (s : State) (h : ReqHdr) (set : Nat) : State :=
  s.request h { code := 0x25, req := .discard (bareHdr h) set } (fun id t =>
    if !t.mayUse (t.who id) 1 0x1001 then refuseWith .denied t
    else if t.holdsArmed id set then refuseWith .busy t
    else if !t.holdsOpen id set then refuseWith .noset t
    else (some (.ok, []), t.freeSet set))

/-- DISCARD (R110). -/
def execDiscard (h : ReqHdr) (set : Nat) (s : State) : Host.Outcome State Fault Refusal := .next (s.discardService h set)

/-! SNAPSHOT (R67–R69, R112) -/

/-- The channels whose blocks hold objects of a snapshot, ascending (R112). -/
def namedChans (refs : List ObjRef) : List Nat :=
  channels.filter (fun n => refs.any (fun o => decide (0x4000 ≤ o.idx) && decide (o.idx < 0x8000) && (o.idx - 0x4000) / 0x80 == n))

/-- A snapshot's capture here: the entries that no member has sent, the epoch counts and the sequence. -/
def State.captureSnap (s : State) (x : Snap) : Snap × State :=
  let w := s.who x.ask.session
  let r := ((List.range x.objs.length).zip x.objs).foldl (fun (a : Tab (List Byte) × State) ko =>
    if (tget a.1 ko.1).isSome then a
    else
      let e := a.2.readObject w 4096 ko.2.idx ko.2.sub false
      (tset a.1 ko.1 (readEntry e.1 (s.capturedAt ko.2.idx ko.2.sub) e.2.1), e.2.2)) (x.parts, s)
  let es := (namedChans x.objs).foldl (fun (a : Tab Nat) n =>
    if (tget a n).isSome then a else tset a n (s.nat 0x1210 (n + 1))) x.epochs
  ({ x with parts := r.1, epochs := es, seq := some (s.nat 0x1200 3) }, r.2)

/-- The body of a snapshot response (R106, R112). -/
def snapBody (x : Snap) : List Byte :=
  let ns := namedChans x.objs
  time80 x.at_ ++ zeros 2 ++ leBytes 8 (x.seq.getD 0) ++ leBytes 1 ns.length ++ zeros 3 ++
    ns.flatMap (fun n => leBytes 1 n ++ zeros 7 ++ leBytes 8 (tgetD x.epochs n 0)) ++
    (List.range x.objs.length).flatMap (fun k => tgetD x.parts k [])

/-- The value bytes that a snapshot asks for (R67). -/
def State.snapBytes (s : State) (w : Who) (refs : List ObjRef) : Nat :=
  (refs.map (fun o => let e := s.look w 4096 o.idx o.sub false
    if e.1 = .ok then e.2.1.length else 0)).sum

/-- A snapshot that has been taken everywhere is answered (R67, R69). [DEDUCED: log entry 58] -/
def State.finishSnap (s : State) (ref : Nat) : State :=
  match tget s.ctl.snaps ref with
  | none => s
  | some x =>
    if x.seq.isNone || !x.missing.isEmpty then s
    else ({ s with ctl := { s.ctl with snaps := tdel s.ctl.snaps ref } } : State).answer x.ask .ok (snapBody x)

/-- A snapshot whose capture instant has come (R67, R68). [DEDUCED: log entry 58] -/
def State.takeSnap (s : State) (ref : Nat) : State :=
  match tget s.ctl.snaps ref with
  | none => s
  | some x =>
    if x.seq.isSome then s
    else
      let r := s.captureSnap x
      ({ r.2 with ctl := { r.2.ctl with snaps := tset r.2.ctl.snaps ref r.1 } } : State).finishSnap ref

/-- A snapshot whose instant is a boundary of a channel running here waits for that boundary, at which a commit of the same
epoch applies (R55, R68). -/
def State.snapReady (s : State) (x : Snap) : Bool :=
  x.refch == 0xFF || !(s.ch x.refch).running || decide (x.epoch ≤ (s.ch x.refch).epoch)

/-- The SNAPSHOT service (R67–R69, R112). Without other members an immediate snapshot is taken at the next tick, after what
falls due there. [DEDUCED: log entries 37, 58] -/
def State.snapshotService (s : State) (h : ReqHdr) (target : Target) (refs : List ObjRef) : State :=
  let req : Instr := .snapshot (bareHdr h) target refs
  s.request h { code := 0x30, req := req, objs := refs } (fun id t =>
    let a : Ask := ⟨id, h.txid, h.node, 0x30, h.path, req, h.udp, h.prio⟩
    let others := if t.cluster.role = 1 then t.members.filter (· != t.node) else []
    let now_ : Bool := target.kind == 0xFF
    let lead := if target.kind = 0 then t.nat 0x1200 1 * 1000 else 200
    let soon := (t.tick + 1) * 100
    let aim := if now_ then (Code.ok, if others.isEmpty then soon else tickUp (t.now + t.nat 0x1200 7 * 1000), 0)
      else t.aim target lead
    let x : Snap := { ask := a, objs := refs, at_ := aim.2.1, missing := others, refch := if now_ then 0xFF else target.refch,
                      epoch := aim.2.2 }
    let dry := t.captureSnap x
    if refs = [] then refuseWith .zero t
    else if 64 < refs.length ∨ 4096 < t.snapBytes (t.who id) refs then refuseWith .range t
    else if pathBody h.path < 4 + (snapBody dry.1).length then refuseWith .toobig t
    else if aim.1 = .late then refuseWith .late { t with od := odSetFlag t.od 0x1200 8 6 }
    else if aim.1 ≠ .ok then refuseWith aim.1 t
    else if (!now_ || !others.isEmpty) && !t.ttRoom 4 (aim.2.1 / 100) then refuseWith .busy t.ttBusy
    else
      let ref := (t.ctl.lastRef + 1) % 4294967296
      let t1 : State := { t with ctl := { t.ctl with lastRef := ref, snaps := tset t.ctl.snaps ref x },
                                 free := if !now_ && t.far target.refch then t.free + 2 else t.free }
      if now_ && others.isEmpty then (none, t1) else
      let t2 := t1.ttInsert ⟨aim.2.1 / 100, 4, target.refch, ref, id⟩
      (none, others.foldl (fun (u : State) m => u.say m 0x18 [id, h.txid, aim.2.1]) t2))

/-- A session that a manager's session has at this worker (R118, R120): opened by its first relayed request.
[DEDUCED: log entry 48] -/
def State.shadow (s : State) (session cls : Nat) : State :=
  let id := 4294967296 + session
  match tget s.ctl.sessions id with
  | some _ => s.onSession id (fun x => { x with cls := cls })
  | none => { s with ctl := { s.ctl with sessions := tset s.ctl.sessions id { path := 3, cls := cls, cred := 0 } } }

/-- The header of a message that comes over Carriageway rather than from a host. -/
def State.relayHdr (s : State) (h : ReqHdr) : ReqHdr :=
  let n := ((tget s.ctl.sessions (4294967296 + h.session)).map Session.rx).getD 0
  { h with path := 3, version := 1, node := s.node, counter := n + 1, auth := true, tagOk := true }

/-- SNAPSHOT (R67–R69): from a host, or (path 3) from the manager, which has checked the host's class. -/
def execSnapshot (h : ReqHdr) (target : Target) (refs : List ObjRef) (s : State) : Host.Outcome State Fault Refusal :=
  if h.path = 3 ∧ s.cluster.role = 2 then
    let s1 := s.shadow h.session 2
    .next (s1.snapshotService (s1.relayHdr h) target refs)
  else .next (s.snapshotService h target refs)

/-- SNAPSHOT_CAPTURE (R65, R68, R83): a capture whose tick has come is taken, or waits for its boundary, and its completion is
reported. [DEDUCED: log entry 58] -/
def State.snapshotDue (s : State) (ref : Nat) : State :=
  match (s.ttl 0).find? (fun e => e.kind == 4 && e.ref == ref && decide (e.due ≤ s.tick)) with
  | none => s
  | some e =>
    let s1 := s.ttRemove (fun d => d == e)
    let ready := (tget s.ctl.snaps ref).all s.snapReady
    (if ready then s1.takeSnap ref else s1).ttDone e 0

/-- SNAPSHOT_CAPTURE (R68). -/
def execSnapshotCapture (ref : Nat) (s : State) : Host.Outcome State Fault Refusal := .next (s.snapshotDue ref)

/-! Block transfers (R90, R113, R114) -/

/-- A session's open transfer changed. -/
def State.setXfer (s : State) (id : Nat) (x : Option Xfer) : State := s.onSession id (fun y => { y with xfer := x })

/-- BLOCK_INIT for reading (R113, R114, R597): the whole value is copied. -/
def State.blockRead (s : State) (w : Who) (o : ObjRef) : Code × List Byte × State :=
  if s.labOpen w o.idx then s.readObject w 16777216 o.idx o.sub true
  else match odRow o.idx o.sub with
  | none => (s.may w false o.idx o.sub, [], s)
  | some r =>
    if r.acc ≠ 2 ∧ r.ty ≠ 13 ∧ r.ty ≠ 14 ∧ s.may w false o.idx o.sub = .ok then (.range, [], s)
    else if o.idx = 0x1F02 ∧ o.sub = 2 ∧ s.may w false o.idx o.sub = .ok then
      match s.attest with
      | some a => (.ok, a)
      | none => (.range, [], s)
    else s.readObject w 16777216 o.idx o.sub true

/-- BLOCK_INIT for writing: its verdict (R92, R95, R113, R600). [DEDUCED: log entry 50] -/
def State.blockWriteCode (s : State) (id : Nat) (w : Who) (o : ObjRef) (set size : Nat) : Code :=
  let c := s.may w true o.idx o.sub
  if s.labOpen w o.idx then
    (if (Config.labObject o.idx o.sub).isNone then .noobject else if 16777216 < size then .range else .ok)
  else match odRow o.idx o.sub with
  | none => c
  | some r =>
    let k := s.stageSet id set
    if c ≠ .ok then c
    else if r.acc = 4 ∧ set = 0 then .stageonly
    else if r.pers = 2 ∧ (set ≠ 0 ∨ !fusedCommand o.idx o.sub) then .denied
    else if r.ty ≠ 13 ∧ r.ty ≠ 14 then .range
    else if r.ty = 13 ∧ size ≠ r.size then .length
    else if 16777216 < size then .range
    else if set ≠ 0 ∧ k ≠ .ok then k
    else if imageObject o ∧ s.imageBusy o.idx o.sub then .busy
    else .ok

/-- The BLOCK_INIT service (R113). A session's transfer always has XFER 1. [DESIGN CHOICE: log entry 107] -/
def State.blockInitService (s : State) (h : ReqHdr) (obj : ObjRef) (set dir size : Nat) : State :=
  s.request h { code := 0x40, req := .blockInit (bareHdr h) obj set dir size, objs := [obj], writes := dir == 1 } (fun id t =>
    let w := t.who id
    let seg := pathBody h.path - 8
    let start := fun (u : State) (write : Bool) (n : Nat) (b : List Byte) =>
      ((some (.ok, leBytes 1 1 ++ zeros 3 ++ leBytes 4 n ++ leBytes 4 seg),
        u.setXfer id (some { id := 1, obj := obj, set := set, write := write, size := n, segment := seg, data := b,
                             offset := 0, last := t.now })) : Answer)
    if ((tget t.ctl.sessions id).bind Session.xfer).isSome then refuseWith .busy t
    else if dir = 0 then
      let r := t.blockRead w obj
      if r.1 ≠ .ok then refuseWith r.1 t else start r.2.2 false r.2.1.length r.2.1
    else if dir = 1 then
      let c := t.blockWriteCode id w obj set size
      if c ≠ .ok then refuseWith c t else start t true size []
    else refuseWith .range t)

/-- BLOCK_INIT (R113, R114). -/
def execBlockInit (h : ReqHdr) (obj : ObjRef) (set : Nat) (dir : Nat) (size : Nat) (s : State) :
    Host.Outcome State Fault Refusal := .next (s.blockInitService h obj set dir size)

/-- The BLOCK_SEG service (R113): segments at consecutive offsets. [DEDUCED: log entry 50] -/
def State.blockSegService (s : State) (h : ReqHdr) (xfer offset : Nat) (data : List Byte) : State :=
  s.request h { code := 0x41, req := .blockSeg (bareHdr h) xfer offset data } (fun id t =>
    match (tget t.ctl.sessions id).bind Session.xfer with
    | none => refuseWith .sequence t
    | some x =>
      if x.id ≠ xfer ∨ offset ≠ x.offset then refuseWith .sequence t
      else if x.write then
        if data.length ≠ min x.segment (x.size - offset) then refuseWith .length t
        else (some (.ok, leBytes 4 offset), t.setXfer id (some { x with data := x.data ++ data,
                                                                         offset := offset + data.length, last := t.now }))
      else
        let b := (x.data.drop offset).take x.segment
        (some (.ok, leBytes 4 offset ++ b), t.setXfer id (some { x with offset := offset + b.length, last := t.now })))

/-- BLOCK_SEG (R113). -/
def execBlockSeg (h : ReqHdr) (xfer offset : Nat) (data : List Byte) (s : State) : Host.Outcome State Fault Refusal :=
  .next (s.blockSegService h xfer offset data)

/-- The BLOCK_END service (R114): the digest of what was read, or the digest checked and the object written or staged. A
mismatch closes the transfer. [DESIGN CHOICE: log entry 107] -/
def State.blockEndService (s : State) (h : ReqHdr) (xfer : Nat) (digest : List Byte) : State :=
  s.request h { code := 0x42, req := .blockEnd (bareHdr h) xfer digest } (fun id t =>
    match (tget t.ctl.sessions id).bind Session.xfer with
    | none => refuseWith .sequence t
    | some x =>
      let t1 := t.setXfer id none
      if x.id ≠ xfer ∨ (x.write = true ∧ x.offset ≠ x.size) then refuseWith .sequence t
      else if !x.write then (some (.ok, Config.shake256 32 x.data), t1)
      else if Config.shake256 32 x.data ≠ digest then refuseWith .digest t1
      else
        let r := t1.blockWrite id (t1.who id) h.path x
        let w := if x.obj.idx = 0x1F06 then ownerWho (t1.who id) x.data else t1.who id
        if r.wait.isSome then
          r.finish ⟨id, h.txid, h.node, 0x42, h.path, .blockEnd (bareHdr h) xfer digest, h.udp, h.prio⟩ w []
        else (some ((r.codes.find? (· ≠ .ok)).getD .ok, []), r.st))

/-- BLOCK_END (R114). -/
def execBlockEnd (h : ReqHdr) (xfer : Nat) (digest : List Byte) (s : State) : Host.Outcome State Fault Refusal :=
  .next (s.blockEndService h xfer digest)

/-- BLOCK_TRANSFER_TIMEOUT (R113): no segment for 2 s. -/
def execBlockTransferTimeout (session : Nat) (s : State) : Host.Outcome State Fault Refusal :=
  match (tget s.ctl.sessions session).bind Session.xfer with
  | none => .next s
  | some x => if s.now < x.last + 2000000000 then .next s else .next (s.setXfer session none)

/-! Subscriptions (R115–R117) -/

/-- What an object shows to a subscription: status and value bytes. [DEDUCED: log entry 51] -/
def State.shown (s : State) (w : Who) (o : ObjRef) : (Nat × List Byte) × State :=
  let r := s.look w 4096 o.idx o.sub false
  ((r.1.value, r.2.1), r.2.2)

/-- The SUBSCRIBE service (R115, R133). [DEDUCED: log entry 51] -/
def State.subscribeService (s : State) (h : ReqHdr) (kind period mask : Nat) (obj : ObjRef) : State :=
  let objs := if kind = 3 then [] else [obj]
  s.request h { code := 0x50, req := .subscribe (bareHdr h) kind period mask obj, objs := objs } (fun id t =>
    let subs := ((tget t.ctl.sessions id).map Session.subs).getD []
    let seen := t.shown (t.who id) obj
    let c := t.may (t.who id) false obj.idx obj.sub
    let wo : Bool := (odRow obj.idx obj.sub).any (fun r => r.acc == 2)
    if kind < 1 ∨ 3 < kind then refuseWith .range t
    else if kind = 2 ∧ period = 0 then refuseWith .zero t
    else if kind ≠ 3 ∧ c ≠ .ok ∧ !t.labOpen (t.who id) obj.idx then refuseWith c t
    else if kind ≠ 3 ∧ wo then refuseWith .writeonly t
    else if 256 ≤ subs.length then refuseWith .range t
    else
      let n := (((List.range 255).map (· + 1)).find? (fun k => !subs.any (fun u => u.id == k))).getD 0
      let t1 := if kind = 3 then t else seen.2
      let u : Subscription := { id := n, kind := kind, period := period, mask := mask, obj := obj, last := t.now,
                                seen := if kind = 3 then (0, []) else seen.1 }
      (some (.ok, leBytes 1 n ++ zeros 3), t1.onSession id (fun y => { y with subs := y.subs ++ [u] })))

/-- SUBSCRIBE (R115). -/
def execSubscribe (h : ReqHdr) (kind period mask : Nat) (obj : ObjRef) (s : State) : Host.Outcome State Fault Refusal :=
  .next (s.subscribeService h kind period mask obj)

/-- The UNSUBSCRIBE service (R106). A SUBID that the session does not hold is refused with RANGE.
[DESIGN CHOICE: log entry 107] -/
def State.unsubscribeService (s : State) (h : ReqHdr) (subid : Nat) : State :=
  s.request h { code := 0x51, req := .unsubscribe (bareHdr h) subid } (fun id t =>
    let subs := ((tget t.ctl.sessions id).map Session.subs).getD []
    if !subs.any (fun u => u.id == subid) then refuseWith .range t
    else (some (.ok, []), t.onSession id (fun y => { y with subs := y.subs.filter (fun u => u.id != subid) })))

/-- UNSUBSCRIBE (R106). -/
def execUnsubscribe (h : ReqHdr) (subid : Nat) (s : State) : Host.Outcome State Fault Refusal :=
  .next (s.unsubscribeService h subid)

/-- A subscription's notice with the object as it stands (R115, R116); `last` is its new instant. [DEDUCED: log entry 51] -/
def State.objectNotice (s : State) (id : Nat) (u : Subscription) (v : Nat × List Byte) (last : Nat) : State :=
  let e := leBytes 2 v.1 ++ leBytes 2 v.2.length ++ time80 (s.capturedAt u.obj.idx u.obj.sub) ++ zeros 2 ++ padded v.2
  (s.notify id u.id u.kind s.now e).onSession id (fun y =>
    { y with subs := y.subs.map (fun w => if w.id = u.id then { w with last := last, seen := v } else w) })

/-- PERIODIC_NOTICE (R115): a period of a periodic subscription has ended. -/
def execPeriodicNotice (session subid : Nat) (s : State) : Host.Outcome State Fault Refusal :=
  match ((tget s.ctl.sessions session).map Session.subs).bind (fun l => l.find? (fun u => u.id == subid && u.kind == 2)) with
  | none => .next s
  | some u =>
    if s.now < u.last + u.period * 1000000 then .next s
    else
      let v := s.shown (s.who session) u.obj
      .next (v.2.objectNotice session u v.1 (u.last + u.period * 1000000))

/-- The change notices due in a session (R115): an object that differs from what its subscription last showed, at most once
a PERIOD. [DEDUCED: log entry 51] -/
def State.changeNotices (s : State) (id : Nat) : State :=
  let subs := ((tget s.ctl.sessions id).map Session.subs).getD []
  (subs.filter (fun u => u.kind == 1 && decide (u.last + u.period * 1000000 ≤ s.now))).foldl (fun (t : State) u =>
    let v := t.shown (t.who id) u.obj
    if v.1 = u.seen then t else v.2.objectNotice id u v.1 t.now) s

/-! STORE (R95–R98, R600) -/

/-- The stored objects in force (R95, R96). [DEDUCED: log entry 54] -/
def State.storedNow (s : State) : Tab Val := s.od.filter (fun kv => storedObject (kv.1 / 256) (kv.1 % 256))

/-- The STORE service (R96): answered when the flash write has ended. -/
def State.storeService (s : State) (h : ReqHdr) : State :=
  let req : Instr := .store (bareHdr h)
  s.request h { code := 0x60, req := req } (fun id t =>
    if !t.mayUse (t.who id) 2 0x1104 then refuseWith .denied t
    else if t.ctl.storing.isSome ∨ t.imageOpen then refuseWith .busy t
    else
      let gen := ((t.newestStored.map (fun x => x.2.gen)).getD 0 + 1) % 4294967296
      let img : StoredImage := { gen := gen, vals := t.storedNow, sealedP := t.sec.provisionings, good := true }
      let a : Ask := ⟨id, h.txid, h.node, 0x60, h.path, req, h.udp, h.prio⟩
      (none, { t with ctl := { t.ctl with storing := some (a, img) } }))

/-- STORE (R96). -/
def execStore (h : ReqHdr) (s : State) : Host.Outcome State Fault Refusal := .next (s.storeService h)

/-- STORE_COMPLETE (R96): the older slot holds the new image, or the flash has failed.
[DEDUCED: log entry 53; DESIGN CHOICE: log entry 98] -/
def execStoreComplete (success : Bool) (s : State) : Host.Outcome State Fault Refusal :=
  match s.ctl.storing with
  | none => .next s
  | some (a, img) =>
    let toB : Bool := s.newestStored.any (fun x => x.1 == 1)
    let i := some { img with good := success }
    let c := { s.ctl with storing := none, slotA := if toB then s.ctl.slotA else i, slotB := if toB then i else s.ctl.slotB }
    let s1 : State := { s with ctl := c }
    if success then .next (((s1.put 0x1104 1 img.gen).put 0x1104 2 0).answer a .ok (leBytes 4 img.gen))
    else .next ((s1.put 0x1104 2 Code.storefail.value).answer a .storefail [])

/-- The CLEAR_STORE service (R98). -/
def State.clearStoreService (s : State) (h : ReqHdr) : State :=
  s.request h { code := 0x61, req := .clearStore (bareHdr h) } (fun id t =>
    if !t.mayUse (t.who id) 2 0x1104 then refuseWith .denied t
    else if t.ctl.storing.isSome then refuseWith .busy t
    else (some (.ok, []), { t with ctl := { t.ctl with slotA := none, slotB := none } }))

/-- CLEAR_STORE (R98). -/
def execClearStore (h : ReqHdr) (s : State) : Host.Outcome State Fault Refusal := .next (s.clearStoreService h)

/-! Relayed requests (R118–R120) -/

/-- A relayed request executed at its worker. [DEDUCED: log entry 48] -/
def State.relayed (s : State) : Instr → State
  | .read h refs => s.readService (s.relayHdr h) refs
  | .write h entries => s.writeService (s.relayHdr h) entries
  | .describe h obj => s.describeService (s.relayHdr h) obj
  | .openSet h => s.openSetService (s.relayHdr h)
  | .stage h set entries => s.stageService (s.relayHdr h) set entries
  | .readStaged h set refs => s.readStagedService (s.relayHdr h) set refs
  | .commit h set target => s.commitService (s.relayHdr h) set target
  | .abort h set => s.abortService (s.relayHdr h) set
  | .discard h set => s.discardService (s.relayHdr h) set
  | .snapshot h target refs => s.snapshotService (s.relayHdr h) target refs
  | .blockInit h obj set dir size => s.blockInitService (s.relayHdr h) obj set dir size
  | .blockSeg h xfer offset data => s.blockSegService (s.relayHdr h) xfer offset data
  | .blockEnd h xfer digest => s.blockEndService (s.relayHdr h) xfer digest
  | .subscribe h kind period mask obj => s.subscribeService (s.relayHdr h) kind period mask obj
  | .unsubscribe h subid => s.unsubscribeService (s.relayHdr h) subid
  | .store h => s.storeService (s.relayHdr h)
  | .clearStore h => s.clearStoreService (s.relayHdr h)
  | _ => s

/-- The read entries of a response, one by one (R107). -/
def splitEntries : Nat → List Byte → List (List Byte)
  | 0, _ => []
  | n + 1, b =>
    let size := 16 + ceilDiv (leNat ((b.drop 2).take 2)) 4 * 4
    b.take size :: splitEntries n (b.drop size)

/-- A worker's answer to a read of several objects, with the cluster value in place of its own wherever an object is
cluster-wide (R119). [DEDUCED: log entry 48] -/
def State.mixEntries (s : State) (w : Who) (refs : List ObjRef) (body : List Byte) : List Byte × State :=
  let r := (refs.zip (splitEntries refs.length (body.drop 4))).foldl (fun (a : List Byte × State) oe =>
    if clusterWide oe.1 then
      let e := a.2.readObject w 4096 oe.1.idx oe.1.sub false
      (a.1 ++ readEntry e.1 (s.capturedAt oe.1.idx oe.1.sub) e.2.1, e.2.2)
    else (a.1 ++ oe.2, a.2)) (([], s) : List Byte × State)
  (body.take 4 ++ r.1, r.2)

/-- What a manager passes on of a worker's answer (R118, R119). -/
def State.relayedBody (s : State) (a : Ask) (body : List Byte) : List Byte × State :=
  match a.req with
  | .read _ refs => s.mixEntries (s.who a.session) refs body
  | .readStaged _ _ refs => s.mixEntries (s.who a.session) refs body
  | _ => (body, s)

/-- RELAY_RSP (R103, R118, R119): the manager returns a worker's answer to the session. -/
def execRelayRsp (node session txid status : Nat) (body : List Byte) (s : State) : Host.Outcome State Fault Refusal :=
  match s.ctl.relays.find? (fun r => r.ask.session == session && r.ask.txid == txid && r.ask.node == node) with
  | none => .next s
  | some r =>
    let s1 : State := { s with ctl := { s.ctl with relays := s.ctl.relays.filter (fun q => q != r) } }
    if Code.ofValue status ≠ .ok then .next (s1.answer r.ask (Code.ofValue status) body)
    else
      let m := s1.relayedBody r.ask body
      if pathBody r.ask.path < 4 + m.1.length then .next (m.2.answer r.ask .toobig []) else .next (m.2.answer r.ask .ok m.1)

/-- The session that a relayed request came on. -/
def relaySession : Instr → Option Nat
  | .read h _ => some h.session
  | .write h _ => some h.session
  | .describe h _ => some h.session
  | .openSet h => some h.session
  | .stage h _ _ => some h.session
  | .readStaged h _ _ => some h.session
  | .commit h _ _ => some h.session
  | .abort h _ => some h.session
  | .discard h _ => some h.session
  | .snapshot h _ _ => some h.session
  | .blockInit h _ _ _ _ => some h.session
  | .blockSeg h _ _ _ => some h.session
  | .blockEnd h _ _ => some h.session
  | .subscribe h _ _ _ _ => some h.session
  | .unsubscribe h _ => some h.session
  | .store h => some h.session
  | .clearStore h => some h.session
  | _ => none

/-- RELAY (R118): a worker executes a request of a session of its manager, whose class comes with it.
[DEDUCED: log entry 48] -/
def execRelay (cls : Nat) (req : Instr) (s : State) : Host.Outcome State Fault Refusal :=
  if s.cluster.role ≠ 2 ∨ !s.cluster.joined then .next s
  else match relaySession req with
    | none => .next s
    | some id => .next ((s.shadow id cls).relayed req)

end Sys2Proof.Machine
end

