-- ==== Sys2Proof/Machine/Gatehouse.lean ====
section
/-! DEFINITION. Gatehouse.lean: the bytes of a request as the mailbox and CAN FD bring them, and BAR0 (R100–R107, R111–R115,
R122–R128, R164, R370, R371, R580). -/

namespace Sys2Proof.Machine

/-! Request bodies (R106, R107, R111) -/

/-- The object references that bytes spell, `n` of them (R107). -/
def parseRefs : Nat → List Byte → Option (List ObjRef)
  | 0, b => if b = [] then some [] else none
  | n + 1, b =>
    if b.length < 4 then none
    else (parseRefs n (b.drop 4)).map (fun l => ⟨leNat (b.take 2), leNat ((b.drop 2).take 1)⟩ :: l)

/-- One object reference. -/
def parseRef (b : List Byte) : ObjRef := ⟨leNat (b.take 2), leNat ((b.drop 2).take 1)⟩

/-- KIND, REFCH and the 10 bytes of TARGET (R111). -/
def parseTarget (kind refch : Nat) (b : List Byte) : Target :=
  ⟨kind, refch, if kind = 1 then ofTime80 b else if kind = 2 then leNat (b.take 8) else 0⟩

/-- A request whose body has been taken apart: it reaches its service. A body that does not agree with its service's layout
is MALFORMED, and another service UNSUPPORTED (R106, R131). -/
def State.runRequest (s : State) (h : ReqHdr) (service : Nat) (b : List Byte) : State :=
  let bad : ReqHdr := { h with bodyOk := false }
  let u8 := fun (k : Nat) => leNat ((b.drop k).take 1)
  let u16 := fun (k : Nat) => leNat ((b.drop k).take 2)
  let u32 := fun (k : Nat) => leNat ((b.drop k).take 4)
  let fits := fun (n : Nat) => if b.length = n then h else bad
  match service with
  | 0x01 => s.helloService (if b.length < 4 then bad else h) (u8 0) (u8 1) (u8 2) (b.drop 4)
  | 0x02 => s.closeService (fits 0)
  | 0x10 => match parseRefs (u8 0) (b.drop 4) with
    | some l => s.readService (if b.length < 4 then bad else h) l
    | none => s.readService bad []
  | 0x11 => match parseEntries (u8 0) (b.drop 4) with
    | some l => s.writeService (if b.length < 4 then bad else h) l
    | none => s.writeService bad []
  | 0x12 => s.describeService (fits 4) (parseRef b)
  | 0x20 => s.openSetService (fits 0)
  | 0x21 => match parseEntries (u8 1) (b.drop 4) with
    | some l => s.stageService (if b.length < 4 then bad else h) (u8 0) l
    | none => s.stageService bad (u8 0) []
  | 0x22 => match parseRefs (u8 1) (b.drop 4) with
    | some l => s.readStagedService (if b.length < 4 then bad else h) (u8 0) l
    | none => s.readStagedService bad (u8 0) []
  | 0x23 => s.commitService (fits 14) (u8 0) (parseTarget (u8 1) (u8 2) (b.drop 4))
  | 0x24 => s.abortService (fits 4) (u8 0)
  | 0x25 => s.discardService (fits 4) (u8 0)
  | 0x30 => match parseRefs (u8 2) (b.drop 14) with
    | some l => s.snapshotService (if b.length < 14 then bad else h) (parseTarget (u8 0) (u8 1) (b.drop 4)) l
    | none => s.snapshotService bad (parseTarget (u8 0) (u8 1) (b.drop 4)) []
  | 0x40 => s.blockInitService (fits 12) (parseRef b) (u8 4) (u8 5) (u32 8)
  | 0x41 => s.blockSegService (if b.length < 8 then bad else h) (u8 0) (u32 4) (b.drop 8)
  | 0x42 => s.blockEndService (fits 36) (u8 0) (b.drop 4)
  | 0x50 => s.subscribeService (fits 12) (u8 0) (u16 2) (u32 4) (parseRef (b.drop 8))
  | 0x51 => s.unsubscribeService (fits 4) (u8 0)
  | 0x60 => s.storeService (fits 0)
  | 0x61 => s.clearStoreService (fits 0)
  | n => s.request h { code := n, req := .blockSeg (bareHdr h) 0 0 b } (fun _ t => refuseWith .unsupported t)

/-- The bytes of a message reach the Gatehouse by the mailbox (path 2) or as CAN FD frames of a priority (path 1): it is
discarded, or runs as the request that it spells. A request has no FLAGS but AUTH. [DEDUCED: log entry 57] -/
def State.receive (s : State) (path prio : Nat) (b : List Byte) : State :=
  let drop := if path = 2 then s.mailGo (fun t => t.discard 4) else s.discard 4
  match parseMessage b with
  | none => drop
  | some (version, x, len, body, tag) =>
    if x.flags ≠ 0 ∧ x.flags ≠ 16 then drop
    else
      let key := ((tget s.ctl.sessions x.session).map Session.keyHd).getD []
      let h : ReqHdr := { path := path, version := version, node := x.node, txid := x.txid, session := x.session,
                          counter := x.counter, length := len, auth := bit x.flags 4,
                          tagOk := decide (tag = sopTag key (b.take (20 + len))), bodyOk := true, prio := prio }
      s.runRequest h x.service body

/-! The mailbox (R126–R128) -/

/-- A request length that the buffer holds (R126). -/
def mbxLenOk (n : Nat) : Bool := decide (n ≤ 4096)

/-- The bytes of the request buffer (R126). -/
def Mailbox.request (m : Mailbox) : List Byte :=
  ((List.range (ceilDiv m.reqLen 4)).flatMap (fun k => leBytes 4 (tgetD m.req (4 * k) 0))).take m.reqLen

/-- MBX_STATUS (R127). -/
def Mailbox.status (m : Mailbox) : Nat := b2n m.busy + 2 * b2n m.rspValid + 4 * b2n m.ntcValid + 8 * b2n m.overrun

/-- GO (R126–R128): the request buffer is taken as a request; one that is longer than the buffer is discarded. BUSY is set
either way, until RSP_VALID sets. [DEDUCED: log entry 57] -/
def State.mbxGo (s : State) : State :=
  if mbxLenOk s.ctl.mbx.reqLen then s.receive 2 0 s.ctl.mbx.request else s.mailGo (fun t => t.discard 4)

/-- MBX_GO (R127, R128): MBX_CTRL is written; GO hands the request buffer to the device. With the mailbox disabled a GO does
nothing, and neither BUSY nor OVERRUN is set. [DESIGN CHOICE: log entry 107] -/
def execMbxGo (ctrl : Nat) (s : State) : Host.Outcome State Fault Refusal :=
  let s1 : State := { s with ctl := { s.ctl with mbx := { s.ctl.mbx with rspIrqEn := bit ctrl 1, ntcIrqEn := bit ctrl 2 } } }
  if s.mode = .dormant ∨ s.lodge.held = true then .next s
  else if bit ctrl 0 = true ∧ s.flag 0x1103 1 = true then .next s1.mbxGo
  else .next s1

/-- RSP_VALID is cleared, and a waiting response follows (R127, R128). -/
def State.mbxRspClear (s : State) : State :=
  let m := s.ctl.mbx
  if !m.rspValid then s
  else
    let m1 := { m with rspValid := false, rsp := [], rspLen := 0, waiting := m.waiting.tail }
    let s1 : State := { s with ctl := { s.ctl with mbx := m1 } }
    match m.waiting with
    | [] => s1
    | r :: _ => s1.mailResponse r

/-- MBX_RSP_CLEAR (R127, R128). -/
def execMbxRspClear (s : State) : Host.Outcome State Fault Refusal := .next s.mbxRspClear

/-- NTC_VALID is cleared, and the next notice of a mailbox session follows (R127, R128); of several such sessions the one with
the least number comes first. [DESIGN CHOICE: log entry 107] -/
def State.mbxNtcClear (s : State) : State :=
  let m := s.ctl.mbx
  if !m.ntcValid then s
  else
    let s1 : State := { s with ctl := { s.ctl with mbx := { m with ntcValid := false, ntc := [], ntcLen := 0 } } }
    match s.ctl.sessions.find? (fun kv => kv.2.path == 2 && !kv.2.queue.isEmpty) with
    | some kv => s1.deliver kv.1
    | none => s1

/-- MBX_NTC_CLEAR (R127, R128). -/
def execMbxNtcClear (s : State) : Host.Outcome State Fault Refusal := .next s.mbxNtcClear

/-- MBX_STATUS written (R126, R127): a 1 clears RSP_VALID, NTC_VALID or OVERRUN. -/
def State.mbxStatusWrite (s : State) (value : Nat) : State :=
  let s1 : State := { s with ctl := { s.ctl with mbx := { s.ctl.mbx with overrun := s.ctl.mbx.overrun && !bit value 3 } } }
  let s2 := if bit value 1 then s1.mbxRspClear else s1
  if bit value 2 then s2.mbxNtcClear else s2

/-- A write in the mailbox's 16 KiB (R126): the request buffer, MBX_REQ_LEN and MBX_STATUS; MBX_CTRL has a row of its own. -/
def State.mbxRegister (s : State) (off value : Nat) : State :=
  let m := s.ctl.mbx
  let set := fun (x : Mailbox) => ({ s with ctl := { s.ctl with mbx := x } } : State)
  if off < 0x1000 then set { m with req := tset m.req off value }
  else if off = 0x3008 then set { m with reqLen := value }
  else if off = 0x3004 then s.mbxStatusWrite value
  else s

/-- What a word of the mailbox reads as (R126, R127). -/
def Mailbox.read (m : Mailbox) (off : Nat) : Nat :=
  if off < 0x1000 then tgetD m.req off 0
  else if off < 0x2000 then leNat ((m.rsp.drop (off - 0x1000)).take 4)
  else if off < 0x3000 then leNat ((m.ntc.drop (off - 0x2000)).take 4)
  else match off with
    | 0x3000 => 2 * b2n m.rspIrqEn + 4 * b2n m.ntcIrqEn
    | 0x3004 => m.status
    | 0x3008 => m.reqLen
    | 0x300C => m.rspLen
    | 0x3010 => m.ntcLen
    | _ => 0

/-! CAN FD (R122–R124) -/

/-- The key of a frame's message. -/
def CanFrame_key (f : CanFrame) : CanKey := ⟨f.prio, f.busaddr, f.node, f.service⟩

/-- The last piece of a message that still lacks `rest` bytes (R124): the smallest data length that holds them, padded with
zeros. -/
def lastPiece (data : List Byte) (rest : Nat) : Bool :=
  decide (rest ≤ data.length) && data.length == canSize rest && (data.drop rest).all (· == 0)

/-- A whole CAN FD message (R123, R124): its NODE and SERVICE are those of its frames, or it is discarded. -/
def State.canMessage (s : State) (f : CanFrame) (b : List Byte) : State :=
  let s1 : State := { s with ctl := { s.ctl with canWhole := b } }
  if leNat ((b.drop 2).take 1) ≠ f.service ∨ leNat ((b.drop 3).take 1) ≠ f.node then s1.discard 4 else s1.receive 1 f.prio b

/-- CAN_FRAME_RECEIVED (R103, R122–R124): a frame for this device adds its piece to the message it belongs to; a wrong SEQ
discards the message, and the last piece hands it to the Gatehouse. [DEDUCED: log entries 32, 57] -/
def execCanFrameReceived (f : CanFrame) (s : State) : Host.Outcome State Fault Refusal :=
  let key := CanFrame_key f
  let rest := s.ctl.can.filter (fun m => m.key != key)
  let old := s.ctl.can.find? (fun m => m.key == key)
  let set := fun (l : List CanMsg) => ({ s with ctl := { s.ctl with can := l } } : State)
  if !f.fd ∨ !f.ext ∨ f.rtr ∨ f.dir ≠ 0 ∨ f.busaddr ≠ s.nat 0x1101 2 ∨ !s.flag 0x1101 1 ∨ s.mode = .dormant ∨
      s.lodge.held ∨ f.service = 0x7F then .next s
  else if !canSizes.contains f.data.length then .next ((set rest).discard 4)
  else
    let total := if f.seq = 0 then 20 + leNat ((f.data.drop 4).take 2) + (if bit (f.data.getD 1 0).toNat 4 then 16 else 0)
      else (old.map CanMsg.total).getD 0
    let so := if f.seq = 0 then [] else (old.map CanMsg.data).getD []
    let next := if f.seq = 0 then 0 else (old.map CanMsg.next).getD 32
    if f.seq ≠ next ∨ (f.seq = 0 ∧ f.data.length < 20) ∨ 2048 < total then .next ((set rest).discard 4)
    else if total ≤ so.length + 64 then
      if lastPiece f.data (total - so.length) then .next ((set rest).canMessage f ((so ++ f.data).take total))
      else .next ((set rest).discard 4)
    else if f.data.length ≠ 64 then .next ((set rest).discard 4)
    else .next (set (rest ++ [{ key := key, next := f.seq + 1, data := so ++ f.data, total := total, last := s.now }]))

/-- CAN_MESSAGE_TIMEOUT (R124, R129): the next frame has not come within 10 ms. -/
def execCanMessageTimeout (f : CanKey) (s : State) : Host.Outcome State Fault Refusal :=
  match s.ctl.can.find? (fun m => m.key == f) with
  | none => .next s
  | some m =>
    if s.now < m.last + 10000000 then .next s
    else .next (({ s with ctl := { s.ctl with can := s.ctl.can.filter (fun k => k.key != f) } } : State).discard 4)

/-! BAR0 (R126, R127, R164, R370) -/

/-- FENCE_VALUE_WRITE (R164): the fence value of layer `layer` of a channel, or of its slate (16), comes into force at the
next tick. [DEDUCED: log entry 40] -/
def execFenceValueWrite (chan layer value : Nat) (s : State) : Host.Outcome State Fault Refusal :=
  if 128 ≤ chan ∨ 16 < layer then .fault .noSuchUnit
  else if s.mode = .dormant ∨ s.lodge.held then .next s
  else
    let key := if layer = 16 then okey (chI chan 6) 3 else okey (layI chan layer 0) 13
    .next (s.later key (.num (value % 4294967296 : Nat)) ⟨1, 0xFF, 0, none⟩ [] false)

/-- REGISTER_WRITE (R126, R127, R370, R371): a 32-bit BAR0 register with no row of its own. A ring's base or size written
while the ring is enabled, or an invalid size, records CFGERR. -/
def execRegisterWrite (offset value : Nat) (s : State) : Host.Outcome State Fault Refusal :=
  let v := value % 4294967296
  if offset % 4 ≠ 0 ∨ s.mode = .dormant ∨ s.lodge.held then .next s
  else if 0x10000 ≤ offset ∧ offset < 0x14000 then .next (s.mbxRegister (offset - 0x10000) v)
  else if 0x30000 ≤ offset ∧ offset < 0x30400 then
    .next (ringRegister ((offset - 0x30000) / 32) (offset % 32) v s)
  else .next s

/-- What a 32-bit BAR0 register reads as (R126, R127, R164, R370, R371). -/
def State.bar0 (s : State) (offset : Nat) : Nat :=
  if 0x10000 ≤ offset ∧ offset < 0x14000 then s.ctl.mbx.read (offset - 0x10000)
  else if 0x20000 ≤ offset ∧ offset < 0x22000 then s.nat (layI ((offset - 0x20000) / 64) ((offset - 0x20000) / 4 % 16) 0) 13
  else if 0x22000 ≤ offset ∧ offset < 0x22200 then s.nat (chI ((offset - 0x22000) / 4) 6) 3
  else if 0x30000 ≤ offset ∧ offset < 0x30400 then s.ringRead ((offset - 0x30000) / 32) (offset % 32)
  else 0

end Sys2Proof.Machine
end

