-- ==== Sys2Proof/Machine/Protocol.lean ====
section
/-! DEFINITION. Protocol.lean: the messages of two-phase commits and snapshots between coordinator and members, and the arm
deadline (R35, R69–R77, R111, R489). -/

namespace Sys2Proof.Machine

/-! PREPARE and its answers (R70, R75) -/

/-- The writes that PREPARE carries. [DEDUCED: log entry 46] -/
def preparedWrites (l : List WriteEnt) : Tab Val :=
  l.foldl (fun m e => tset m (okey e.obj.idx e.obj.sub) (entryVal e.obj.idx e.obj.sub e.len e.val)) []

/-- REFUSED to a coordinator (R70): the set, the error code and the offending object. -/
def State.sayRefused (s : State) (c set : Nat) (code : Code) (key : Nat) : State :=
  s.say c 0x12 [set, code.value, key]

/-- This device's coordinator in a cluster (the manager) or a pair (the peer) is the one named. -/
def State.coordinatedBy (s : State) (c : Nat) : Bool :=
  (s.cluster.role == 2 && c == 0) || (c == 0x10 && pairShared s.od && s.pair.link)

/-- The members of a set prepared here: the workers of a peer manager (R75). -/
def State.subMembers (s : State) (c : Nat) (w : Tab Val) : List Nat := if c = 0x10 then s.workersOf w else []

/-- The first write of a single-object commit that the state in force, or a set armed here, would not bear (R45). -/
def State.rwRefusal (s : State) (w : Tab Val) : Bad :=
  w.findSome? (fun kv =>
    if nextStart (kv.1 / 256) (kv.1 % 256) then none
    else
      let c := s.rwCode (kv.1 / 256) (kv.1 % 256) kv.2
      if c = .ok then none else some (c, kv.1))

/-- The target that PREPARE names (R75, R77): T itself, or the epoch of the reference channel. -/
def State.preparedAim (s : State) (t : Target) : Code × Nat × Nat :=
  if t.refch = 0xFF then (if t.value ≤ s.now then .late else .ok, t.value, 0) else s.aim t 0

/-- The sets that a coordinator prepares on its members: its own 1–8, the start commit's, and those of single-object commits; a
manager prepares its peer's too (R70, R75). -/
def coordSet (coordinator k : Nat) : Bool :=
  if coordinator = 0x10 then (decide (1 ≤ k) && decide (k ≤ 8)) || rwSets.contains k else !noSet k

/-- A set prepared here (R70): validated and armed exactly as a solo device does, with its own members asked in turn. A slot
that holds a set of a session of this device is BUSY (R80). [DEDUCED: log entry 46] -/
def State.prepareSet (s : State) (c set : Nat) (w : Tab Val) (t : Target) : State :=
  let k := if c = 0x10 then set + 8 else set
  let x := s.set k
  if x.state = 1 ∨ x.armed = true ∨ (x.state ≠ 0 ∧ x.coordinator.isNone = true) then s.sayRefused c set .busy 0
  else match if rwSets.contains set then s.rwRefusal w else none with
  | some b => s.sayRefused c set b.1 b.2
  | none =>
    let ms := s.subMembers c w
    let s1 := s.setSet k { state := 1, orphan := true, writes := w, coordinator := some c,
                           members := ms.map (fun m => (m, MemberArm.asked)) }
    let r := s1.armSet k (s1.preparedAim t) t.refch 3
    if r.1 ≠ .ok then r.2.sayRefused c set r.1 ((r.2.set k).offending % 268435456)
    else if ms.isEmpty then r.2.say c 0x11 [set]
    else ms.foldl (fun (u : State) m => u.sayPrepare k m) r.2

/-- PREPARE (R70, R75): the coordinator (node 0, or 0x10 for the peer) asks this member to arm a set.
[DEDUCED: log entry 46] -/
def execPrepare (coordinator set : Nat) (entries : List WriteEnt) (target : Target) (s : State) :
    Host.Outcome State Fault Refusal :=
  if 16 < coordinator ∨ coordSet coordinator set = false then .fault .noSuchUnit
  else if !s.coordinatedBy coordinator then .next s
  else .next (s.prepareSet coordinator set (preparedWrites entries) target)

/-- A set all of whose members are armed (R70, R111): the host gets its answer, or the coordinator does. -/
def State.armedAll (s : State) (k : Nat) : State :=
  let x := s.set k
  if !x.allArmed then s
  else match x.coordinator with
    | none => s.replySet k
    | some c => s.say c 0x11 [x.coordNumber k]

/-- ARMED (R70). Node 0x10 is the peer. -/
def execArmed (node set : Nat) (s : State) : Host.Outcome State Fault Refusal :=
  if 16 < node ∨ noSet set = true then .fault .noSuchUnit
  else
    let x := s.set set
    if x.armed && tget x.members node == some .asked then
      .next ((s.setSet set { x with members := tset x.members node .armed }).armedAll set)
    else .next s

/-- A member has refused (R70, R82): the commit is aborted everywhere with the member's error code, its node and the
offending object, for reason 0x03, or 0x07 where the member is the peer. [DESIGN CHOICE: log entry 47] -/
def State.memberRefused (s : State) (node k : Nat) (c : Code) (key : Nat) : State :=
  let x := s.set k
  let s1 := (s.endSetWith k 4 (if node = 0x10 then 7 else 3) c (node % 16 * 268435456 + key)).replySet k
  match x.coordinator with
  | some up => s1.sayRefused up (x.coordNumber k) c key
  | none => s1

/-- REFUSED (R70). -/
def execRefused (node set : Nat) (code : Nat) (obj : ObjRef) (s : State) : Host.Outcome State Fault Refusal :=
  if 16 < node ∨ noSet set = true then .fault .noSuchUnit
  else
    let x := s.set set
    if x.armed = true ∧ (tget x.members node).isSome = true then
      .next (s.memberRefused node set (Code.ofValue code) (okey (obj.idx % 65536) (obj.sub % 256)))
    else .next s

/-! The arm deadline (R59, R70, R489) -/

/-- A set's arm deadline (R70): a lost peer is no member any more (R489); an answer still missing aborts the commit with reason
0x04. -/
def State.armDeadline (s : State) (k : Nat) : State :=
  let x0 := s.set k
  let x := if s.pair.live then x0 else { x0 with members := tdel x0.members 0x10 }
  if !x0.armed || decide (s.now + x0.lead < x0.due) || !x0.members.any (fun m => m.2 == MemberArm.asked) then s
  else if x.allArmed then (s.setSet k x).armedAll k
  else (s.endSet k 4 4).replySet k

/-- ARM_DEADLINE (R59, R70). -/
def execArmDeadline (set : Nat) (s : State) : Host.Outcome State Fault Refusal :=
  if noSet set = true then .fault .noSuchUnit else .next (s.armDeadline set)

/-! Readiness and decision (R71, R72) -/

/-- A member's report at the ready point of the target in force (R71). -/
def State.memberReport (s : State) (node k : Nat) (r : MemberArm) : State :=
  let x := s.set k
  let waiting := x.armed && !x.readyPassed && decide (x.due ≤ s.now + 100000) &&
    (tget x.members node == some .armed || tget x.members node == some .asked)
  if waiting then (s.setSet k { x with members := tset x.members node r }).reportUp k else s

/-- READY (R71). -/
def execReady (node set : Nat) (s : State) : Host.Outcome State Fault Refusal :=
  if 16 < node ∨ noSet set = true then .fault .noSuchUnit else .next (s.memberReport node set .ready)

/-- NOT_READY (R71). -/
def execNotReady (node set : Nat) (s : State) : Host.Outcome State Fault Refusal :=
  if 16 < node ∨ noSet set = true then .fault .noSuchUnit else .next (s.memberReport node set .notReady)

/-- The set of this device that a decision of its coordinator concerns. [DESIGN CHOICE: log entry 47] -/
def State.decidedSet (s : State) (set : Nat) : Option Nat :=
  [(set, 0), (set + 8, 0x10)].findSome? (fun kc =>
    if (s.set kc.1).coordinator == some kc.2 && (s.set kc.1).armed then some kc.1 else none)

/-- A decision of the coordinator (R71, R72): 1 COMMIT, 2 DEFER to the new target, 3 ABORT. After the cutoff none is
accepted, and a set has one for each of its targets. A member that is the peer's manager passes it on (R75).
[DESIGN CHOICE: log entry 47] -/
def State.decided (s : State) (k decision newTarget : Nat) : State :=
  let x := s.set k
  let pass := fun (t : State) (kind : Nat) (more : List Nat) =>
    (tkeys x.members).foldl (fun (u : State) m => u.say m kind (k :: more)) t
  if x.decision ≠ 0 ∨ x.due < s.now + 20000 then s
  else if decision = 1 then pass (s.prime k) 0x15 []
  else if decision = 2 then
    let n := if x.refch = 0xFF then (newTarget, 0) else s.nextTarget x
    pass (s.deferTo k n.1 n.2) 0x16 [n.1]
  else if x.report ≠ 0 then s.endSet k 3 5
  else
    let d := s.draw
    d.2.endSet k 4 ([2, 3, 4, 6, 7].getD (d.1 % 5) 2)

/-- COMMIT_DECISION (R71, R72). -/
def execCommitDecision (set decision : Nat) (newTarget : Nat) (s : State) : Host.Outcome State Fault Refusal :=
  if noSet set = true ∨ decision = 0 ∨ 3 < decision then .fault .noSuchUnit
  else match s.decidedSet set with
    | none => .next s
    | some k => .next (s.decided k decision newTarget)

/-! Snapshots across a cluster (R69) -/

/-- A snapshot fails as a whole (R69). -/
def State.failSnap (s : State) (ref : Nat) (x : Snap) : State :=
  let s1 := s.ttRemove (fun e => e.kind == 4 && e.ref == ref)
  ({ s1 with ctl := { s1.ctl with snaps := tdel s1.ctl.snaps ref } } : State).answer x.ask .aborted []

/-- A member's part of a snapshot. -/
def Snap.receive (x : Snap) (node : Nat) (entries : List (Nat × List Byte)) (epochs : List (Nat × Nat)) : Snap :=
  { x with missing := x.missing.filter (· != node),
           parts := (entries.filter (fun e => decide (e.1 < x.objs.length))).foldl (fun m e => tset m e.1 e.2) x.parts,
           epochs := (epochs.filter (fun e => (namedChans x.objs).contains e.1)).foldl (fun m e => tset m e.1 e.2) x.epochs }

/-- SNAPDATA (R69): a member's capture, or its failure, reaches the manager. -/
def execSnapdata (node session txid : Nat) (success : Bool) (entries : List (Nat × List Byte))
    (epochs : List (Nat × Nat)) (s : State) : Host.Outcome State Fault Refusal :=
  if 16 ≤ node then .fault .noSuchUnit
  else match s.ctl.snaps.find? (fun kv => kv.2.ask.session == session && kv.2.ask.txid == txid && kv.2.missing.contains node) with
    | none => .next s
    | some (ref, x) =>
      if !success then .next (s.failSnap ref x)
      else .next (({ s with ctl := { s.ctl with snaps := tset s.ctl.snaps ref (x.receive node entries epochs) } } : State).finishSnap ref)

end Sys2Proof.Machine
end

