-- ==== Sys2Proof/Machine/Tick.lean ====
section
/-! DEFINITION. Tick.lean: the tick of PTP time and what falls due at it (R65, R66, R283–R287, R549). -/

namespace Sys2Proof.Machine

/-! Time (R283, R321, R549) -/

/-- The first count at which PTP time has reached the next tick. [DESIGN CHOICE: log entry 5] -/
def State.nextCount (s : State) : Nat :=
  let target : Int := ((s.tick + 1) * 100 : Nat) * q48
  max (s.tb.count + 1) (s.tb.c0 + (-((s.tb.t0 - target) / s.inc))).toNat

/-- The Timebase runs: the device is powered and not held in reset (R30, R565). [DESIGN CHOICE: log entry 5] -/
def State.clocked (s : State) : Bool := s.mode != .dormant && !s.lodge.held

/-- The Timebase and the Lodge's time count reach the next tick, with which what a commit of the tick before replaced is past
taking back (R40). [DESIGN CHOICE: log entry 5] -/
def State.advance (s : State) : State :=
  let s0 : State := { s with undo := [] }
  let s1 : State := if s.lodge.powered then { s0 with lodge := { s0.lodge with time := s0.lodge.time + 1 } } else s0
  if s.clocked then { s1 with tb := { s1.tb with count := s.nextCount } } else s1

/-! Entries (R284, R285) -/

/-- An audio group start whose instant has come runs (R389). -/
def State.groupDue (s : State) (g : Nat) : State :=
  match tget s.audio.start g with
  | some t => if t ≤ s.now then s.runGroup g else s
  | none => s

/-- A timetable entry runs (R284). Channel starts and stops, and captures, look for their entry themselves.
[DESIGN CHOICE: log entry 6] -/
def State.runEntry (s : State) (e : TtEntry) : State :=
  let s1 := s.ttRemove (fun d => d == e)
  match e.kind with
  | 1 => s1.fire e.target
  | 2 => s.chanStart e.target
  | 3 => s.chanStop e.target
  | 4 => s.snapshotDue e.ref
  | 5 => s1.readyPoint e.target
  | 6 => s1.decide_ e.target
  | 7 => s1.cutoff e.target
  | 8 => s1.groupDue e.target
  | 9 => s1.runWindow e.target
  | _ => s1.runFree e

/-- The entries of a list that this tick runs (R285, R286): the first 8 that are due, captures after commits (R68).
[DESIGN CHOICE: log entry 6] -/
def State.dueEntries (s : State) (k : Nat) : List TtEntry :=
  let l := ((s.ttl k).filter (fun e => decide (e.due ≤ s.tick))).take 8
  l.filter (fun e => e.kind != 4) ++ l.filter (fun e => e.kind == 4)

/-- One list of the timetable at a tick; an entry that another has taken away does not run. [DESIGN CHOICE: log entry 6] -/
def State.runList (s : State) (k : Nat) : State :=
  (s.dueEntries k).foldl (fun (t : State) e => if (t.ttl k).contains e then t.runEntry e else t) s

/-- A COMMIT whose set has ended while it waited for its members is answered (R111). -/
def State.closeReply (s : State) (k : Nat) : State := if (s.set k).armed then s else s.replySet k

/-- A snapshot that waits for a node that is no longer a member fails (R69). -/
def State.dropSnaps (s : State) : State :=
  (s.ctl.snaps.filter (fun kv => kv.2.missing.any (fun m => !s.members.contains m))).foldl
    (fun (t : State) kv => t.failSnap kv.1 kv.2) s

/-- The immediate snapshots, which no entry of the timetable stands for, and those whose boundary has come, are captured after
what the tick ran (R68).
[DESIGN CHOICE: log entry 6; DEDUCED: log entry 58] -/
def State.snapsNow (s : State) : State :=
  (s.ctl.snaps.filter (fun kv => kv.2.seq.isNone && decide (kv.2.at_ ≤ s.now) && s.snapReady kv.2 &&
      !(s.ttl (ttList 4)).any (fun e => e.kind == 4 && e.ref == kv.1))).foldl
    (fun (t : State) kv => t.takeSnap kv.1) s

/-- What a session has to hear at a tick (R115–R117): its change notices, and its oldest notice is delivered.
[DESIGN CHOICE: log entry 6] -/
def State.inform (s : State) (id : Nat) : State := (s.changeNotices id).deliver id

/-- What a tick brings with it: single-object commits apply (R45), every due entry runs, list by list (R285), and what has
ended is answered. [DESIGN CHOICE: log entry 6] -/
def State.runTick (s : State) : State :=
  let s1 := ([0, 1, 2, 3].foldl State.runList s.runSoon).standbyDone
  let s2 := setNumbers.foldl State.splitView s1
  let s3 := (setNumbers.foldl State.closeReply s2.snapsNow).dropSnaps
  let s4 := rwSets.foldl State.settleWrite s3
  (tkeys s4.ctl.sessions).foldl State.inform s4

/-- TIMETABLE_TICK (R45, R283–R286): the next 100 ns tick. [DESIGN CHOICE: log entries 5, 6] -/
def execTimetableTick (s : State) : Host.Outcome State Fault Refusal :=
  let s1 := s.advance
  .next (if s.clocked then s1.runTick else s1)

/-! Single entries (R59, R65, R284) -/

/-- The due entry of a kind for a stage set. -/
def State.pointDue (s : State) (kind k : Nat) : Option TtEntry :=
  (s.ttl (ttList kind)).find? (fun e => e.kind == kind && e.target == k && decide (e.due ≤ s.tick))

/-- A point of a set runs where its entry is due (R59). -/
def State.runPoint (s : State) (kind k : Nat) : Host.Outcome State Fault Refusal :=
  if noSet k = true then .fault .noSuchUnit
  else match s.pointDue kind k with
    | none => .next s
    | some e => .next ((s.runEntry e).closeReply k)

/-- COMMIT_FIRE (R58, R59). -/
def execCommitFire (set : Nat) (s : State) : Host.Outcome State Fault Refusal := s.runPoint 1 set
/-- COMMIT_READY_POINT (R59–R62, R71). -/
def execCommitReadyPoint (set : Nat) (s : State) : Host.Outcome State Fault Refusal := s.runPoint 5 set
/-- COMMIT_DECISION_POINT (R59, R71, R489). -/
def execCommitDecisionPoint (set : Nat) (s : State) : Host.Outcome State Fault Refusal := s.runPoint 6 set
/-- COMMIT_CUTOFF (R59, R72, R489). -/
def execCommitCutoff (set : Nat) (s : State) : Host.Outcome State Fault Refusal := s.runPoint 7 set

/-- CHANNEL_START (R65, R667, R672). -/
def execChannelStart (chan : Nat) (s : State) : Host.Outcome State Fault Refusal :=
  if 128 ≤ chan then .fault .noSuchUnit else .next (s.chanStart chan)
/-- CHANNEL_STOP (R65, R667). -/
def execChannelStop (chan : Nat) (s : State) : Host.Outcome State Fault Refusal :=
  if 128 ≤ chan then .fault .noSuchUnit else .next (s.chanStop chan)

/-- FINISHED_SET_RELEASE (R51, R80): a set that finished without its session is free after 60 s. -/
def execFinishedSetRelease (set : Nat) (s : State) : Host.Outcome State Fault Refusal :=
  let x := s.set set
  if noSet set = true then .fault .noSuchUnit
  else if 4 ≤ x.state ∧ x.orphan = true ∧ x.finished + 60000000000 ≤ s.now then .next (s.freeSet set)
  else .next s

end Sys2Proof.Machine
end

