-- ==== Sys2Proof/Machine/Start.lean ====
section
/-! DEFINITION. Start.lean: the end of STARTING, its failures, and the start commit (R34, R42, R97, R282, R336, R412, R447,
R516, R543, R549, R550, R552, R568, R570, R599–R602, R634). -/

namespace Sys2Proof.Machine

/-! Images (R552, R590, R599–R602) -/

/-- The verdict on a bank's image: an empty bank holds none that fits (R590). -/
def State.bankCode (s : State) (r : StartReport) (t b : Nat) : Code :=
  match s.sec.bank t b with
  | none => .range
  | some i => s.reverify i (r.badBanks.contains (2 * t + b))

/-- An image that failed verification, logged and counted (R602, R635). -/
def State.imageFailed (s : State) (unit type : Nat) (c : Code) : State :=
  (s.log 0x1A unit 0xFF [type, c.value]).bump 0x1F38 3 0x1F38 5

/-- The machine running bank b of type t from now on; a bank other than the active one that no trial covers has no confirm
window. -/
def State.runBank (s : State) (t b : Nat) : State :=
  let keep := if b = s.sec.activeBank t then tdel s.sec.running t
    else if (tget s.sec.running t).isSome then s.sec.running else tset s.sec.running t 0
  { s with sec := { s.sec with running := keep } }

/-- The Gatehouse image (R602): the bank that is to run, or else the other one, or else the recovery Gatehouse. -/
def State.bootGatehouse (s : State) (r : StartReport) : State :=
  let a := s.sec.runningBank 1
  let c := s.bankCode r 1 a
  if c = .ok then s
  else
    let s1 := s.imageFailed a 1 c
    let d := s.bankCode r 1 (1 - a)
    if d = .ok then s1.runBank 1 (1 - a)
    else
      let s2 := s1.imageFailed (1 - a) 1 d
      { s2 with sec := { s2.sec with recovery := true } }

/-- A Bandstand or rule-table image (R601, R602): the bank to run, or, where a trial bank fails, the active one. The flag says
that no bank verified. [DEDUCED: log entry 25] -/
def State.bootBank (s : State) (r : StartReport) (t : Nat) : Code × State :=
  let a := s.sec.runningBank t
  let c := s.bankCode r t a
  if c = .ok then (.ok, s)
  else
    let s1 := s.imageFailed a t c
    if a = s.sec.activeBank t then (c, s1)
    else
      let d := s.bankCode r t (1 - a)
      let s2 := s1.runBank t (1 - a)
      if d = .ok then (.ok, s2) else (d, s2.imageFailed (1 - a) t d)

/-- The pack slots that fail (R602). -/
def State.badPacks (s : State) (r : StartReport) : List (Nat × Nat × Code) :=
  s.sec.packs.filterMap (fun kv =>
    let c := s.reverify kv.2 (r.badPacks.contains kv.1)
    if c = .ok then none else some (kv.1, kv.2.type, c))

/-- A number of two's complement in 4 bytes. -/
def leInt32 (b : List Byte) : Int :=
  let n := leNat b
  if n < 2147483648 then n else (n : Int) - 4294967296

/-- One rule entry of 16 bytes (R550). -/
def ruleOf (b : List Byte) : LodgeRule :=
  let at_ := fun (k n : Nat) => leNat ((b.drop k).take n)
  { input := at_ 0 1, filter := at_ 1 1, op := at_ 2 1, action := at_ 3 1, modes := at_ 4 2, hold := at_ 6 2,
    thresh := leInt32 ((b.drop 8).take 4), hyst := at_ 12 2, arg := at_ 14 1 }

/-- The rules of a table, where its header and CRC are right (R550). -/
def ruleTable (b : List Byte) : Option (List LodgeRule) :=
  let n := (b.getD 1 0).toNat
  if b.headD 0 ≠ 1 ∨ n < 1 ∨ 64 < n ∨ b.length ≠ 16 + 16 * n ∨ leNat ((b.drop 12).take 4) ≠ crc32c (b.drop 16) then none
  else some ((List.range n).map (fun k => ruleOf ((b.drop (16 + 16 * k)).take 16)))

/-- A rule table ignored (R552, R570, R635): the one in force stays. The code of a table whose header or CRC is wrong is not
stated. [DEDUCED: log entry 25; DESIGN CHOICE: log entry 31] -/
def State.rulesRejected (s : State) (c : Nat) : State := (s.log 0x14 0xFFFF 0xFF [c]).ev 0x12 7 0 0

/-- The signed rule table handed to the Lodge (R552), or ignored; the flag says that it was ignored.
[DEDUCED: log entry 25] -/
def State.bootRules (s : State) (r : StartReport) : Bool × State :=
  let v := s.bootBank r 3
  if v.1 ≠ .ok then (true, v.2.rulesRejected v.1.value)
  else
    let b := ((v.2.sec.bank 3 (v.2.sec.runningBank 3)).map Image.payload).getD []
    match ruleTable b with
    | none =>
      let d := v.2.draw
      (true, d.2.rulesRejected d.1)
    | some l =>
      (false, (v.2.setLodge { v.2.lodge with rules := l, table := 1, digest := Config.shake256 32 b, conds := [] }).alertLevel 0 0)

/-- Every image that STARTING verifies (R602): whether one failed, or the recovery Gatehouse runs and loads no other.
[DEDUCED: log entry 25] -/
def State.bootImages (s : State) (r : StartReport) : Bool × State :=
  let s1 := s.bootGatehouse r
  if s1.sec.recovery then (true, s1)
  else
    let a := s1.bootBank r 2
    let b := a.2.bootRules r
    let bad := b.2.badPacks r
    let s2 := bad.foldl (fun (t : State) x => t.imageFailed x.1 x.2.1 x.2.2) b.2
    (a.1 != .ok || b.1 || !bad.isEmpty, s2)

/-! Training and self-tests (R282, R412, R516) -/

/-- The stored image anew, where a slot that was loaded has failed its digest or tag (R97). -/
def State.dropSlots (s : State) (r : StartReport) : State :=
  let mark := fun (k : Nat) (x : Option StoredImage) =>
    if r.badSlots.contains k then x.map (fun i => { i with good := false }) else x
  let used := s.nat 0x1104 3
  let s1 : State := { s with ctl := { s.ctl with slotA := mark 0 s.ctl.slotA, slotB := mark 1 s.ctl.slotB } }
  if used ≠ 0 ∧ r.badSlots.contains (used - 1) = true then s1.loadStored else s1

/-- The DRAM configuration that this STARTING takes (R521, R523). [DEDUCED: log entry 54] -/
def State.dramAsked (s : State) : Nat × Nat × Bool × Nat :=
  (s.nat 0x1800 1, s.nat 0x1800 2, s.flag 0x1800 3, s.nat 0x1800 4)

/-- DRAM training ends (R516, R523): seeded where the results held are for this configuration and verify, full otherwise. A
channel that failed full training is logged. -/
def State.dramTrained (s : State) (r : StartReport) : State :=
  let cfg := s.dramAsked
  let seeded := s.lodge.seed == some cfg && r.seedOk
  let failed := (r.dram.map Prod.fst).filter (fun k => decide (k < 16))
  let s1 := (List.range 16).foldl (fun (t : State) k => t.setDch k { t.dch k with state := if failed.contains k then 7 else 2 }) s
  let s2 := (r.dram.filter (fun x => decide (x.1 < 16))).foldl (fun (t : State) x => t.log 0x0A x.1 0xFF [x.2]) s1
  let s3 := (s2.setLodge { s2.lodge with seed := if failed.isEmpty then some cfg else none }).put 0x1801 1 (usableMib cfg : Nat)
  { s3.put 0x1801 2 (if !failed.isEmpty then 0 else if seeded then 2 else 1) with dramCfg := cfg }

/-- The lanes' full training ends (R412). [DEDUCED: log entry 25] -/
def State.lanesTrained (s : State) (r : StartReport) : State :=
  (List.range laneCount).foldl (fun (t : State) k => t.laneTrained k (!r.lanes.contains k)) s

/-- The retired Pavilions' self-tests end (R282). -/
def State.selfTested (s : State) (r : StartReport) : State :=
  let keep := s.mews.pavs.filter (fun kv => kv.2.state != 5 || r.pavs.contains kv.1)
  { s with mews := { s.mews with pavs := keep.map (fun kv => (kv.1, { kv.2 with stuck := kv.2.state == 5 })) } }

/-- Entries written from VLODGE energy are pinned where their slots are still not whole (R634). -/
def BlackBox.pin (b : BlackBox) : BlackBox :=
  let put := fun (m : Tab (List Byte)) (x : Nat × List Byte) =>
    if ((tget m x.1).map bbWhole).getD false then m else tset m x.1 x.2
  { b with slots := b.unpinned.foldl put b.slots, unpinned := [] }

/-! The start commit (R34, R447) -/

/-- The start commit's writes (R34, R389, R447): the mode, the audio groups enabled, and for a manager the settings of
the cluster's channels and flows. [DEDUCED: log entry 24] -/
def State.startWrites (s : State) (m : Mode) : Tab Val :=
  let wide := if s.cluster.role ≠ 1 then []
    else s.od.filter (fun kv => storedObject (kv.1 / 256) (kv.1 % 256) &&
      (decide (0x300000 ≤ kv.1) || (decide (0x131000 ≤ kv.1) && decide (kv.1 < 0x132000))))
  let groups := ((List.range 8).filter (fun g => s.flag (0x1B20 + g) 1)).foldl
    (fun (t : Tab Val) g => tset t (okey (0x1B20 + g) 1) (.num 1)) wide
  if m = .service then groups else tset groups (okey 0x1001 2) (.num m.code)

/-- The stored configuration applied as one commit that moves the device to its start mode (R34, R447): in a cluster it is
prepared on every member. [DEDUCED: log entry 24] -/
def State.startCommit (s : State) (m : Mode) : Code × State :=
  let w := s.startWrites m
  let ms := s.workersOf w
  let x : StageSet := { state := 1, orphan := true, writes := w, members := ms.map (fun k => (k, MemberArm.asked)) }
  let s1 := s.setSet startSet x
  let r := s1.armSet startSet (s1.aim ⟨0, 0xFF, 0⟩ (s1.effLead x)) 0xFF 3
  if r.1 = .ok then (.ok, ms.foldl (fun (u : State) k => u.sayPrepare startSet k) r.2) else r

/-! The end of STARTING (R34, R42, R568) -/

/-- What the end of STARTING leaves whatever the target (R336, R549, R568, R570, R634): the reset reported, the time anchor
written, the events kept in DORMANT raised and the entries of VLODGE energy pinned. [DEDUCED: log entry 23] -/
def State.startReported (s : State) : State :=
  let s1 := (s.put 0x1703 4 s.lodge.resetKind).put 0x1703 5 (s.lodge.time / 10 : Nat)
  let s2 := (s1.lodge.events.foldl (fun (t : State) e => t.event 18 t.now e) s1).ev 0x12 6 s1.lodge.resetKind 0
  let s3 := s2.log 0x42 0xFFFF 0xFF [s2.now / 1000000000, s2.now % 1000000000]
  { s3 with lodge := { s3.lodge with events := [] }, bb := s3.bb.pin }

/-- STARTING ends in SAFE (R34, R38): with the causes of what failed. [DEDUCED: log entry 23] -/
def State.startSafe (s : State) (causes : List Nat) : State :=
  let s1 := causes.foldl (fun (t : State) c => { t with od := odSetFlag t.od 0x1002 3 c }) s
  (s1.log 0x28 0xFFFF 0xFF [0x0E, 1]).toMode .safe 0x0E

/-- STARTING ends in the start mode (R34): a media mode through STANDBY, as a commit; a configuration that does not pass its
checks leaves the device in SERVICE. [DEDUCED: log entry 24] -/
def State.startTo (s : State) (m : Mode) (trigger : Nat) : State :=
  if m.media then
    let r := (s.toMode .standby trigger).startCommit m
    if r.1 = .ok then r.2
    else ({ s with od := odSetFlag s.od 0x1200 8 4 }).toMode .service trigger
  else s.toMode m trigger

/-- STARTING is over (R34, R447, R543): `causes` are those of R38 that hold beside what the report shows.
[DEDUCED: log entry 23] -/
def State.endStarting (s : State) (r : StartReport) (causes : List Nat) : State :=
  let s1 := (((s.dropSlots r).dramTrained r).lanesTrained r).selfTested r
  let img := s1.bootImages r
  let s2 := img.2
  let trained := r.dram.all (fun x => decide (16 ≤ x.1)) &&
    (List.range laneCount).all (fun k => (s1.laneAt k).rx != 4 && (s1.laneAt k).tx != 4)
  let bad := (if trained then [] else [4]) ++ (if img.1 then [5] else []) ++ causes
  let ret : Bool := s2.sec.lcs == 3 || s2.sec.lcs == 4
  let s3 : State := { s2 with ptp := { s2.ptp with running := !s2.sec.recovery && !ret } }
  let s4 := (if s3.ptp.running then s3.bmca else s3).startReported
  if ret then s4.toMode .ret 7
  else if !bad.isEmpty then s4.startSafe bad
  else if s4.sec.lcs = 0 then s4.toMode .service 7
  else if s4.cluster.role = 2 then s4.toMode .service s4.lodge.trigger
  else if s4.cluster.role = 1 then
    let window := s4.now + s4.nat 0x1300 4 * 1000000
    ({ s4 with cluster := { s4.cluster with window := some window } }).toMode .service s4.lodge.trigger
  else s4.startTo (Mode.ofCode (s4.nat 0x1001 3)) s4.lodge.trigger

/-- STARTING_COMPLETE (R34): images, training and life-cycle checks are complete.
[DEDUCED: log entry 25; DESIGN CHOICE: log entry 98] -/
def execStartingComplete (r : StartReport) (s : State) : Host.Outcome State Fault Refusal :=
  if s.mode = .starting ∧ !s.lodge.held then .next (s.endStarting r []) else .next s

/-- REFERENCE_STARTUP_TIMEOUT (R38, R543): REF_IN has not qualified 1.5 s after STARTING began. -/
def execReferenceStartupTimeout (r : StartReport) (s : State) : Host.Outcome State Fault Refusal :=
  if s.mode = .starting ∧ !s.lodge.held ∧ s.clk.ref ≠ 2 ∧ s.lodge.began + 15000000 ≤ s.lodge.time then
    .next (s.endStarting r [6])
  else .next s

/-- JOIN_WINDOW_EXPIRY (R35, R447): every expected member is admitted or the window has passed, and the manager applies the
stored configuration on every member as one commit. -/
def execJoinWindowExpiry (s : State) : Host.Outcome State Fault Refusal :=
  match s.cluster.window with
  | none => .next s
  | some t =>
    let expected := bits (s.nat 0x1300 3) 16
    let whole := expected.all (fun k => k == s.node || s.members.contains k)
    if s.cluster.role ≠ 1 ∨ s.mode ≠ .service ∨ (s.now < t ∧ !whole) then .next s
    else
      let s1 : State := { s with cluster := { s.cluster with window := none } }
      let m := Mode.ofCode (s1.nat 0x1001 3)
      .next (if (s1.startWrites m).isEmpty then s1 else (s1.startCommit m).2)

/-- The cluster's state applied to a worker that joins with another (R449): a commit whose only member is that worker. PREPARE
carries the settings and the mode; nothing of the manager's own changes. [DEDUCED: log entry 85] -/
def State.joinCommit (s : State) (k : Nat) : State :=
  let set := joinSet k
  let x : StageSet := { state := 1, orphan := true, members := [(k, MemberArm.asked)] }
  if (s.set set).armed then s
  else
    let r := (s.setSet set x).armSet set (s.aim ⟨0, 0xFF, 0⟩ (s.effLead x)) 0xFF 3
    if r.1 = .ok then r.2.sayPrepare set k else r.2

/-- JOIN (R448, R449): the manager refuses with a reason, or admits the worker, publishes the topology and, where the
worker does not already run the cluster's state, prepares a commit whose only member it is. [DEDUCED: log entry 85] -/
def execJoin (j : JoinMsg) (s : State) : Host.Outcome State Fault Refusal :=
  if s.cluster.role ≠ 1 then .next s
  else match s.joinRefusal j with
    | some r =>
      let k := j.node % 16
      let s1 := if k = 0 ∨ (s.nd k).state = 2 then s else s.setNd k { s.nd k with state := 5, reason := r }
      .next ((s1.clusterEvent 2 k r 0).say k 0x04 [r])
    | none =>
      let k := j.node
      let s0 := s.putVal 0x1302 0 (.oct (s.topoWith j))
      let s1 := (s0.put 0x1300 2 (setBit (s0.nat 0x1300 2) k : Nat)).setNd k { s0.nd k with state := 2, reason := 0, beat := s0.now }
      let s2 := ((s1.clusterEvent 1 k 0 0).say k 0x03 [k])
      let s3 := (((s2.members.filter (· != s2.node)).foldl (fun t m => t.say m 0x05 []) s2)).clusterEvent 7 k 0 0
      let same := j.digest == s3.clusterDigest && j.runsSame
      .next (if same then s3 else s3.joinCommit k)

end Sys2Proof.Machine
end

