-- ==== Sys2Proof/Machine/Writes.lean ====
section
/-! DEFINITION. Writes.lean: the WRITE requests that carry one command object (R38, R326, R565, R574, R586, R592, R595, R597,
R601, R607, R621, R635, R640). -/

namespace Sys2Proof.Machine

/-- A WRITE of one object (R109): checked as every entry is, then carried out. [DEDUCED: log entry 7] -/
def State.writeCommand (s : State) (h : ReqHdr) (i j len : Nat) (v : Val) (bad : List Nat) : State :=
  let e : WriteEnt := ⟨⟨i, j⟩, len, v⟩
  s.request h { code := 0x11, req := .write (bareHdr h) [e], objs := [⟨i, j⟩], writes := true } (fun id t =>
    let r := t.writeEntry (t.who id) h.path e bad
    (some (.ok, statusWords [r.code]), r.st))

/-- SAFE_CAUSE_ACK (R38): OD 0x1002.04. -/
def execSafeCauseAck (h : ReqHdr) (mask : Nat) (s : State) : Host.Outcome State Fault Refusal :=
  .next (s.writeCommand h 0x1002 4 2 (.num mask) [])

/-- LIFECYCLE_REQUEST (R574, R575): OD 0x1F00.06. -/
def execLifecycleRequest (h : ReqHdr) (value : Nat) (s : State) : Host.Outcome State Fault Refusal :=
  .next (s.writeCommand h 0x1F00 6 8 (.num value) [])

/-- ROLLBACK_ADVANCE (R592): OD 0x1F00.07. -/
def execRollbackAdvance (h : ReqHdr) (value : Nat) (s : State) : Host.Outcome State Fault Refusal :=
  .next (s.writeCommand h 0x1F00 7 1 (.num value) [])

/-- SETTINGS_GENERATION_WRITE (R595): OD 0x1F04.01. `bad` is what generations that do not take read back as, in turn. -/
def execSettingsGenerationWrite (h : ReqHdr) (bytes : List Byte) (bad : List Nat) (s : State) :
    Host.Outcome State Fault Refusal :=
  .next (s.writeCommand h 0x1F04 1 bytes.length (.oct bytes) bad)

/-- PROGRAM_OWNER_SLOT (R586): OD 0x1F13.01. -/
def execProgramOwnerSlot (h : ReqHdr) (slot : Nat) (hash : List Byte) (s : State) :
    Host.Outcome State Fault Refusal :=
  .next (s.writeCommand h 0x1F13 1 (1 + hash.length) (.oct (leBytes 1 slot ++ hash)) [])

/-- REVOKE_OWNER_SLOT (R586): OD 0x1F13.02. -/
def execRevokeOwnerSlot (h : ReqHdr) (slot : Nat) (s : State) : Host.Outcome State Fault Refusal :=
  .next (s.writeCommand h 0x1F13 2 1 (.num slot) [])

/-- ATTESTATION_NONCE (R597): OD 0x1F02.01. -/
def execAttestationNonce (h : ReqHdr) (nonce : List Byte) (s : State) : Host.Outcome State Fault Refusal :=
  .next (s.writeCommand h 0x1F02 1 nonce.length (.oct nonce) [])

/-- ARM_TRIAL (R601): OD 0x1F32.01. -/
def execArmTrial (h : ReqHdr) (type : Nat) (s : State) : Host.Outcome State Fault Refusal :=
  .next (s.writeCommand h 0x1F32 1 1 (.num type) [])

/-- CONFIRM_TRIAL (R601): OD 0x1F32.02. -/
def execConfirmTrial (h : ReqHdr) (type : Nat) (s : State) : Host.Outcome State Fault Refusal :=
  .next (s.writeCommand h 0x1F32 2 1 (.num type) [])

/-- WARM_RESET (R565, R569): OD 0x1703.01. -/
def execWarmReset (h : ReqHdr) (value : Nat) (s : State) : Host.Outcome State Fault Refusal :=
  .next (s.writeCommand h 0x1703 1 1 (.num value) [])

/-- MEDIA_DOMAIN_RESET (R567): OD 0x1703.02. -/
def execMediaDomainReset (h : ReqHdr) (value : Nat) (s : State) : Host.Outcome State Fault Refusal :=
  .next (s.writeCommand h 0x1703 2 1 (.num value) [])

/-- TIME_SET (R326): OD 0x1500.05. -/
def execTimeSet (h : ReqHdr) (time : Nat) (s : State) : Host.Outcome State Fault Refusal :=
  .next (s.writeCommand h 0x1500 5 10 (.num time) [])

/-- APPLY_PENDING_STEP (R327): OD 0x1500.0D. -/
def execApplyPendingStep (h : ReqHdr) (value : Nat) (s : State) : Host.Outcome State Fault Refusal :=
  .next (s.writeCommand h 0x1500 13 1 (.num value) [])

/-- PPS_SECONDS_WRITE (R325): OD 0x1500.0E. -/
def execPpsSecondsWrite (h : ReqHdr) (seconds : Nat) (s : State) : Host.Outcome State Fault Refusal :=
  .next (s.writeCommand h 0x1500 14 8 (.num seconds) [])

/-- ADJ_WRITE (R321, R322, R325): OD 0x1500.04. -/
def execAdjWrite (h : ReqHdr) (adj : Int) (s : State) : Host.Outcome State Fault Refusal :=
  .next (s.writeCommand h 0x1500 4 8 (.num adj) [])

/-- YIELD_NOW (R486): OD 0x1400.06. -/
def execYieldNow (h : ReqHdr) (value : Nat) (s : State) : Host.Outcome State Fault Refusal :=
  .next (s.writeCommand h 0x1400 6 1 (.num value) [])

/-- SNAPSHOT_NOW (R621): OD 0x1D00.01. -/
def execSnapshotNow (h : ReqHdr) (value : Nat) (s : State) : Host.Outcome State Fault Refusal :=
  .next (s.writeCommand h 0x1D00 1 1 (.num value) [])

/-- TURNSTILE_BINDING (R607–R610): OD 0x1C10 + unit, sub 01. -/
def execTurnstileBinding (h : ReqHdr) (unit : Nat) (bytes : List Byte) (s : State) :
    Host.Outcome State Fault Refusal :=
  if 10 ≤ unit then .fault .noSuchUnit else .next (s.writeCommand h (0x1C10 + unit) 1 bytes.length (.oct bytes) [])

/-- TURNSTILE_CANCEL (R607): OD 0x1C10 + unit, sub 03. -/
def execTurnstileCancel (h : ReqHdr) (unit : Nat) (value : Nat) (s : State) : Host.Outcome State Fault Refusal :=
  if 10 ≤ unit then .fault .noSuchUnit else .next (s.writeCommand h (0x1C10 + unit) 3 1 (.num value) [])

/-- TEST_START (R34, R639, R640): OD 0x1E10.04. -/
def execTestStart (h : ReqHdr) (value : Nat) (s : State) : Host.Outcome State Fault Refusal :=
  .next (s.writeCommand h 0x1E10 4 1 (.num value) [])

/-- TEST_CANCEL (R640): OD 0x1E10.05. -/
def execTestCancel (h : ReqHdr) (value : Nat) (s : State) : Host.Outcome State Fault Refusal :=
  .next (s.writeCommand h 0x1E10 5 1 (.num value) [])

/-- HOST_NOTE (R635): OD 0x1E00.06. -/
def execHostNote (h : ReqHdr) (bytes : List Byte) (s : State) : Host.Outcome State Fault Refusal :=
  .next (s.writeCommand h 0x1E00 6 bytes.length (.oct bytes) [])

end Sys2Proof.Machine
end

