-- ==== Sys2Proof/Machine/Dispatch.lean ====
section
/-! DEFINITION. Dispatch.lean: one arm per command. -/

namespace Sys2Proof.Machine

/-- The effect of a command on everything but the queue. -/
def exec (i : Instr) (s : State) : Host.Outcome State Fault Refusal :=
  match i with
  | .hello a1 a2 a3 a4 a5 => Sys2Proof.Machine.execHello a1 a2 a3 a4 a5 s
  | .handshakeTimeout a1 => Sys2Proof.Machine.execHandshakeTimeout a1 s
  | .close a1 => Sys2Proof.Machine.execClose a1 s
  | .sessionIdleTimeout a1 => Sys2Proof.Machine.execSessionIdleTimeout a1 s
  | .read a1 a2 => Sys2Proof.Machine.execRead a1 a2 s
  | .write a1 a2 => Sys2Proof.Machine.execWrite a1 a2 s
  | .describe a1 a2 => Sys2Proof.Machine.execDescribe a1 a2 s
  | .openSet a1 => Sys2Proof.Machine.execOpenSet a1 s
  | .stage a1 a2 a3 => Sys2Proof.Machine.execStage a1 a2 a3 s
  | .readStaged a1 a2 a3 => Sys2Proof.Machine.execReadStaged a1 a2 a3 s
  | .commit a1 a2 a3 => Sys2Proof.Machine.execCommit a1 a2 a3 s
  | .abort a1 a2 => Sys2Proof.Machine.execAbort a1 a2 s
  | .discard a1 a2 => Sys2Proof.Machine.execDiscard a1 a2 s
  | .snapshot a1 a2 a3 => Sys2Proof.Machine.execSnapshot a1 a2 a3 s
  | .blockInit a1 a2 a3 a4 a5 => Sys2Proof.Machine.execBlockInit a1 a2 a3 a4 a5 s
  | .blockSeg a1 a2 a3 a4 => Sys2Proof.Machine.execBlockSeg a1 a2 a3 a4 s
  | .blockEnd a1 a2 a3 => Sys2Proof.Machine.execBlockEnd a1 a2 a3 s
  | .blockTransferTimeout a1 => Sys2Proof.Machine.execBlockTransferTimeout a1 s
  | .subscribe a1 a2 a3 a4 a5 => Sys2Proof.Machine.execSubscribe a1 a2 a3 a4 a5 s
  | .unsubscribe a1 a2 => Sys2Proof.Machine.execUnsubscribe a1 a2 s
  | .periodicNotice a1 a2 => Sys2Proof.Machine.execPeriodicNotice a1 a2 s
  | .store a1 => Sys2Proof.Machine.execStore a1 s
  | .storeComplete a1 => Sys2Proof.Machine.execStoreComplete a1 s
  | .clearStore a1 => Sys2Proof.Machine.execClearStore a1 s
  | .wake a1 a2 a3 => Sys2Proof.Machine.execWake a1 a2 a3 s
  | .canFrameReceived a1 => Sys2Proof.Machine.execCanFrameReceived a1 s
  | .canMessageTimeout a1 => Sys2Proof.Machine.execCanMessageTimeout a1 s
  | .relayTimeout a1 a2 => Sys2Proof.Machine.execRelayTimeout a1 a2 s
  | .mbxGo a1 => Sys2Proof.Machine.execMbxGo a1 s
  | .mbxRspClear => Sys2Proof.Machine.execMbxRspClear s
  | .mbxNtcClear => Sys2Proof.Machine.execMbxNtcClear s
  | .fenceValueWrite a1 a2 a3 => Sys2Proof.Machine.execFenceValueWrite a1 a2 a3 s
  | .ringTailWrite a1 a2 => Sys2Proof.Machine.execRingTailWrite a1 a2 s
  | .ringCtrlWrite a1 a2 => Sys2Proof.Machine.execRingCtrlWrite a1 a2 s
  | .registerWrite a1 a2 => Sys2Proof.Machine.execRegisterWrite a1 a2 s
  | .safeCauseAck a1 a2 => Sys2Proof.Machine.execSafeCauseAck a1 a2 s
  | .lifecycleRequest a1 a2 => Sys2Proof.Machine.execLifecycleRequest a1 a2 s
  | .rollbackAdvance a1 a2 => Sys2Proof.Machine.execRollbackAdvance a1 a2 s
  | .settingsGenerationWrite a1 a2 a3 => Sys2Proof.Machine.execSettingsGenerationWrite a1 a2 a3 s
  | .programOwnerSlot a1 a2 a3 => Sys2Proof.Machine.execProgramOwnerSlot a1 a2 a3 s
  | .revokeOwnerSlot a1 a2 => Sys2Proof.Machine.execRevokeOwnerSlot a1 a2 s
  | .attestationNonce a1 a2 => Sys2Proof.Machine.execAttestationNonce a1 a2 s
  | .armTrial a1 a2 => Sys2Proof.Machine.execArmTrial a1 a2 s
  | .confirmTrial a1 a2 => Sys2Proof.Machine.execConfirmTrial a1 a2 s
  | .confirmWindowExpiry a1 => Sys2Proof.Machine.execConfirmWindowExpiry a1 s
  | .warmReset a1 a2 => Sys2Proof.Machine.execWarmReset a1 a2 s
  | .mediaDomainReset a1 a2 => Sys2Proof.Machine.execMediaDomainReset a1 a2 s
  | .timeSet a1 a2 => Sys2Proof.Machine.execTimeSet a1 a2 s
  | .applyPendingStep a1 a2 => Sys2Proof.Machine.execApplyPendingStep a1 a2 s
  | .ppsSecondsWrite a1 a2 => Sys2Proof.Machine.execPpsSecondsWrite a1 a2 s
  | .adjWrite a1 a2 => Sys2Proof.Machine.execAdjWrite a1 a2 s
  | .yieldNow a1 a2 => Sys2Proof.Machine.execYieldNow a1 a2 s
  | .snapshotNow a1 a2 => Sys2Proof.Machine.execSnapshotNow a1 a2 s
  | .periodicCounterSnapshot => Sys2Proof.Machine.execPeriodicCounterSnapshot s
  | .taggedBundleRecord a1 a2 a3 => Sys2Proof.Machine.execTaggedBundleRecord a1 a2 a3 s
  | .turnstileBinding a1 a2 a3 => Sys2Proof.Machine.execTurnstileBinding a1 a2 a3 s
  | .turnstileCancel a1 a2 a3 => Sys2Proof.Machine.execTurnstileCancel a1 a2 a3 s
  | .turnstileWindowEnd a1 a2 a3 => Sys2Proof.Machine.execTurnstileWindowEnd a1 a2 a3 s
  | .turnstileSourceEnded a1 => Sys2Proof.Machine.execTurnstileSourceEnded a1 s
  | .testStart a1 a2 => Sys2Proof.Machine.execTestStart a1 a2 s
  | .testCancel a1 a2 => Sys2Proof.Machine.execTestCancel a1 a2 s
  | .testComplete a1 a2 a3 => Sys2Proof.Machine.execTestComplete a1 a2 a3 s
  | .hostNote a1 a2 => Sys2Proof.Machine.execHostNote a1 a2 s
  | .timetableTick => Sys2Proof.Machine.execTimetableTick s
  | .commitFire a1 => Sys2Proof.Machine.execCommitFire a1 s
  | .commitReadyPoint a1 => Sys2Proof.Machine.execCommitReadyPoint a1 s
  | .commitDecisionPoint a1 => Sys2Proof.Machine.execCommitDecisionPoint a1 s
  | .commitCutoff a1 => Sys2Proof.Machine.execCommitCutoff a1 s
  | .armDeadline a1 => Sys2Proof.Machine.execArmDeadline a1 s
  | .channelStart a1 => Sys2Proof.Machine.execChannelStart a1 s
  | .channelStop a1 => Sys2Proof.Machine.execChannelStop a1 s
  | .snapshotCapture a1 => Sys2Proof.Machine.execSnapshotCapture a1 s
  | .audioGroupStart a1 => Sys2Proof.Machine.execAudioGroupStart a1 s
  | .dramRetrainingWindow a1 => Sys2Proof.Machine.execDramRetrainingWindow a1 s
  | .alarm a1 a2 a3 => Sys2Proof.Machine.execAlarm a1 a2 a3 s
  | .gpioPulse a1 a2 a3 a4 => Sys2Proof.Machine.execGpioPulse a1 a2 a3 a4 s
  | .triggerOutputPulse a1 a2 => Sys2Proof.Machine.execTriggerOutputPulse a1 a2 s
  | .finishedSetRelease a1 => Sys2Proof.Machine.execFinishedSetRelease a1 s
  | .lineReceived a1 a2 a3 => Sys2Proof.Machine.execLineReceived a1 a2 a3 s
  | .boundarySupplied a1 => Sys2Proof.Machine.execBoundarySupplied a1 s
  | .firstBoundarySupplied a1 => Sys2Proof.Machine.execFirstBoundarySupplied a1 s
  | .decodedPicturePresented a1 => Sys2Proof.Machine.execDecodedPicturePresented a1 s
  | .lineMissing a1 a2 => Sys2Proof.Machine.execLineMissing a1 a2 s
  | .laneFailed a1 => Sys2Proof.Machine.execLaneFailed a1 s
  | .laneRestored a1 => Sys2Proof.Machine.execLaneRestored a1 s
  | .laneTrainingComplete a1 a2 => Sys2Proof.Machine.execLaneTrainingComplete a1 a2 s
  | .electricalIdleEntry a1 => Sys2Proof.Machine.execElectricalIdleEntry a1 s
  | .fastExit a1 a2 => Sys2Proof.Machine.execFastExit a1 a2 s
  | .carriagewayIdleTimeout a1 => Sys2Proof.Machine.execCarriagewayIdleTimeout a1 s
  | .pergolaRowReady a1 a2 => Sys2Proof.Machine.execPergolaRowReady a1 a2 s
  | .fetchComplete a1 => Sys2Proof.Machine.execFetchComplete a1 s
  | .motionFieldDelivered a1 a2 => Sys2Proof.Machine.execMotionFieldDelivered a1 a2 s
  | .rowBudgetSet a1 a2 => Sys2Proof.Machine.execRowBudgetSet a1 a2 s
  | .operandToken a1 a2 => Sys2Proof.Machine.execOperandToken a1 a2 s
  | .coachDispatch a1 => Sys2Proof.Machine.execCoachDispatch a1 s
  | .bandRetire a1 a2 a3 a4 a5 => Sys2Proof.Machine.execBandRetire a1 a2 a3 a4 a5 s
  | .seamCoachComplete a1 => Sys2Proof.Machine.execSeamCoachComplete a1 s
  | .engineFault a1 a2 a3 => Sys2Proof.Machine.execEngineFault a1 a2 a3 s
  | .selfTestComplete a1 a2 => Sys2Proof.Machine.execSelfTestComplete a1 a2 s
  | .probationEnd a1 => Sys2Proof.Machine.execProbationEnd a1 s
  | .spareReady a1 a2 => Sys2Proof.Machine.execSpareReady a1 a2 s
  | .departureRow a1 a2 => Sys2Proof.Machine.execDepartureRow a1 a2 s
  | .departureUnitRelease a1 => Sys2Proof.Machine.execDepartureUnitRelease a1 s
  | .ringDelivery a1 a2 a3 a4 a5 a6 => Sys2Proof.Machine.execRingDelivery a1 a2 a3 a4 a5 a6 s
  | .inputRingConsume a1 a2 => Sys2Proof.Machine.execInputRingConsume a1 a2 s
  | .inputPacketReceived a1 a2 a3 a4 => Sys2Proof.Machine.execInputPacketReceived a1 a2 a3 a4 s
  | .inputPacketLost a1 a2 => Sys2Proof.Machine.execInputPacketLost a1 a2 s
  | .accessUnitDecoded a1 a2 => Sys2Proof.Machine.execAccessUnitDecoded a1 a2 s
  | .confidenceRowResult a1 a2 a3 a4 a5 => Sys2Proof.Machine.execConfidenceRowResult a1 a2 a3 a4 a5 s
  | .netLinkChange a1 a2 => Sys2Proof.Machine.execNetLinkChange a1 a2 s
  | .arpResolve a1 => Sys2Proof.Machine.execArpResolve a1 s
  | .arpReceived a1 a2 => Sys2Proof.Machine.execArpReceived a1 a2 s
  | .igmpQuery a1 a2 => Sys2Proof.Machine.execIgmpQuery a1 a2 s
  | .icmpEcho a1 a2 => Sys2Proof.Machine.execIcmpEcho a1 a2 s
  | .ptpSync a1 a2 => Sys2Proof.Machine.execPtpSync a1 a2 s
  | .ptpAnnounce a1 a2 => Sys2Proof.Machine.execPtpAnnounce a1 a2 s
  | .ptpDelayResp a1 a2 => Sys2Proof.Machine.execPtpDelayResp a1 a2 s
  | .ptpMessageSend a1 a2 a3 => Sys2Proof.Machine.execPtpMessageSend a1 a2 a3 s
  | .ptpParentLost => Sys2Proof.Machine.execPtpParentLost s
  | .slewComplete => Sys2Proof.Machine.execSlewComplete s
  | .holdoverLimitExpiry => Sys2Proof.Machine.execHoldoverLimitExpiry s
  | .ppsInEdge a1 => Sys2Proof.Machine.execPpsInEdge a1 s
  | .captureEdge a1 a2 a3 => Sys2Proof.Machine.execCaptureEdge a1 a2 a3 s
  | .audioFrameReceived a1 a2 a3 a4 => Sys2Proof.Machine.execAudioFrameReceived a1 a2 a3 a4 s
  | .audioMasterFrame a1 a2 => Sys2Proof.Machine.execAudioMasterFrame a1 a2 s
  | .audioSampleRead a1 => Sys2Proof.Machine.execAudioSampleRead a1 s
  | .audioSilenceEnd a1 => Sys2Proof.Machine.execAudioSilenceEnd a1 s
  | .audioRampComplete a1 => Sys2Proof.Machine.execAudioRampComplete a1 s
  | .followLoopUpdate a1 => Sys2Proof.Machine.execFollowLoopUpdate a1 s
  | .audioOutputFrame a1 a2 => Sys2Proof.Machine.execAudioOutputFrame a1 a2 s
  | .audioAccessUnitCoded a1 a2 => Sys2Proof.Machine.execAudioAccessUnitCoded a1 a2 s
  | .cwFrameReceived a1 a2 => Sys2Proof.Machine.execCwFrameReceived a1 a2 s
  | .cwAck a1 a2 => Sys2Proof.Machine.execCwAck a1 a2 s
  | .cwNak a1 a2 => Sys2Proof.Machine.execCwNak a1 a2 s
  | .cwCredit a1 a2 a3 => Sys2Proof.Machine.execCwCredit a1 a2 a3 s
  | .cwAckTimeout a1 => Sys2Proof.Machine.execCwAckTimeout a1 s
  | .cwRetryExhausted a1 => Sys2Proof.Machine.execCwRetryExhausted a1 s
  | .cwPortUp a1 => Sys2Proof.Machine.execCwPortUp a1 s
  | .linkid a1 a2 a3 a4 => Sys2Proof.Machine.execLinkid a1 a2 a3 a4 s
  | .join a1 => Sys2Proof.Machine.execJoin a1 s
  | .joinRetry => Sys2Proof.Machine.execJoinRetry s
  | .admitMember a1 a2 => Sys2Proof.Machine.execAdmitMember a1 a2 s
  | .rejectMember a1 => Sys2Proof.Machine.execRejectMember a1 s
  | .topo a1 => Sys2Proof.Machine.execTopo a1 s
  | .joinWindowExpiry => Sys2Proof.Machine.execJoinWindowExpiry s
  | .heartbeat a1 a2 a3 => Sys2Proof.Machine.execHeartbeat a1 a2 a3 s
  | .heartbeatMissed a1 => Sys2Proof.Machine.execHeartbeatMissed a1 s
  | .tsync a1 a2 => Sys2Proof.Machine.execTsync a1 a2 s
  | .tdelayReq a1 a2 a3 => Sys2Proof.Machine.execTdelayReq a1 a2 a3 s
  | .tdelayRsp a1 => Sys2Proof.Machine.execTdelayRsp a1 s
  | .prepare a1 a2 a3 a4 => Sys2Proof.Machine.execPrepare a1 a2 a3 a4 s
  | .armed a1 a2 => Sys2Proof.Machine.execArmed a1 a2 s
  | .refused a1 a2 a3 a4 => Sys2Proof.Machine.execRefused a1 a2 a3 a4 s
  | .ready a1 a2 => Sys2Proof.Machine.execReady a1 a2 s
  | .notReady a1 a2 => Sys2Proof.Machine.execNotReady a1 a2 s
  | .commitDecision a1 a2 a3 => Sys2Proof.Machine.execCommitDecision a1 a2 a3 s
  | .snapdata a1 a2 a3 a4 a5 a6 => Sys2Proof.Machine.execSnapdata a1 a2 a3 a4 a5 a6 s
  | .relay a1 a2 => Sys2Proof.Machine.execRelay a1 a2 s
  | .relayRsp a1 a2 a3 a4 a5 => Sys2Proof.Machine.execRelayRsp a1 a2 a3 a4 a5 s
  | .spanreq a1 a2 => Sys2Proof.Machine.execSpanreq a1 a2 s
  | .rowstat a1 a2 a3 a4 a5 a6 a7 => Sys2Proof.Machine.execRowstat a1 a2 a3 a4 a5 a6 a7 s
  | .seam a1 a2 a3 a4 a5 a6 => Sys2Proof.Machine.execSeam a1 a2 a3 a4 a5 a6 s
  | .border a1 a2 a3 a4 a5 => Sys2Proof.Machine.execBorder a1 a2 a3 a4 a5 s
  | .pyramid a1 a2 a3 a4 => Sys2Proof.Machine.execPyramid a1 a2 a3 a4 s
  | .unitArrived a1 a2 a3 a4 a5 a6 => Sys2Proof.Machine.execUnitArrived a1 a2 a3 a4 a5 a6 s
  | .pairid a1 => Sys2Proof.Machine.execPairid a1 s
  | .digest a1 => Sys2Proof.Machine.execDigest a1 s
  | .ckptReq a1 => Sys2Proof.Machine.execCkptReq a1 s
  | .ckpt a1 a2 => Sys2Proof.Machine.execCkpt a1 a2 s
  | .claimed a1 => Sys2Proof.Machine.execClaimed a1 s
  | .handover a1 => Sys2Proof.Machine.execHandover a1 s
  | .handoverTick => Sys2Proof.Machine.execHandoverTick s
  | .pairbeat a1 => Sys2Proof.Machine.execPairbeat a1 s
  | .pairLinkTimeout => Sys2Proof.Machine.execPairLinkTimeout s
  | .peerHeartbeatFailed => Sys2Proof.Machine.execPeerHeartbeatFailed s
  | .peerHeartbeatLive => Sys2Proof.Machine.execPeerHeartbeatLive s
  | .drawbarReleased => Sys2Proof.Machine.execDrawbarReleased s
  | .claimSlot a1 => Sys2Proof.Machine.execClaimSlot a1 s
  | .sendingStrobeStop => Sys2Proof.Machine.execSendingStrobeStop s
  | .revertHoldoffComplete => Sys2Proof.Machine.execRevertHoldoffComplete s
  | .primarySuspectYield => Sys2Proof.Machine.execPrimarySuspectYield s
  | .refreshDue a1 a2 a3 => Sys2Proof.Machine.execRefreshDue a1 a2 a3 s
  | .dramCommandCycle a1 a2 a3 a4 => Sys2Proof.Machine.execDramCommandCycle a1 a2 a3 a4 s
  | .dramEccError a1 a2 => Sys2Proof.Machine.execDramEccError a1 a2 s
  | .mr4Read a1 a2 a3 => Sys2Proof.Machine.execMr4Read a1 a2 a3 s
  | .boardTemperatureChange a1 => Sys2Proof.Machine.execBoardTemperatureChange a1 s
  | .debtPaymentComplete a1 => Sys2Proof.Machine.execDebtPaymentComplete a1 s
  | .powerDownEntry a1 a2 => Sys2Proof.Machine.execPowerDownEntry a1 a2 s
  | .selfRefreshWake a1 => Sys2Proof.Machine.execSelfRefreshWake a1 s
  | .selfRefreshReentry a1 => Sys2Proof.Machine.execSelfRefreshReentry a1 s
  | .oscillatorRun a1 a2 => Sys2Proof.Machine.execOscillatorRun a1 a2 s
  | .demandMeasurement a1 => Sys2Proof.Machine.execDemandMeasurement a1 s
  | .referenceGlitch => Sys2Proof.Machine.execReferenceGlitch s
  | .referenceStop a1 => Sys2Proof.Machine.execReferenceStop a1 s
  | .referenceQualified a1 a2 => Sys2Proof.Machine.execReferenceQualified a1 a2 s
  | .rootLocked => Sys2Proof.Machine.execRootLocked s
  | .lossOfLock a1 a2 => Sys2Proof.Machine.execLossOfLock a1 a2 s
  | .bypassAcquisitionAttempt => Sys2Proof.Machine.execBypassAcquisitionAttempt s
  | .referenceStartupTimeout a1 => Sys2Proof.Machine.execReferenceStartupTimeout a1 s
  | .holdoverAlarm => Sys2Proof.Machine.execHoldoverAlarm s
  | .lodgeRuleFire a1 a2 => Sys2Proof.Machine.execLodgeRuleFire a1 a2 s
  | .brownoutSequence a1 a2 => Sys2Proof.Machine.execBrownoutSequence a1 a2 s
  | .thermalTrip a1 a2 => Sys2Proof.Machine.execThermalTrip a1 a2 s
  | .wakeNLow => Sys2Proof.Machine.execWakeNLow s
  | .vlodgePowerOn a1 => Sys2Proof.Machine.execVlodgePowerOn a1 s
  | .vinPowerOn a1 => Sys2Proof.Machine.execVinPowerOn a1 s
  | .pinReset => Sys2Proof.Machine.execPinReset s
  | .lodgeReset a1 => Sys2Proof.Machine.execLodgeReset a1 s
  | .watchdogExpiry a1 => Sys2Proof.Machine.execWatchdogExpiry a1 s
  | .startingComplete a1 => Sys2Proof.Machine.execStartingComplete a1 s
  | .timeAnchor => Sys2Proof.Machine.execTimeAnchor s
  | .blackBoxWrite => Sys2Proof.Machine.execBlackBoxWrite s
  | .coalesceExpiry a1 a2 a3 => Sys2Proof.Machine.execCoalesceExpiry a1 a2 a3 s
  | .ruleConditionCleared a1 => Sys2Proof.Machine.execRuleConditionCleared a1 s
  | .thermalHoldRelease => Sys2Proof.Machine.execThermalHoldRelease s
  | .vlodgeLoss => Sys2Proof.Machine.execVlodgeLoss s
  | .resetNRisingEdge a1 => Sys2Proof.Machine.execResetNRisingEdge a1 s
  | .ptpDelayReq a1 a2 => Sys2Proof.Machine.execPtpDelayReq a1 a2 s
  | .heartbeatSend => Sys2Proof.Machine.execHeartbeatSend s
  | .tsyncSend => Sys2Proof.Machine.execTsyncSend s
  | .tdelayReqSend => Sys2Proof.Machine.execTdelayReqSend s
  | .pairbeatSend => Sys2Proof.Machine.execPairbeatSend s
  | .st211030Packet a1 => Sys2Proof.Machine.execSt211030Packet a1 s
  | .returnVideoLine a1 a2 => Sys2Proof.Machine.execReturnVideoLine a1 a2 s
  | .decodeAssistComplete a1 => Sys2Proof.Machine.execDecodeAssistComplete a1 s
  | .substituteReconstructionComplete a1 => Sys2Proof.Machine.execSubstituteReconstructionComplete a1 s
  | .performanceCounterWrap a1 => Sys2Proof.Machine.execPerformanceCounterWrap a1 s

end Sys2Proof.Machine
end

