-- ==== Sys2Proof/Machine/Step.lean ====
section
/-! DEFINITION. Step.lean: one step of the block: the command at the front of the queue. -/

namespace Sys2Proof.Machine

/-- One step: the front command is carried out on the machine with the queue's rest; on an empty queue the block idles.
[DESIGN CHOICE: log entries 1, 4, 15] -/
def step (s : State) : Host.Outcome State Fault Refusal :=
  match s.pending with
  | [] => .next s
  | c :: r => exec c { s with pending := r }

/-- The machine with the command that a word spells put at the front of its queue; unchanged where the word spells none.
[DESIGN CHOICE: log entry 4] -/
def State.withFetchWord (s : State) (nbits w : Nat) : State :=
  match decodeTableWord nbits w with
  | some c => { s with pending := c :: s.pending }
  | none => s

end Sys2Proof.Machine
end

