-- ==== Sys2Proof/WellFormed.lean ====
section
/-! DEFINITION. WellFormed.lean: commands whose operands name units the part has and whose request headers fit their fields. A
command that fails a check of a unit's number faults; the other checks say what the bus that carries a command can spell. -/

namespace Sys2Proof

/-! One check for each kind of operand -/

/-- A channel of the device (R14). -/
def chanNo (n : Nat) : Bool := decide (n < 128)
/-- One of ports NET0–NET3 or CW0–CW3 (R346, R407). -/
def portNo (n : Nat) : Bool := decide (n < 4)
/-- A node of a cluster (R443). -/
def nodeNo (n : Nat) : Bool := decide (n < 16)
/-- A flow of the flow table (R350). -/
def flowNo (n : Nat) : Bool := decide (n < 1024)
/-- A lane L00–L47 (R406). -/
def laneNo (n : Nat) : Bool := decide (n < 48)
/-- A stall of the Mews (R262). -/
def stallNo (n : Nat) : Bool := decide (n < 49152)
/-- A Pavilion (R181). -/
def pavNo (n : Nat) : Bool := decide (n < 64)
/-- A Pavilion, or an entropy unit numbered after them (R181, R186). -/
def engineNo (n : Nat) : Bool := decide (n < 80)
/-- A serial audio port (R381). -/
def serialPort (n : Nat) : Bool := decide (n < 16)
/-- An audio group (R389). -/
def audioGroup (n : Nat) : Bool := decide (n < 8)
/-- An audio output (R397). -/
def audioOutput (n : Nat) : Bool := decide (n < 32)
/-- A DRAM channel (R499). -/
def dramChan (n : Nat) : Bool := decide (n < 16)
/-- A quarter of the device (R499). -/
def quarterNo (n : Nat) : Bool := decide (n < 4)
/-- A device address within the largest DRAM (R499, R500): 64 GiB. -/
def dramAddress (a : Nat) : Bool := decide (a < 68719476736)
/-- A rule of the Lodge (R550). -/
def ruleNo (n : Nat) : Bool := decide (n < 64)
/-- A delivery or input ring (R370). -/
def ringNo (n : Nat) : Bool := decide (n < 32)
/-- A Turnstile unit (R607). -/
def turnstileNo (n : Nat) : Bool := decide (n < 10)
/-- A stage set 1–8 (R47), or one of the sets 9–48 in which this device holds the commits of its peer, of its start, of single
objects and of nodes that join (R70, R75, R449). -/
def setNo (n : Nat) : Bool := decide (1 ≤ n) && decide (n ≤ 48)
/-- A set that a coordinator prepares (R70, R75): a peer's is one of its stage sets, or of its single-object commits. -/
def preparedNo (coordinator n : Nat) : Bool :=
  if coordinator = 16 then (decide (1 ≤ n) && decide (n ≤ 8)) || (decide (18 ≤ n) && decide (n ≤ 25)) else setNo n
/-- A word of a Pavilion's memory (R181). -/
def sramWordNo (n : Nat) : Bool := decide (n < 32768)
/-- The fields of a datagram hold what their widths allow (R121). -/
def datagramWf (d : Datagram) : Bool :=
  decide (d.net < 4) && decide (d.srcIp < 4294967296) && decide (d.dstIp < 4294967296) && decide (d.srcPort < 65536) &&
    decide (d.dstPort < 65536)
/-- The fields of a request's header hold what their widths allow, on one of the paths (R100). -/
def requestWf (h : ReqHdr) : Bool :=
  decide (h.path < 4) && decide (h.version < 256) && decide (h.node < 256) && decide (h.txid < 65536) &&
    decide (h.session < 4294967296) && decide (h.counter < 18446744073709551616) &&
    datagramWf h.udp && decide (h.prio < 8)

/-- The requests that a manager relays (R118). -/
def Instr.relayable : Instr → Bool
  | .hello _ _ _ _ _ => false
  | .handshakeTimeout _ => false
  | .close _ => false
  | .sessionIdleTimeout _ => false
  | .read h _ => requestWf h
  | .write h _ => requestWf h
  | .describe h _ => requestWf h
  | .openSet h => requestWf h
  | .stage h _ _ => requestWf h
  | .readStaged h _ _ => requestWf h
  | .commit h _ _ => requestWf h
  | .abort h _ => requestWf h
  | .discard h _ => requestWf h
  | .snapshot h _ _ => requestWf h
  | .blockInit h _ _ _ _ => requestWf h
  | .blockSeg h _ _ _ => requestWf h
  | .blockEnd h _ _ => requestWf h
  | .blockTransferTimeout _ => false
  | .subscribe h _ _ _ _ => requestWf h
  | .unsubscribe h _ => requestWf h
  | .periodicNotice _ _ => false
  | .store h => requestWf h
  | .storeComplete _ => false
  | .clearStore h => requestWf h
  | .wake _ _ _ => false
  | .canFrameReceived _ => false
  | .canMessageTimeout _ => false
  | .relayTimeout _ _ => false
  | .mbxGo _ => false
  | .mbxRspClear => false
  | .mbxNtcClear => false
  | .fenceValueWrite _ _ _ => false
  | .ringTailWrite _ _ => false
  | .ringCtrlWrite _ _ => false
  | .registerWrite _ _ => false
  | .safeCauseAck _ _ => false
  | .lifecycleRequest _ _ => false
  | .rollbackAdvance _ _ => false
  | .settingsGenerationWrite _ _ _ => false
  | .programOwnerSlot _ _ _ => false
  | .revokeOwnerSlot _ _ => false
  | .attestationNonce _ _ => false
  | .armTrial _ _ => false
  | .confirmTrial _ _ => false
  | .confirmWindowExpiry _ => false
  | .warmReset _ _ => false
  | .mediaDomainReset _ _ => false
  | .timeSet _ _ => false
  | .applyPendingStep _ _ => false
  | .ppsSecondsWrite _ _ => false
  | .adjWrite _ _ => false
  | .yieldNow _ _ => false
  | .snapshotNow _ _ => false
  | .periodicCounterSnapshot => false
  | .taggedBundleRecord _ _ _ => false
  | .turnstileBinding _ _ _ => false
  | .turnstileCancel _ _ _ => false
  | .turnstileWindowEnd _ _ _ => false
  | .turnstileSourceEnded _ => false
  | .testStart _ _ => false
  | .testCancel _ _ => false
  | .testComplete _ _ _ => false
  | .hostNote _ _ => false
  | .timetableTick => false
  | .commitFire _ => false
  | .commitReadyPoint _ => false
  | .commitDecisionPoint _ => false
  | .commitCutoff _ => false
  | .armDeadline _ => false
  | .channelStart _ => false
  | .channelStop _ => false
  | .snapshotCapture _ => false
  | .audioGroupStart _ => false
  | .dramRetrainingWindow _ => false
  | .alarm _ _ _ => false
  | .gpioPulse _ _ _ _ => false
  | .triggerOutputPulse _ _ => false
  | .finishedSetRelease _ => false
  | .lineReceived _ _ _ => false
  | .boundarySupplied _ => false
  | .firstBoundarySupplied _ => false
  | .decodedPicturePresented _ => false
  | .lineMissing _ _ => false
  | .laneFailed _ => false
  | .laneRestored _ => false
  | .laneTrainingComplete _ _ => false
  | .electricalIdleEntry _ => false
  | .fastExit _ _ => false
  | .carriagewayIdleTimeout _ => false
  | .pergolaRowReady _ _ => false
  | .fetchComplete _ => false
  | .motionFieldDelivered _ _ => false
  | .rowBudgetSet _ _ => false
  | .operandToken _ _ => false
  | .coachDispatch _ => false
  | .bandRetire _ _ _ _ _ => false
  | .seamCoachComplete _ => false
  | .engineFault _ _ _ => false
  | .selfTestComplete _ _ => false
  | .probationEnd _ => false
  | .spareReady _ _ => false
  | .departureRow _ _ => false
  | .departureUnitRelease _ => false
  | .ringDelivery _ _ _ _ _ _ => false
  | .inputRingConsume _ _ => false
  | .inputPacketReceived _ _ _ _ => false
  | .inputPacketLost _ _ => false
  | .accessUnitDecoded _ _ => false
  | .confidenceRowResult _ _ _ _ _ => false
  | .netLinkChange _ _ => false
  | .arpResolve _ => false
  | .arpReceived _ _ => false
  | .igmpQuery _ _ => false
  | .icmpEcho _ _ => false
  | .ptpSync _ _ => false
  | .ptpAnnounce _ _ => false
  | .ptpDelayResp _ _ => false
  | .ptpMessageSend _ _ _ => false
  | .ptpParentLost => false
  | .slewComplete => false
  | .holdoverLimitExpiry => false
  | .ppsInEdge _ => false
  | .captureEdge _ _ _ => false
  | .audioFrameReceived _ _ _ _ => false
  | .audioMasterFrame _ _ => false
  | .audioSampleRead _ => false
  | .audioSilenceEnd _ => false
  | .audioRampComplete _ => false
  | .followLoopUpdate _ => false
  | .audioOutputFrame _ _ => false
  | .audioAccessUnitCoded _ _ => false
  | .cwFrameReceived _ _ => false
  | .cwAck _ _ => false
  | .cwNak _ _ => false
  | .cwCredit _ _ _ => false
  | .cwAckTimeout _ => false
  | .cwRetryExhausted _ => false
  | .cwPortUp _ => false
  | .linkid _ _ _ _ => false
  | .join _ => false
  | .joinRetry => false
  | .admitMember _ _ => false
  | .rejectMember _ => false
  | .topo _ => false
  | .joinWindowExpiry => false
  | .heartbeat _ _ _ => false
  | .heartbeatMissed _ => false
  | .tsync _ _ => false
  | .tdelayReq _ _ _ => false
  | .tdelayRsp _ => false
  | .prepare _ _ _ _ => false
  | .armed _ _ => false
  | .refused _ _ _ _ => false
  | .ready _ _ => false
  | .notReady _ _ => false
  | .commitDecision _ _ _ => false
  | .snapdata _ _ _ _ _ _ => false
  | .relay _ _ => false
  | .relayRsp _ _ _ _ _ => false
  | .spanreq _ _ => false
  | .rowstat _ _ _ _ _ _ _ => false
  | .seam _ _ _ _ _ _ => false
  | .border _ _ _ _ _ => false
  | .pyramid _ _ _ _ => false
  | .unitArrived _ _ _ _ _ _ => false
  | .pairid _ => false
  | .digest _ => false
  | .ckptReq _ => false
  | .ckpt _ _ => false
  | .claimed _ => false
  | .handover _ => false
  | .handoverTick => false
  | .pairbeat _ => false
  | .pairLinkTimeout => false
  | .peerHeartbeatFailed => false
  | .peerHeartbeatLive => false
  | .drawbarReleased => false
  | .claimSlot _ => false
  | .sendingStrobeStop => false
  | .revertHoldoffComplete => false
  | .primarySuspectYield => false
  | .refreshDue _ _ _ => false
  | .dramCommandCycle _ _ _ _ => false
  | .dramEccError _ _ => false
  | .mr4Read _ _ _ => false
  | .boardTemperatureChange _ => false
  | .debtPaymentComplete _ => false
  | .powerDownEntry _ _ => false
  | .selfRefreshWake _ => false
  | .selfRefreshReentry _ => false
  | .oscillatorRun _ _ => false
  | .demandMeasurement _ => false
  | .referenceGlitch => false
  | .referenceStop _ => false
  | .referenceQualified _ _ => false
  | .rootLocked => false
  | .lossOfLock _ _ => false
  | .bypassAcquisitionAttempt => false
  | .referenceStartupTimeout _ => false
  | .holdoverAlarm => false
  | .lodgeRuleFire _ _ => false
  | .brownoutSequence _ _ => false
  | .thermalTrip _ _ => false
  | .wakeNLow => false
  | .vlodgePowerOn _ => false
  | .vinPowerOn _ => false
  | .pinReset => false
  | .lodgeReset _ => false
  | .watchdogExpiry _ => false
  | .startingComplete _ => false
  | .timeAnchor => false
  | .blackBoxWrite => false
  | .coalesceExpiry _ _ _ => false
  | .ruleConditionCleared _ => false
  | .thermalHoldRelease => false
  | .vlodgeLoss => false
  | .resetNRisingEdge _ => false
  | .ptpDelayReq _ _ => false
  | .heartbeatSend => false
  | .tsyncSend => false
  | .tdelayReqSend => false
  | .pairbeatSend => false
  | .st211030Packet _ => false
  | .returnVideoLine _ _ => false
  | .decodeAssistComplete _ => false
  | .substituteReconstructionComplete _ => false
  | .performanceCounterWrap _ => false

/-- Every operand of a command is one that the part and its buses have. [DESIGN CHOICE: log entry 8] -/
def Instr.wf : Instr → Bool
  | .hello h _ _ _ _ => requestWf h
  | .handshakeTimeout _ => true
  | .close h => requestWf h
  | .sessionIdleTimeout _ => true
  | .read h _ => requestWf h
  | .write h _ => requestWf h
  | .describe h _ => requestWf h
  | .openSet h => requestWf h
  | .stage h _ _ => requestWf h
  | .readStaged h _ _ => requestWf h
  | .commit h _ _ => requestWf h
  | .abort h _ => requestWf h
  | .discard h _ => requestWf h
  | .snapshot h _ _ => requestWf h
  | .blockInit h _ _ _ _ => requestWf h
  | .blockSeg h _ _ _ => requestWf h
  | .blockEnd h _ _ => requestWf h
  | .blockTransferTimeout _ => true
  | .subscribe h _ _ _ _ => requestWf h
  | .unsubscribe h _ => requestWf h
  | .periodicNotice _ _ => true
  | .store h => requestWf h
  | .storeComplete _ => true
  | .clearStore h => requestWf h
  | .wake _ node _ => decide (node < 16)
  | .canFrameReceived _ => true
  | .canMessageTimeout _ => true
  | .relayTimeout _ _ => true
  | .mbxGo _ => true
  | .mbxRspClear => true
  | .mbxNtcClear => true
  | .fenceValueWrite chan layer _ => chanNo chan && decide (layer ≤ 16)
  | .ringTailWrite ring _ => ringNo ring
  | .ringCtrlWrite ring _ => ringNo ring
  | .registerWrite _ _ => true
  | .safeCauseAck h _ => requestWf h
  | .lifecycleRequest h _ => requestWf h
  | .rollbackAdvance h _ => requestWf h
  | .settingsGenerationWrite h _ _ => requestWf h
  | .programOwnerSlot h _ _ => requestWf h
  | .revokeOwnerSlot h _ => requestWf h
  | .attestationNonce h _ => requestWf h
  | .armTrial h _ => requestWf h
  | .confirmTrial h _ => requestWf h
  | .confirmWindowExpiry _ => true
  | .warmReset h _ => requestWf h
  | .mediaDomainReset h _ => requestWf h
  | .timeSet h _ => requestWf h
  | .applyPendingStep h _ => requestWf h
  | .ppsSecondsWrite h _ => requestWf h
  | .adjWrite h _ => requestWf h
  | .yieldNow h _ => requestWf h
  | .snapshotNow h _ => requestWf h
  | .periodicCounterSnapshot => true
  | .taggedBundleRecord r _ _ => pavNo r.pav
  | .turnstileBinding h unit _ => requestWf h && turnstileNo unit
  | .turnstileCancel h unit _ => requestWf h && turnstileNo unit
  | .turnstileWindowEnd unit _ _ => turnstileNo unit
  | .turnstileSourceEnded unit => turnstileNo unit
  | .testStart h _ => requestWf h
  | .testCancel h _ => requestWf h
  | .testComplete _ _ _ => true
  | .hostNote h _ => requestWf h
  | .timetableTick => true
  | .commitFire set => setNo set
  | .commitReadyPoint set => setNo set
  | .commitDecisionPoint set => setNo set
  | .commitCutoff set => setNo set
  | .armDeadline set => setNo set
  | .channelStart chan => chanNo chan
  | .channelStop chan => chanNo chan
  | .snapshotCapture _ => true
  | .audioGroupStart group => audioGroup group
  | .dramRetrainingWindow dch => dramChan dch
  | .alarm _ _ _ => true
  | .gpioPulse _ pin _ _ => decide (pin < 16)
  | .triggerOutputPulse tg _ => decide (tg < 16)
  | .finishedSetRelease set => setNo set
  | .lineReceived chan segs _ => chanNo chan && segs.all (fun g => laneNo g.lane)
  | .boundarySupplied chan => chanNo chan
  | .firstBoundarySupplied chan => chanNo chan
  | .decodedPicturePresented chan => chanNo chan
  | .lineMissing chan _ => chanNo chan
  | .laneFailed lane => laneNo lane
  | .laneRestored lane => laneNo lane
  | .laneTrainingComplete lane _ => laneNo lane
  | .electricalIdleEntry lane => laneNo lane
  | .fastExit lane _ => laneNo lane
  | .carriagewayIdleTimeout port => portNo port
  | .pergolaRowReady chan _ => chanNo chan
  | .fetchComplete stall => stallNo stall
  | .motionFieldDelivered stall band => stallNo stall && stallNo band
  | .rowBudgetSet chan _ => chanNo chan
  | .operandToken stall slot => stallNo stall && decide (slot < 5)
  | .coachDispatch pav => pavNo pav
  | .bandRetire stall _ _ _ _ => stallNo stall
  | .seamCoachComplete stall => stallNo stall
  | .engineFault stall row word => stallNo stall && decide (row < 8) && sramWordNo word
  | .selfTestComplete pav _ => engineNo pav
  | .probationEnd pav => engineNo pav
  | .spareReady pav _ => pavNo pav
  | .departureRow chan _ => chanNo chan
  | .departureUnitRelease stall => stallNo stall
  | .ringDelivery ring _ _ _ _ _ => decide (ring < 16)
  | .inputRingConsume ring _ => ringNo ring && decide (16 ≤ ring)
  | .inputPacketReceived chan path p _ => chanNo chan && decide (path < 2) && datagramWf p.source && decide (p.payload < 128) &&
    decide (p.seq < 65536)
  | .inputPacketLost chan seq => chanNo chan && decide (seq < 65536)
  | .accessUnitDecoded chan _ => chanNo chan
  | .confidenceRowResult chan _ _ decoded _ => chanNo chan && decide (decoded < 4294967296)
  | .netLinkChange port _ => portNo port
  | .arpResolve port => portNo port
  | .arpReceived port _ => portNo port
  | .igmpQuery port _ => portNo port
  | .icmpEcho port _ => portNo port
  | .ptpSync port _ => portNo port
  | .ptpAnnounce port _ => portNo port
  | .ptpDelayResp port _ => portNo port
  | .ptpMessageSend port kind _ => portNo port && decide (kind < 4)
  | .ptpParentLost => true
  | .slewComplete => true
  | .holdoverLimitExpiry => true
  | .ppsInEdge _ => true
  | .captureEdge input _ _ => decide (input < 8)
  | .audioFrameReceived port _ _ _ => serialPort port
  | .audioMasterFrame port _ => serialPort port
  | .audioSampleRead port => serialPort port
  | .audioSilenceEnd port => serialPort port
  | .audioRampComplete port => serialPort port
  | .followLoopUpdate port => serialPort port
  | .audioOutputFrame port _ => serialPort port
  | .audioAccessUnitCoded output _ => audioOutput output
  | .cwFrameReceived port _ => portNo port
  | .cwAck port _ => portNo port
  | .cwNak port _ => portNo port
  | .cwCredit port vc _ => portNo port && decide (vc < 4)
  | .cwAckTimeout port => portNo port
  | .cwRetryExhausted port => portNo port
  | .cwPortUp port => portNo port
  | .linkid port node _ _ => portNo port && nodeNo node
  | .join j => nodeNo j.node && decide (j.parent < 256) && decide (j.depth < 256) && decide (j.upPort < 256) &&
    decide (j.links < 65536)
  | .joinRetry => true
  | .admitMember node _ => nodeNo node
  | .rejectMember _ => true
  | .topo _ => true
  | .joinWindowExpiry => true
  | .heartbeat node _ _ => nodeNo node
  | .heartbeatMissed node => nodeNo node
  | .tsync _ _ => true
  | .tdelayReq node _ _ => nodeNo node
  | .tdelayRsp _ => true
  | .prepare coordinator set _ _ => decide (coordinator ≤ 16) && preparedNo coordinator set
  | .armed node set => decide (node ≤ 16) && setNo set
  | .refused node set _ _ => decide (node ≤ 16) && setNo set
  | .ready node set => decide (node ≤ 16) && setNo set
  | .notReady node set => decide (node ≤ 16) && setNo set
  | .commitDecision set decision _ => setNo set && decide (1 ≤ decision) && decide (decision < 4)
  | .snapdata node _ _ _ _ _ => nodeNo node
  | .relay cls req => decide (cls < 4) && req.relayable
  | .relayRsp node _ _ _ _ => nodeNo node
  | .spanreq group node => decide (group < 4) && nodeNo node
  | .rowstat chan node _ _ _ _ _ => chanNo chan && nodeNo node
  | .seam chan node _ _ _ _ => chanNo chan && nodeNo node
  | .border chan node _ _ _ => chanNo chan && nodeNo node
  | .pyramid chan node _ _ => chanNo chan && nodeNo node
  | .unitArrived chan node _ _ _ _ => chanNo chan && nodeNo node
  | .pairid _ => true
  | .digest records => records.all (fun r => decide (r.chan < 160))
  | .ckptReq chan => chanNo chan
  | .ckpt chan _ => chanNo chan
  | .claimed _ => true
  | .handover _ => true
  | .handoverTick => true
  | .pairbeat _ => true
  | .pairLinkTimeout => true
  | .peerHeartbeatFailed => true
  | .peerHeartbeatLive => true
  | .drawbarReleased => true
  | .claimSlot _ => true
  | .sendingStrobeStop => true
  | .revertHoldoffComplete => true
  | .primarySuspectYield => true
  | .refreshDue dch rank bank => dramChan dch && decide (rank < 2) && decide (bank < 16)
  | .dramCommandCycle dch arrivals _ _ => dramChan dch && arrivals.all (fun r => decide (r.cls < 4))
  | .dramEccError addr _ => dramAddress addr
  | .mr4Read dch _ _ => dramChan dch
  | .boardTemperatureChange _ => true
  | .debtPaymentComplete dch => dramChan dch
  | .powerDownEntry dch rank => dramChan dch && decide (rank < 2)
  | .selfRefreshWake quarter => quarterNo quarter
  | .selfRefreshReentry quarter => quarterNo quarter
  | .oscillatorRun dch _ => dramChan dch
  | .demandMeasurement demand => decide (demand.length = 4)
  | .referenceGlitch => true
  | .referenceStop _ => true
  | .referenceQualified _ _ => true
  | .rootLocked => true
  | .lossOfLock _ _ => true
  | .bypassAcquisitionAttempt => true
  | .referenceStartupTimeout _ => true
  | .holdoverAlarm => true
  | .lodgeRuleFire rule _ => ruleNo rule
  | .brownoutSequence rule _ => ruleNo rule
  | .thermalTrip sensor _ => decide (sensor < 16)
  | .wakeNLow => true
  | .vlodgePowerOn _ => true
  | .vinPowerOn _ => true
  | .pinReset => true
  | .lodgeReset _ => true
  | .watchdogExpiry _ => true
  | .startingComplete _ => true
  | .timeAnchor => true
  | .blackBoxWrite => true
  | .coalesceExpiry _ _ _ => true
  | .ruleConditionCleared rule => ruleNo rule
  | .thermalHoldRelease => true
  | .vlodgeLoss => true
  | .resetNRisingEdge _ => true
  | .ptpDelayReq port _ => portNo port
  | .heartbeatSend => true
  | .tsyncSend => true
  | .tdelayReqSend => true
  | .pairbeatSend => true
  | .st211030Packet flow => flowNo flow
  | .returnVideoLine chan _ => chanNo chan
  | .decodeAssistComplete stall => stallNo stall
  | .substituteReconstructionComplete stall => stallNo stall
  | .performanceCounterWrap counter => decide (counter < 1152)

end Sys2Proof
end

