-- ==== Sys2Proof/Safety.lean ====
section
/-! DEFINITION. Safety.lean: the terms in which statements are made: the invariant of a step, a request that the Gatehouse
takes, and the response that leaves it. -/

namespace Sys2Proof.Machine

/-! The invariant -/

/-- The object dictionary in its canonical form: keys strictly rising, and no object listed at its reset value. -/
def odWf (t : Tab Val) : Prop := tabWf t = true ∧ ∀ kv ∈ t, kv.2 ≠ odDefault (kv.1 / 256) (kv.1 % 256)

/-- Device DRAM in its canonical form: addresses strictly rising, and no byte listed that is as power-on left it. -/
abbrev Memory.wf (t : Tab Byte) : Prop := tabWf t = true ∧ ∀ kv ∈ t, kv.2 ≠ Config.dramByte kv.1

/-- A timetable list in DUE order (R283). -/
def dueOrder : List TtEntry → Prop
  | [] => True
  | [_] => True
  | a :: b :: r => a.due ≤ b.due ∧ dueOrder (b :: r)

/-- The four lists of the timetable, each in DUE order (R283, R284). -/
def ttWf (t : List (List TtEntry)) : Prop := t.length = 4 ∧ ∀ l ∈ t, dueOrder l

/-- What every step keeps. -/
def State.Inv (s : State) : Prop := odWf s.od ∧ Memory.wf s.dramMem ∧ ttWf s.tt

/-! Requests (R100–R106, R118–R120) -/

/-- A request as it is kept (R105). -/
def askOf (h : ReqHdr) (v : Service) : Ask := ⟨sessionKey h, h.txid, h.node, v.code, h.path, v.req, h.udp, h.prio⟩

/-- A request that the Gatehouse executes here and at once, on the session `x`: a host path that is on and hears it, with the
mailbox free where it comes by that, version 1, a body that the path carries, the session's tag and a counter above the
last, no kept response to the same request, none of the session's requests unanswered, and the device's own node (R100–R106,
R118–R121, R127, R128). -/
structure Accepts (s : State) (h : ReqHdr) (v : Service) (x : Session) : Prop where
  awake : s.mode ≠ .dormant
  unheld : s.lodge.held = false
  path : h.path ≤ 2
  heard : s.hears h = true
  mailbox : h.path = 2 → s.ctl.mbx.busy = false ∧ s.ctl.mbx.rspValid = false
  version : h.version = 1
  size : h.length ≤ pathBody h.path
  number : h.session ≠ 0
  session : tget s.ctl.sessions h.session = some x
  auth : h.auth = true
  tag : h.tagOk = true
  counter : x.rx < h.counter
  fresh : x.kept.find? (fun k => k.ask.same (askOf h v)) = none
  idle : x.slots = []
  node : s.nodeCode h v = .ok
  here : s.relays h v = false
  body : h.bodyOk = true

/-- The machine as a request by path `p` finds it: the mailbox is busy where it came by that (R127). -/
def State.going (s : State) (p : Nat) : State :=
  if p = 2 then { s with ctl := { s.ctl with mbx := { s.ctl.mbx with busy := true } } } else s

/-- The machine as an accepted request finds it: the mailbox busy where it came by that, its counter, its time and its datagram
noted, and the request kept and unanswered (R102, R104, R105, R127). -/
def State.taken (s : State) (h : ReqHdr) (v : Service) (x : Session) : State :=
  ((s.going h.path).onSession h.session (fun y =>
    { y with rx := h.counter, lastUse := s.now, udp := h.udp })).onSession h.session (fun y =>
    { y with slots := y.slots ++ [{ ask := askOf h v }],
             kept := ((⟨askOf h v, none⟩ : Kept) :: x.kept.filter (fun k => k.ask.txid != h.txid)).take 16 })

/-- The response to a request has left, authenticated, under the session's next counter (R100, R102, R106). -/
def Replies (t : State) (h : ReqHdr) (x : Session) (service : Nat) (c : Code) (b : List Byte) : Prop :=
  t.ctl.sent = some { service := service, node := h.node, txid := h.txid, session := h.session % 4294967296,
                      counter := x.tx + 1, status := c, body := b, auth := true, udp := replyTo h.udp, prio := h.prio }

/-- A WRITE of one command object that the machine takes: its entry passes every check, no armed set writes the object, and no
other write waits for the tick (R45, R91–R95, R109). -/
structure Takes (s : State) (h : ReqHdr) (x : Session) (i j len : Nat) (v : Val) : Prop where
  accepts : Accepts s h { code := 0x11, req := .write (bareHdr h) [⟨⟨i, j⟩, len, v⟩], objs := [⟨i, j⟩], writes := true } x
  checked : s.entryCode ⟨x.cls, x.cred, x.perms, none⟩ i j len v false false = .ok
  unarmed : s.armedSets.any (fun k => (tget (s.set k).writes (okey i j)).isSome) = false
  clear : s.soon = []

/-- A command object's WRITE has been taken (R45, R109): it alone waits for the next tick, and is answered OK; of the rest, the
control path and its interrupt apart, nothing has changed. -/
def Waits (s t : State) (h : ReqHdr) (x : Session) (i j : Nat) (v : Val) (bad : List Nat) : Prop :=
  t = { s with ctl := t.ctl, msix := t.msix,
               soon := [{ key := okey i j, val := v, who := ⟨x.cls, x.cred, x.perms, none⟩, bad := bad, counted := true }] } ∧
    Replies t h x 0x11 .ok (statusWords [.ok])

/-- Nothing that a tick looks at after its commits is there: no timetable entry, no stage set, no transition, no snapshot, and
no session with anything to hear. -/
structure Idle (s : State) : Prop where
  entries : s.tt = [[], [], [], []]
  sets : s.sets = []
  moving : s.moving = none
  snaps : s.ctl.snaps = []
  ears : ∀ kv ∈ s.ctl.sessions, kv.2.subs = [] ∧ kv.2.queue = []

/-- One commit `w` waits for the next tick, and nothing else is due there (R45). -/
structure AtTick (s : State) (w : Soon) : Prop where
  clocked : s.clocked = true
  idle : Idle s
  waits : s.soon = [w]

/-! The Lodge (R550, R551) -/

/-- Rule k of the table in force fires with a filtered value: it is active in the mode, its condition holds and was not true. -/
structure Fires (s : State) (k : Nat) (v : Int) (r : LodgeRule) : Prop where
  range : k < 64
  rule : s.lodge.rules[k]? = some r
  powered : s.lodge.powered = true
  active : r.active s.mode = true
  holds : r.holds v = true
  reads : s.inputReads r.input v = true
  fresh : s.lodge.conds.contains k = false

/-! Channels (R46, R168–R172) -/

/-- A channel at whose next frame boundary nothing but a picture begins: no stage set waits, no write and no stop is due there, no
transition executes, and neither a mirror pair nor a span takes part; every line of a picture in progress has come. -/
structure Quiet (s : State) (n : Nat) : Prop where
  sets : s.sets = []
  pend : (s.ch n).pend = []
  stopping : (s.ch n).stopping = none
  enabled : (s.cfg n).enable = true
  still : s.moving = none
  unpaired : s.pair.state = 0
  alone : s.pc n = {}
  whole : tget s.cluster.spans n = none
  full : (s.ch n).running = true → ∀ l, l < (s.cfg n).h → (tget (s.ch n).have_ l).isSome = true

/-! Frames -/

/-- A part of the machine's state: one of the fields of State, its queue of commands apart. -/
inductive Part where
  | free | mode | moving | held | od | ctl | sets | armings | soon | undo | acted | meas | tt | chan | lane | cw
  | flow | net | ring | msix | tb | bb | mews | lodge | sec | ret | dec | audio | cluster | pair | dram | dramCfg
  | board | dramMem | clk | ptp | cap | trig | cs | perf | jtag
deriving DecidableEq, Repr

/-- A part is the same in two states. -/
def Part.same (p : Part) (s t : State) : Prop :=
  match p with
  | .free => t.free = s.free
  | .mode => t.mode = s.mode
  | .moving => t.moving = s.moving
  | .held => t.held = s.held
  | .od => t.od = s.od
  | .ctl => t.ctl = s.ctl
  | .sets => t.sets = s.sets
  | .armings => t.armings = s.armings
  | .soon => t.soon = s.soon
  | .undo => t.undo = s.undo
  | .acted => t.acted = s.acted
  | .meas => t.meas = s.meas
  | .tt => t.tt = s.tt
  | .chan => t.chan = s.chan
  | .lane => t.lane = s.lane
  | .cw => t.cw = s.cw
  | .flow => t.flow = s.flow
  | .net => t.net = s.net
  | .ring => t.ring = s.ring
  | .msix => t.msix = s.msix
  | .tb => t.tb = s.tb
  | .bb => t.bb = s.bb
  | .mews => t.mews = s.mews
  | .lodge => t.lodge = s.lodge
  | .sec => t.sec = s.sec
  | .ret => t.ret = s.ret
  | .dec => t.dec = s.dec
  | .audio => t.audio = s.audio
  | .cluster => t.cluster = s.cluster
  | .pair => t.pair = s.pair
  | .dram => t.dram = s.dram
  | .dramCfg => t.dramCfg = s.dramCfg
  | .board => t.board = s.board
  | .dramMem => t.dramMem = s.dramMem
  | .clk => t.clk = s.clk
  | .ptp => t.ptp = s.ptp
  | .cap => t.cap = s.cap
  | .trig => t.trig = s.trig
  | .cs => t.cs = s.cs
  | .perf => t.perf = s.perf
  | .jtag => t.jtag = s.jtag

/-- Every part. -/
def Part.all : List Part :=
  [.free, .mode, .moving, .held, .od, .ctl, .sets, .armings, .soon, .undo, .acted, .meas, .tt, .chan, .lane, .cw,
  .flow, .net, .ring, .msix, .tb, .bb, .mews, .lodge, .sec, .ret, .dec, .audio, .cluster, .pair, .dram, .dramCfg,
  .board, .dramMem, .clk, .ptp, .cap, .trig, .cs, .perf, .jtag]

/-- The parts that a command may change. A command that can begin STARTING, or put a stage set into force that writes any
object, may change every part but those that no such command reaches. -/
def touches (c : Instr) : List Part :=
  match c with
  | .coalesceExpiry .. =>
    [.bb]
  | .bypassAcquisitionAttempt .. =>
    [.clk]
  | .joinRetry .. | .tdelayReq .. | .spanreq .. | .border .. | .pyramid .. | .heartbeatSend .. | .tsyncSend .. |
    .tdelayReqSend .. =>
    [.cluster]
  | .handshakeTimeout .. | .blockTransferTimeout .. =>
    [.ctl]
  | .thermalHoldRelease .. =>
    [.lodge]
  | .fetchComplete .. | .operandToken .. | .probationEnd .. =>
    [.mews]
  | .digest .. | .ckpt .. | .handover .. =>
    [.pair]
  | .performanceCounterWrap .. =>
    [.perf]
  | .ringTailWrite .. | .ringCtrlWrite .. =>
    [.ring]
  | .finishedSetRelease .. =>
    [.sets]
  | .fenceValueWrite .. =>
    [.soon]
  | .rowstat .. | .seam .. | .unitArrived .. =>
    [.chan, .cluster]
  | .substituteReconstructionComplete .. =>
    [.chan, .mews]
  | .ckptReq .. | .revertHoldoffComplete .. | .pairbeatSend .. =>
    [.cluster, .pair]
  | .audioSilenceEnd .. | .audioRampComplete .. =>
    [.ctl, .audio]
  | .laneRestored .. =>
    [.ctl, .lane]
  | .mbxRspClear .. | .mbxNtcClear .. =>
    [.ctl, .msix]
  | .peerHeartbeatLive .. =>
    [.ctl, .pair]
  | .periodicNotice .. =>
    [.free, .ctl]
  | .motionFieldDelivered .. =>
    [.mews, .cluster]
  | .departureUnitRelease .. =>
    [.mews, .perf]
  | .audioMasterFrame .. =>
    [.od, .audio]
  | .timeAnchor .. | .blackBoxWrite .. =>
    [.od, .bb]
  | .lineMissing .. =>
    [.od, .chan]
  | .admitMember .. | .rejectMember .. | .heartbeat .. =>
    [.od, .cluster]
  | .canMessageTimeout .. | .netLinkChange .. | .topo .. =>
    [.od, .ctl]
  | .inputPacketReceived .. | .inputPacketLost .. =>
    [.od, .dec]
  | .refreshDue .. | .powerDownEntry .. | .selfRefreshReentry .. =>
    [.od, .dram]
  | .electricalIdleEntry .. | .fastExit .. | .carriagewayIdleTimeout .. =>
    [.od, .lane]
  | .wake .. | .wakeNLow .. =>
    [.od, .lodge]
  | .arpResolve .. | .igmpQuery .. | .icmpEcho .. =>
    [.od, .net]
  | .taggedBundleRecord .. =>
    [.od, .perf]
  | .ptpMessageSend .. | .ptpDelayReq .. =>
    [.od, .ptp]
  | .holdoverLimitExpiry .. =>
    [.od, .tb]
  | .ready .. | .notReady .. =>
    [.sets, .cluster]
  | .rowBudgetSet .. =>
    [.chan, .mews, .cluster]
  | .registerWrite .. | .inputRingConsume .. =>
    [.ctl, .ring, .msix]
  | .audioOutputFrame .. =>
    [.free, .od, .audio]
  | .followLoopUpdate .. =>
    [.free, .od, .ctl]
  | .periodicCounterSnapshot .. =>
    [.free, .od, .perf]
  | .spareReady .. =>
    [.od, .bb, .mews]
  | .confirmWindowExpiry .. =>
    [.od, .bb, .sec]
  | .pergolaRowReady .. =>
    [.od, .chan, .mews]
  | .returnVideoLine .. =>
    [.od, .chan, .ret]
  | .audioFrameReceived .. | .audioSampleRead .. =>
    [.od, .ctl, .audio]
  | .captureEdge .. =>
    [.od, .ctl, .cap]
  | .referenceGlitch .. | .referenceStop .. =>
    [.od, .ctl, .clk]
  | .turnstileSourceEnded .. =>
    [.od, .ctl, .cs]
  | .debtPaymentComplete .. =>
    [.od, .ctl, .dram]
  | .ruleConditionCleared .. =>
    [.od, .ctl, .lodge]
  | .arpReceived .. =>
    [.od, .ctl, .net]
  | .handoverTick .. | .pairLinkTimeout .. | .drawbarReleased .. | .sendingStrobeStop .. | .primarySuspectYield .. =>
    [.od, .ctl, .pair]
  | .slewComplete .. =>
    [.od, .ctl, .tb]
  | .audioGroupStart .. =>
    [.od, .ctl, .tt]
  | .selfRefreshWake .. =>
    [.od, .dram, .cs]
  | .dramCommandCycle .. =>
    [.od, .dram, .perf]
  | .channelStop .. =>
    [.od, .tt, .chan]
  | .coachDispatch .. =>
    [.od, .bb, .mews, .perf]
  | .holdoverAlarm .. =>
    [.od, .ctl, .bb, .clk]
  | .pairid .. | .claimed .. | .pairbeat .. | .claimSlot .. =>
    [.od, .ctl, .cluster, .pair]
  | .boardTemperatureChange .. =>
    [.od, .ctl, .dram, .board]
  | .laneFailed .. | .laneTrainingComplete .. =>
    [.od, .ctl, .lane, .bb]
  | .referenceQualified .. =>
    [.od, .ctl, .meas, .clk]
  | .demandMeasurement .. =>
    [.od, .ctl, .meas, .dec]
  | .mr4Read .. =>
    [.od, .ctl, .meas, .dram]
  | .turnstileWindowEnd .. =>
    [.od, .ctl, .msix, .cs]
  | .peerHeartbeatFailed .. =>
    [.od, .ctl, .sets, .pair]
  | .sessionIdleTimeout .. =>
    [.od, .ctl, .sets, .tt]
  | .ptpAnnounce .. | .ptpParentLost .. =>
    [.od, .ctl, .tb, .ptp]
  | .dramRetrainingWindow .. =>
    [.od, .ctl, .tt, .dram]
  | .cwAck .. | .cwCredit .. =>
    [.od, .lane, .cw, .perf]
  | .tdelayRsp .. =>
    [.od, .meas, .tb, .cluster]
  | .ptpDelayResp .. =>
    [.od, .meas, .tb, .ptp]
  | .alarm .. | .gpioPulse .. | .triggerOutputPulse .. =>
    [.free, .od, .ctl, .tt, .trig]
  | .resetNRisingEdge .. =>
    [.od, .bb, .lodge, .cluster, .pair]
  | .linkid .. =>
    [.od, .ctl, .cw, .cluster, .pair]
  | .ringDelivery .. =>
    [.od, .ctl, .flow, .ring, .msix]
  | .oscillatorRun .. =>
    [.od, .ctl, .meas, .tt, .dram]
  | .channelStart .. =>
    [.od, .tt, .chan, .dec, .cluster]
  | .hello .. =>
    [.free, .od, .ctl, .msix, .sec, .cluster]
  | .confidenceRowResult .. =>
    [.od, .ctl, .bb, .dec, .cluster, .pair]
  | .heartbeatMissed .. =>
    [.od, .ctl, .chan, .tb, .bb, .cluster]
  | .audioAccessUnitCoded .. | .st211030Packet .. =>
    [.od, .ctl, .flow, .audio, .cluster, .pair]
  | .close .. | .openSet .. | .discard .. | .blockSeg .. | .unsubscribe .. | .store .. | .storeComplete .. |
    .clearStore .. | .relayTimeout .. | .armed .. | .snapdata .. =>
    [.od, .ctl, .sets, .tt, .msix, .cluster]
  | .joinWindowExpiry .. | .prepare .. =>
    [.od, .sets, .armings, .tt, .audio, .cluster]
  | .describe .. | .readStaged .. | .subscribe .. =>
    [.free, .od, .ctl, .sets, .tt, .msix, .cluster]
  | .cwPortUp .. =>
    [.od, .ctl, .lane, .cw, .cluster, .pair, .perf]
  | .accessUnitDecoded .. | .decodeAssistComplete .. =>
    [.od, .ctl, .meas, .chan, .mews, .dec, .cs]
  | .rootLocked .. =>
    [.od, .ctl, .meas, .lane, .tb, .dram, .clk]
  | .join .. =>
    [.od, .ctl, .sets, .armings, .tt, .audio, .cluster]
  | .commitDecision .. =>
    [.free, .od, .ctl, .sets, .tt, .chan, .audio, .cluster]
  | .seamCoachComplete .. =>
    [.od, .ctl, .chan, .flow, .mews, .audio, .cluster, .pair]
  | .abort .. | .armDeadline .. | .refused .. =>
    [.od, .ctl, .sets, .tt, .chan, .msix, .audio, .cluster]
  | .commit .. =>
    [.free, .od, .ctl, .sets, .armings, .tt, .msix, .audio, .cluster]
  | .cwRetryExhausted .. =>
    [.od, .ctl, .chan, .lane, .cw, .tb, .bb, .cluster, .pair]
  | .testComplete .. =>
    [.mode, .moving, .held, .od, .ctl, .bb, .lodge, .dram, .dramMem, .perf]
  | .cwFrameReceived .. | .cwNak .. | .cwAckTimeout .. =>
    [.od, .ctl, .chan, .lane, .cw, .tb, .bb, .cluster, .pair, .perf]
  | .write .. | .stage .. | .blockEnd .. | .safeCauseAck .. | .lifecycleRequest .. | .rollbackAdvance .. |
    .settingsGenerationWrite .. | .programOwnerSlot .. | .revokeOwnerSlot .. | .attestationNonce .. | .armTrial .. |
    .confirmTrial .. | .warmReset .. | .mediaDomainReset .. | .timeSet .. | .applyPendingStep .. |
    .ppsSecondsWrite .. | .adjWrite .. | .yieldNow .. | .snapshotNow .. | .turnstileBinding .. |
    .turnstileCancel .. | .testStart .. | .testCancel .. | .hostNote .. =>
    [.free, .od, .ctl, .sets, .armings, .soon, .tt, .msix, .sec, .audio, .cluster]
  | .read .. | .snapshot .. | .snapshotCapture .. | .relayRsp .. =>
    [.free, .od, .ctl, .sets, .tt, .msix, .dec, .cluster, .dram, .cap, .perf]
  | .blockInit .. =>
    [.free, .od, .ctl, .sets, .tt, .msix, .sec, .dec, .cluster, .dram, .cap, .perf]
  | .canFrameReceived .. | .mbxGo .. | .relay .. =>
    [.free, .od, .ctl, .sets, .armings, .soon, .tt, .chan, .msix, .sec, .dec, .audio, .cluster, .dram, .cap, .perf]
  | .departureRow .. =>
    [.free, .mode, .moving, .held, .od, .ctl, .chan, .flow, .bb, .mews, .lodge, .audio, .cluster, .pair, .dram, .cs, .perf]
  | .boundarySupplied .. =>
    [.mode, .moving, .held, .od, .ctl, .sets, .meas, .chan, .flow, .bb, .mews, .lodge, .cluster, .pair, .dram, .cs, .perf]
  | .engineFault .. | .selfTestComplete .. | .dramEccError .. =>
    [.mode, .moving, .held, .od, .ctl, .sets, .undo, .acted, .tt, .chan, .bb, .mews, .lodge, .audio, .cluster, .dram, .perf]
  | .firstBoundarySupplied .. =>
    [.free, .mode, .moving, .held, .od, .ctl, .sets, .meas, .chan, .flow, .bb, .mews, .lodge, .cluster, .pair, .dram, .cs, .perf]
  | .bandRetire .. =>
    [.free, .mode, .moving, .held, .od, .ctl, .sets, .undo, .acted, .tt, .chan, .bb, .mews, .lodge, .audio, .cluster, .dram, .perf]
  | .ptpSync .. | .ppsInEdge .. | .tsync .. =>
    [.od, .ctl, .sets, .meas, .cw, .net, .ring, .tb, .mews, .cluster, .pair, .dram, .clk, .ptp, .cap, .trig, .cs, .perf]
  | .decodedPicturePresented .. =>
    [.free, .mode, .moving, .held, .od, .ctl, .sets, .meas, .chan, .flow, .bb, .mews, .lodge, .dec, .cluster, .pair, .dram, .cs, .perf]
  | .lineReceived .. =>
    [.free, .mode, .moving, .held, .od, .ctl, .sets, .meas, .chan, .lane, .flow, .bb, .mews, .lodge, .cluster, .pair, .dram, .cs, .perf]
  | .referenceStartupTimeout .. | .startingComplete .. =>
    [.free, .mode, .moving, .held, .od, .ctl, .sets, .armings, .tt, .lane, .tb, .bb, .mews, .lodge, .sec, .audio, .cluster, .dram, .dramCfg, .ptp, .perf]
  | .lossOfLock .. =>
    [.mode, .moving, .held, .od, .ctl, .sets, .undo, .acted, .tt, .chan, .lane, .tb, .bb, .mews, .lodge, .audio, .cluster, .pair, .dram, .clk, .perf]
  | .timetableTick .. | .commitFire .. | .commitReadyPoint .. | .commitDecisionPoint .. | .commitCutoff .. |
    .lodgeRuleFire .. | .brownoutSequence .. | .thermalTrip .. | .vinPowerOn .. | .pinReset .. | .lodgeReset .. |
    .watchdogExpiry .. =>
    Part.all.filter (fun p => p != .board && p != .dramCfg)
  | .vlodgePowerOn .. | .vlodgeLoss .. =>
    Part.all.filter (fun p => p != .board)

/-- The indices of the object dictionary, as ranges, outside which a command leaves every object as it is: given for the
commands that change a few objects of fixed indices. Of every other command this says nothing. -/
def registers (c : Instr) : Option (List (Nat × Nat)) :=
  match c with
  | .audioMasterFrame .. =>
    some []
  | .testComplete .. =>
    some [(0x1001, 0x1001), (0x1801, 0x1801), (0x1E00, 0x1E00), (0x1E10, 0x1E10)]
  | .ruleConditionCleared .. =>
    some [(0x1002, 0x1002)]
  | .canMessageTimeout .. =>
    some [(0x1100, 0x1100)]
  | .hello .. =>
    some [(0x1100, 0x1100), (0x1F38, 0x1F38)]
  | .close .. | .describe .. | .openSet .. | .discard .. | .blockSeg .. | .unsubscribe .. | .store .. | .clearStore .. =>
    some [(0x1100, 0x1100), (0x2002, 0x2002)]
  | .storeComplete .. =>
    some [(0x1104, 0x1104), (0x2002, 0x2002)]
  | .resetNRisingEdge .. =>
    some [(0x1300, 0x1300), (0x1E00, 0x1E00)]
  | .heartbeat .. =>
    some [(0x1300, 0x1301)]
  | .cwFrameReceived .. | .cwNak .. | .cwAckTimeout .. | .cwRetryExhausted .. =>
    some [(0x1300, 0x1301), (0x1401, 0x1401), (0x1500, 0x1508), (0x1920, 0x1953), (0x1E00, 0x1E00)]
  | .topo .. =>
    some [(0x1302, 0x1302)]
  | .linkid .. =>
    some [(0x1302, 0x1302), (0x1401, 0x1401)]
  | .handoverTick .. | .pairLinkTimeout .. | .peerHeartbeatFailed .. | .drawbarReleased .. | .claimSlot .. |
    .sendingStrobeStop .. | .primarySuspectYield .. =>
    some [(0x1401, 0x1401)]
  | .cwPortUp .. =>
    some [(0x1401, 0x1401), (0x1920, 0x1953)]
  | .pairid .. | .claimed .. | .pairbeat .. =>
    some [(0x1401, 0x1402)]
  | .audioAccessUnitCoded .. =>
    some [(0x1401, 0x1402), (0x1B40, 0x1B5F), (0x3000, 0x3FFF)]
  | .tdelayRsp .. =>
    some [(0x1500, 0x1500)]
  | .ptpParentLost .. | .slewComplete .. | .ppsInEdge .. | .tsync .. =>
    some [(0x1500, 0x1500), (0x1502, 0x1502), (0x1508, 0x1508)]
  | .ptpSync .. | .ptpAnnounce .. | .ptpDelayResp .. =>
    some [(0x1500, 0x1500), (0x1502, 0x1502), (0x1508, 0x1508), (0x1A00, 0x1A03)]
  | .holdoverLimitExpiry .. =>
    some [(0x1502, 0x1502)]
  | .ptpMessageSend .. | .ptpDelayReq .. =>
    some [(0x1502, 0x1502), (0x1A00, 0x1A03)]
  | .captureEdge .. =>
    some [(0x1508, 0x1508)]
  | .referenceGlitch .. | .referenceStop .. | .referenceQualified .. =>
    some [(0x1601, 0x1601)]
  | .wake .. | .wakeNLow .. =>
    some [(0x1702, 0x1703)]
  | .refreshDue .. | .dramCommandCycle .. | .boardTemperatureChange .. | .debtPaymentComplete .. |
    .powerDownEntry .. | .selfRefreshWake .. | .selfRefreshReentry .. =>
    some [(0x1801, 0x1801)]
  | .mr4Read .. =>
    some [(0x1801, 0x1801), (0x1810, 0x181F)]
  | .oscillatorRun .. =>
    some [(0x1801, 0x1801), (0x1810, 0x181F), (0x2002, 0x2002)]
  | .dramRetrainingWindow .. =>
    some [(0x1801, 0x1801), (0x2002, 0x2002)]
  | .demandMeasurement .. =>
    some [(0x1801, 0x1802)]
  | .electricalIdleEntry .. | .fastExit .. | .carriagewayIdleTimeout .. | .cwAck .. | .cwCredit .. =>
    some [(0x1920, 0x1953)]
  | .laneTrainingComplete .. =>
    some [(0x1920, 0x1953), (0x1960, 0x1960), (0x1E00, 0x1E00)]
  | .laneFailed .. =>
    some [(0x1920, 0x1953), (0x1E00, 0x1E00)]
  | .netLinkChange .. | .arpResolve .. | .arpReceived .. | .igmpQuery .. | .icmpEcho .. =>
    some [(0x1A00, 0x1A03)]
  | .audioFrameReceived .. | .audioSampleRead .. | .followLoopUpdate .. | .audioOutputFrame .. =>
    some [(0x1B10, 0x1B1F)]
  | .audioGroupStart .. =>
    some [(0x1B10, 0x1B27), (0x2002, 0x2002)]
  | .turnstileWindowEnd .. | .turnstileSourceEnded .. =>
    some [(0x1C10, 0x1C19)]
  | .taggedBundleRecord .. =>
    some [(0x1D90, 0x1D90)]
  | .confirmWindowExpiry .. | .holdoverAlarm .. | .timeAnchor .. | .blackBoxWrite .. =>
    some [(0x1E00, 0x1E00)]
  | .coachDispatch .. | .spareReady .. =>
    some [(0x1E00, 0x1E00), (0x2000, 0x2000)]
  | .pergolaRowReady .. =>
    some [(0x2000, 0x2000), (0x4000, 0x7FFF)]
  | .sessionIdleTimeout .. | .relayTimeout .. | .armed .. | .snapdata .. =>
    some [(0x2002, 0x2002)]
  | .fenceValueWrite .. | .lineMissing .. | .returnVideoLine .. =>
    some [(0x4000, 0x7FFF)]
  | .handshakeTimeout .. | .read .. | .write .. | .stage .. | .readStaged .. | .commit .. | .abort .. |
    .snapshot .. | .blockInit .. | .blockEnd .. | .blockTransferTimeout .. | .subscribe .. | .periodicNotice .. |
    .canFrameReceived .. | .mbxGo .. | .mbxRspClear .. | .mbxNtcClear .. | .ringTailWrite .. | .ringCtrlWrite .. |
    .registerWrite .. | .safeCauseAck .. | .lifecycleRequest .. | .rollbackAdvance .. | .settingsGenerationWrite .. |
    .programOwnerSlot .. | .revokeOwnerSlot .. | .attestationNonce .. | .armTrial .. | .confirmTrial .. |
    .warmReset .. | .mediaDomainReset .. | .timeSet .. | .applyPendingStep .. | .ppsSecondsWrite .. | .adjWrite .. |
    .yieldNow .. | .snapshotNow .. | .periodicCounterSnapshot .. | .turnstileBinding .. | .turnstileCancel .. |
    .testStart .. | .testCancel .. | .hostNote .. | .timetableTick .. | .commitFire .. | .commitReadyPoint .. |
    .commitDecisionPoint .. | .commitCutoff .. | .armDeadline .. | .channelStart .. | .channelStop .. |
    .snapshotCapture .. | .alarm .. | .gpioPulse .. | .triggerOutputPulse .. | .finishedSetRelease .. |
    .lineReceived .. | .boundarySupplied .. | .firstBoundarySupplied .. | .decodedPicturePresented .. |
    .laneRestored .. | .fetchComplete .. | .motionFieldDelivered .. | .rowBudgetSet .. | .operandToken .. |
    .bandRetire .. | .seamCoachComplete .. | .engineFault .. | .selfTestComplete .. | .probationEnd .. |
    .departureRow .. | .departureUnitRelease .. | .ringDelivery .. | .inputRingConsume .. | .inputPacketReceived .. |
    .inputPacketLost .. | .accessUnitDecoded .. | .confidenceRowResult .. | .audioSilenceEnd .. |
    .audioRampComplete .. | .join .. | .joinRetry .. | .admitMember .. | .rejectMember .. | .joinWindowExpiry .. |
    .heartbeatMissed .. | .tdelayReq .. | .prepare .. | .refused .. | .ready .. | .notReady .. | .commitDecision .. |
    .relay .. | .relayRsp .. | .spanreq .. | .rowstat .. | .seam .. | .border .. | .pyramid .. | .unitArrived .. |
    .digest .. | .ckptReq .. | .ckpt .. | .handover .. | .peerHeartbeatLive .. | .revertHoldoffComplete .. |
    .dramEccError .. | .rootLocked .. | .lossOfLock .. | .bypassAcquisitionAttempt .. | .referenceStartupTimeout .. |
    .lodgeRuleFire .. | .brownoutSequence .. | .thermalTrip .. | .vlodgePowerOn .. | .vinPowerOn .. | .pinReset .. |
    .lodgeReset .. | .watchdogExpiry .. | .startingComplete .. | .coalesceExpiry .. | .thermalHoldRelease .. |
    .vlodgeLoss .. | .heartbeatSend .. | .tsyncSend .. | .tdelayReqSend .. | .pairbeatSend .. | .st211030Packet .. |
    .decodeAssistComplete .. | .substituteReconstructionComplete .. | .performanceCounterWrap .. => none

end Sys2Proof.Machine
end

