-- ==== Sys2Proof/Certificates/Slice0/Obligations.lean ====
section
/-! DEFINITION. Obligations.lean: the statements for the provers. Each docstring cites the rules that its statement rests on. -/

open Sys2Proof Sys2Proof.Machine

/-! The machine as a whole -/

/-- A step carries out the command at the front of the queue on the machine with the queue's rest. -/
def Obligations.StepRunsTheFrontCommand : Prop :=
  ∀ (c : Instr) (r : List Instr) (s : State), s.pending = c :: r → step s = exec c { s with pending := r }

/-- On an empty queue the block idles (the model's choice, log entry 1). -/
def Obligations.StepIdlesOnAnEmptyQueue : Prop := ∀ s : State, s.pending = [] → step s = .next s

/-- The machine after reset holds the invariant of every step. -/
def Obligations.ResetHoldsInv : Prop := State.reset.Inv

/-- Every step keeps the canonical forms of the object dictionary and of device memory, and the DUE order of the four
timetable lists. -/
def Obligations.StepKeepsInv : Prop := ∀ s t : State, s.Inv → step s = .next t → t.Inv

/-- No command touches the queue of the commands that wait behind it. -/
def Obligations.ExecKeepsQueue : Prop := ∀ (c : Instr) (s t : State), exec c s = .next t → t.pending = s.pending

/-- Every well-formed command answers a next state: it neither faults nor is refused. An ECC error must also name an address
of the installed DRAM (R498). Where the spec leaves a choice it follows log entry 8. -/
def Obligations.WellFormedCommandsRun : Prop :=
  ∀ (c : Instr) (s : State), c.wf = true →
    (∀ a d, c = .dramEccError a d → a < 4 * regionBytes s.dramCfg) → ∃ t, exec c s = .next t

/-- No command is refused, and one that faults names a unit that the part does not have.
Where the spec leaves a choice it follows log entry 8. -/
def Obligations.OnlyMissingUnitsFault : Prop :=
  ∀ (c : Instr) (s : State), (∃ t, exec c s = .next t) ∨ exec c s = .fault .noSuchUnit

/-- After reset the machine is in DORMANT with no command waiting, no session open, no stage set in use, nothing in the
timetable, every object at its reset value, no channel context and no lane past rest (R23, R78).
Where the spec leaves a choice it follows log entry 2. -/
def Obligations.ResetState : Prop :=
  State.reset.mode = .dormant ∧ State.reset.pending = [] ∧ State.reset.ctl.sessions = [] ∧ State.reset.sets = [] ∧
    State.reset.chan = [] ∧ State.reset.lane = [] ∧ (∀ k, State.reset.ttl k = []) ∧
    ∀ i j, odGet State.reset.od i j = odDefault i j

/-! Sessions and requests (R47–R51, R80, R99–R118, R576–R584) -/

/-- A handshake that has not reached FINISH within 5 s is abandoned (R581), and nothing else changes; before that the
command changes nothing. -/
def Obligations.HandshakesAreAbandonedAfterFiveSeconds : Prop :=
  ∀ (s : State) (id : Nat) (x : Handshake), tget s.ctl.hands id = some x →
    (x.began + 5000000000 ≤ s.now →
      ∃ t, exec (.handshakeTimeout id) s = .next t ∧ tget t.ctl.hands id = none ∧
        (∀ k, k ≠ id → tget t.ctl.hands k = tget s.ctl.hands k) ∧
        t = { s with ctl := { s.ctl with hands := t.ctl.hands } }) ∧
    (s.now < x.began + 5000000000 → exec (.handshakeTimeout id) s = .next s)

/-- Sessions and handshakes complete: CLIENT opens a handshake under a number not in use and is answered with DEVICE
(R579–R581); CLOSE ends its session and is answered (R104, R106); a session idle for the timeout of OD 0x1100.03 ends (R51,
R129); a block transfer with no segment for 2 s is abandoned (R113). Where the spec leaves a choice it follows log entry 34.
Where the spec leaves a choice it follows log entry 34. -/
def Obligations.SessionCommandsComplete : Prop :=
  (∀ (s : State) (h : ReqHdr) (data : List Byte), s.mode ≠ .dormant → s.lodge.held = false → h.path ≤ 2 →
    s.hears h = true → (h.path = 2 → s.ctl.mbx.busy = false ∧ s.ctl.mbx.rspValid = false) → h.version = 1 →
    h.length ≤ pathBody h.path → h.session = 0 → h.bodyOk = true →
    s.nodeCode h { code := 1, req := .hello (bareHdr h) 1 0 1 data } = .ok → data.length = 1220 → data.headD 0 = 1 →
    s.ctl.hands.length < 4 →
    ∃ t x, exec (.hello h 1 0 1 data) s = .next t ∧ tget t.ctl.hands s.nextId = some x ∧ x.client = data ∧
      x.path = h.path ∧ x.began = s.now ∧ x.rx = h.counter ∧ x.tx = 1 ∧ t.ctl.lastId = s.nextId ∧
      (t.ctl.sent.map (fun r => (r.service, r.status, r.counter, r.body))) =
        some (1, .ok, 1, fragBody 2 h.path 0 x.device)) ∧
  (∀ (s : State) (h : ReqHdr) (x : Session), Accepts s h { code := 2, req := .close (bareHdr h) } x →
    ∃ t, exec (.close h) s = .next t ∧ tget t.ctl.sessions h.session = none ∧ Replies t h x 2 .ok []) ∧
  (∀ (s : State) (id : Nat) (x : Session), tget s.ctl.sessions id = some x → s.nat 0x1100 3 ≠ 0 →
    x.lastUse + s.nat 0x1100 3 * 1000000000 ≤ s.now →
    ∃ t, exec (.sessionIdleTimeout id) s = .next t ∧ tget t.ctl.sessions id = none ∧
      ∀ k, k ≠ id → tget t.ctl.sessions k = tget s.ctl.sessions k) ∧
  (∀ (s : State) (id : Nat) (x : Session) (f : Xfer), tget s.ctl.sessions id = some x → x.xfer = some f →
    f.last + 2000000000 ≤ s.now →
    ∃ t, exec (.blockTransferTimeout id) s = .next t ∧ tget t.ctl.sessions id = some { x with xfer := none } ∧
      t.od = s.od ∧ t.sets = s.sets ∧ t.sec = s.sec)

/-- The object services complete: an accepted READ answers COUNT read entries, each as the object reads in its turn, and an accepted
DESCRIBE the 28-byte descriptor of an object that the session may read (R99, R106–R108); a session's WRITE of OD 0x1200.01, the
arm lead, on a solo device with no set armed waits for the next tick and is answered OK, and the tick puts the value into force
and counts one commit in OD 0x1200.03 (R45, R78, R84, R109); an empty WRITE is ZERO.
Where the spec leaves a choice it follows log entries 7 and 55. -/
def Obligations.ObjectServicesComplete : Prop :=
  (∀ (s : State) (h : ReqHdr) (x : Session) (refs : List ObjRef) (v : Service),
    v = { code := 0x10, req := .read (bareHdr h) refs, objs := refs,
          open_ := refs.all (fun o => decide (0x1000 ≤ o.idx) && decide (o.idx < 0x1100)) } →
    Accepts s h v x → refs ≠ [] →
    8 + ((s.taken h v x).readEntries ⟨x.cls, x.cred, x.perms, none⟩ (pathBody h.path - 8) refs).1.flatten.length ≤
      pathBody h.path →
    ∃ t, exec (.read h refs) s = .next t ∧
      Replies t h x 0x10 .ok (leBytes 1 refs.length ++ zeros 3 ++
        ((s.taken h v x).readEntries ⟨x.cls, x.cred, x.perms, none⟩ (pathBody h.path - 8) refs).1.flatten)) ∧
  (∀ (s : State) (h : ReqHdr) (x : Session) (o : ObjRef) (r : OdRow),
    Accepts s h { code := 0x12, req := .describe (bareHdr h) o, objs := [o] } x → odRow o.idx o.sub = some r →
    s.may ⟨x.cls, x.cred, x.perms, none⟩ false o.idx o.sub = .ok →
    ∃ t, exec (.describe h o) s = .next t ∧ Replies t h x 0x12 .ok (r.descriptor (s.readClass o.idx o.sub r)) ∧
      t.od = s.od ∧ t.sets = s.sets) ∧
  (∀ (s : State) (h : ReqHdr) (x : Session) (n : Nat) (v : Service),
    v = { code := 0x11, req := .write (bareHdr h) [⟨⟨0x1200, 1⟩, 4, .num n⟩], objs := [⟨0x1200, 1⟩], writes := true } →
    Accepts s h v x →
    1 ≤ x.cls → x.cls ≤ 2 → (s.mode = .service ∨ s.mode = .standby) → s.cluster.role = 0 → pairShared s.od = false →
    s.armedSets = [] → s.soon = [] → 200 ≤ n → n ≤ 1000000 →
    (s.taken h v x).rwCode 0x1200 1 (.num n) = .ok →
    ∃ t, exec (.write h [⟨⟨0x1200, 1⟩, 4, .num n⟩]) s = .next t ∧ Waits s t h x 0x1200 1 (.num n) []) ∧
  (∀ (s : State) (n : Nat) (w : Who), AtTick s ⟨okey 0x1200 1, .num n, w, [], true⟩ → s.mode ≠ .starting → n < 2 ^ 32 →
    ∃ t, exec .timetableTick s = .next t ∧ t.nat 0x1200 1 = n ∧ t.soon = [] ∧
      t.nat 0x1200 3 = (s.nat 0x1200 3 + 1) % 18446744073709551616) ∧
  (∀ (s : State) (h : ReqHdr) (x : Session),
    Accepts s h { code := 0x11, req := .write (bareHdr h) [], objs := [], writes := true } x →
    ∃ t, exec (.write h []) s = .next t ∧ t.od = s.od ∧ t.sets = s.sets ∧ Replies t h x 0x11 .zero [])

/-- The set services complete: OPEN_SET takes the lowest-numbered free set where the session has no finished one (R47, R80);
STAGE puts the checked value of its entry into the session's open set (R48, R49); READ_STAGED answers (R50); DISCARD frees an
open set (R110); ABORT ends an armed one as aborted before its ready point (R60).
Where the spec leaves a choice it follows log entry 35. -/
def Obligations.StageSetServicesComplete : Prop :=
  (∀ (s : State) (h : ReqHdr) (x : Session) (k : Nat), Accepts s h { code := 0x20, req := .openSet (bareHdr h) } x →
    s.mayUse ⟨x.cls, x.cred, x.perms, none⟩ 1 0x1001 = true →
    (∀ j, 1 ≤ j → j ≤ 8 → ¬(4 ≤ (s.set j).state ∧ (s.set j).owner = h.session)) →
    1 ≤ k → k ≤ 8 → (s.set k).state = 0 → (∀ j, 1 ≤ j → j < k → (s.set j).state ≠ 0) →
    ∃ t, exec (.openSet h) s = .next t ∧ t.set k = { state := 1, owner := h.session } ∧
      (∀ j, j ≠ k → t.set j = s.set j) ∧ Replies t h x 0x20 .ok (leBytes 1 k ++ zeros 3)) ∧
  (∀ (s : State) (h : ReqHdr) (x : Session) (k : Nat) (e : WriteEnt),
    Accepts s h { code := 0x21, req := .stage (bareHdr h) k [e], objs := [e.obj], writes := true } x →
    s.mayUse ⟨x.cls, x.cred, x.perms, none⟩ 1 0x1001 = true → s.stageSet h.session k = .ok →
    s.entryCode ⟨x.cls, x.cred, x.perms, none⟩ e.obj.idx e.obj.sub e.len e.val true false = .ok →
    e.obj.idx ≠ 0x1001 → commandObject e.obj.idx e.obj.sub = false → (s.set k).writes.length < 4096 →
    (s.set k).bytes + e.len ≤ 262144 →
    ∃ t, exec (.stage h k [e]) s = .next t ∧
      (t.set k).staged e.obj.idx e.obj.sub = some (entryVal e.obj.idx e.obj.sub e.len e.val) ∧
      (∀ j, j ≠ k → t.set j = s.set j) ∧ t.od = s.od ∧ Replies t h x 0x21 .ok (statusWords [.ok])) ∧
  (∀ (s : State) (h : ReqHdr) (x : Session) (k : Nat) (o : ObjRef) (r : OdRow) (v : Val),
    Accepts s h { code := 0x22, req := .readStaged (bareHdr h) k [o], objs := [o] } x →
    s.mayUse ⟨x.cls, x.cred, x.perms, none⟩ 1 0x1001 = true → s.holdsOpen h.session k = true →
    (s.set k).staged o.idx o.sub = some v → odRow o.idx o.sub = some r → r.acc ≠ 2 →
    s.may ⟨x.cls, x.cred, x.perms, none⟩ false o.idx o.sub = .ok →
    8 + (readEntry .ok s.now (r.bytes v)).length ≤ pathBody h.path →
    ∃ t, exec (.readStaged h k [o]) s = .next t ∧
      Replies t h x 0x22 .ok (leBytes 1 1 ++ zeros 3 ++ readEntry .ok s.now (r.bytes v)) ∧ t.sets = s.sets ∧ t.od = s.od) ∧
  (∀ (s : State) (h : ReqHdr) (x : Session) (k : Nat), Accepts s h { code := 0x25, req := .discard (bareHdr h) k } x →
    s.mayUse ⟨x.cls, x.cred, x.perms, none⟩ 1 0x1001 = true → s.holdsOpen h.session k = true →
    ∃ t, exec (.discard h k) s = .next t ∧ t.set k = {} ∧ (∀ j, j ≠ k → t.set j = s.set j) ∧ t.od = s.od ∧
      Replies t h x 0x25 .ok []) ∧
  (∀ (s : State) (h : ReqHdr) (x : Session) (k : Nat), Accepts s h { code := 0x24, req := .abort (bareHdr h) k } x →
    s.mayUse ⟨x.cls, x.cred, x.perms, none⟩ 1 0x1001 = true → s.holdsArmed h.session k = true →
    (s.set k).readyPassed = false → (s.set k).report = 0 → s.now + 100000 < (s.set k).due → (s.set k).reply = none →
    ∃ t, exec (.abort h k) s = .next t ∧ (t.set k).state = 6 ∧ (t.set k).reason = 2 ∧ (t.set k).result = .aborted ∧
      (t.set k).writes = (s.set k).writes)

/-- COMMIT and SNAPSHOT complete: an open set whose arming passes every check is armed for the instant, epoch and reference
channel of its target and answered with them (R52–R57, R111); an immediate snapshot of a device without members is laid down for the
next tick (R67, R68); and at its instant a snapshot that still waits for members takes this device's commit sequence (R67, R69).
Where the spec leaves a choice it follows log entries 37, 58 and 108. -/
def Obligations.CommitAndSnapshotComplete : Prop :=
  (∀ (s u : State) (h : ReqHdr) (x : Session) (k : Nat) (g : Target) (v : Service) (a : Code × Nat × Nat) (w : View),
    v = { code := 0x23, req := .commit (bareHdr h) k g } → Accepts s h v x →
    u = (s.taken h v x).setSet k { s.set k with members := [] } → a = u.aim g (u.effLead (s.set k)) →
    w = u.viewOf k a.2.1 (s.set k).writes →
    s.mayUse ⟨x.cls, x.cred, x.perms, none⟩ 1 0x1001 = true → s.holdsOpen h.session k = true → s.cluster.role = 0 →
    pairShared s.od = false → u.validate w (u.figures w) (u.modeBad k (u.set k) x.cls) = none →
    (u.armSet k a g.refch x.cls).1 = .ok →
    ∃ t, exec (.commit h k g) s = .next t ∧ (t.set k).state = 2 ∧ (t.set k).refch = g.refch ∧
      (t.set k).due = a.2.1 ∧ (t.set k).epoch = a.2.2 ∧
      (t.set k).writes = (s.set k).writes ∧ (t.set k).owner = h.session ∧ Replies t h x 0x23 .ok (commitBody (t.set k))) ∧
  (∀ (s : State) (h : ReqHdr) (x : Session) (g : Target) (refs : List ObjRef) (v : Service),
    v = { code := 0x30, req := .snapshot (bareHdr h) g refs, objs := refs } → Accepts s h v x → s.cluster.role = 0 →
    g.kind = 0xFF → refs ≠ [] → refs.length ≤ 64 →
    (s.taken h v x).snapBytes ⟨x.cls, x.cred, x.perms, none⟩ refs ≤ 4096 →
    (∀ z : Snap, z.objs = refs → z.parts = [] → z.epochs = [] → z.ask.session = h.session →
      4 + (snapBody ((s.taken h v x).captureSnap z).1).length ≤ pathBody h.path) →
    ∃ t z, exec (.snapshot h g refs) s = .next t ∧
      tget t.ctl.snaps ((s.ctl.lastRef + 1) % 4294967296) = some z ∧ z.objs = refs ∧ z.at_ = (s.tick + 1) * 100 ∧
      z.seq = none ∧ z.missing = [] ∧ t.od = s.od) ∧
  (∀ (s : State) (ref : Nat) (e : TtEntry) (z : Snap), e ∈ s.ttl 0 → e.kind = 4 → e.ref = ref → e.due ≤ s.tick →
    tget s.ctl.snaps ref = some z → z.seq = none → z.missing ≠ [] →
    ∃ t y, exec (.snapshotCapture ref) s = .next t ∧ tget t.ctl.snaps ref = some y ∧ y.seq = some (s.nat 0x1200 3) ∧
      y.missing = z.missing ∧ y.objs = z.objs)

/-- Block transfers complete: BLOCK_INIT opens one with the path's segment size, BLOCK_SEG brings the next segment of a write or
answers the next of a read, and BLOCK_END answers the digest of what was read (R113, R114).
Where the spec leaves a choice it follows log entries 50 and 107. -/
def Obligations.BlockTransfersComplete : Prop :=
  (∀ (s : State) (h : ReqHdr) (x : Session) (o : ObjRef) (set size : Nat) (v : Service),
    v = { code := 0x40, req := .blockInit (bareHdr h) o set 1 size, objs := [o], writes := true } → Accepts s h v x →
    x.xfer = none → (s.taken h v x).blockWriteCode h.session ⟨x.cls, x.cred, x.perms, none⟩ o set size = .ok →
    ∃ t y, exec (.blockInit h o set 1 size) s = .next t ∧ tget t.ctl.sessions h.session = some y ∧
      y.xfer = some { id := 1, obj := o, set := set, write := true, size := size, segment := pathBody h.path - 8, data := [],
                      offset := 0, last := s.now } ∧
      Replies t h x 0x40 .ok (leBytes 1 1 ++ zeros 3 ++ leBytes 4 size ++ leBytes 4 (pathBody h.path - 8))) ∧
  (∀ (s : State) (h : ReqHdr) (x : Session) (f : Xfer) (data : List Byte),
    Accepts s h { code := 0x41, req := .blockSeg (bareHdr h) f.id f.offset data } x → x.xfer = some f → f.write = true →
    data.length = min f.segment (f.size - f.offset) →
    ∃ t y, exec (.blockSeg h f.id f.offset data) s = .next t ∧ tget t.ctl.sessions h.session = some y ∧
      y.xfer = some { f with data := f.data ++ data, offset := f.offset + data.length, last := s.now } ∧
      Replies t h x 0x41 .ok (leBytes 4 f.offset)) ∧
  (∀ (s : State) (h : ReqHdr) (x : Session) (f : Xfer),
    Accepts s h { code := 0x41, req := .blockSeg (bareHdr h) f.id f.offset [] } x → x.xfer = some f → f.write = false →
    f.segment = pathBody h.path - 8 →
    ∃ t y, exec (.blockSeg h f.id f.offset []) s = .next t ∧ tget t.ctl.sessions h.session = some y ∧
      y.xfer = some { f with offset := f.offset + ((f.data.drop f.offset).take f.segment).length, last := s.now } ∧
      Replies t h x 0x41 .ok (leBytes 4 f.offset ++ (f.data.drop f.offset).take f.segment)) ∧
  (∀ (s : State) (h : ReqHdr) (x : Session) (f : Xfer) (digest : List Byte),
    Accepts s h { code := 0x42, req := .blockEnd (bareHdr h) f.id digest } x → x.xfer = some f → f.write = false →
    ∃ t y, exec (.blockEnd h f.id digest) s = .next t ∧ tget t.ctl.sessions h.session = some y ∧ y.xfer = none ∧
      Replies t h x 0x42 .ok (Config.shake256 32 f.data) ∧ t.od = s.od)

/-- Subscriptions and stores complete: SUBSCRIBE for events adds one under the lowest number not in use, UNSUBSCRIBE removes
it (R106, R115), and the end of a period queues a notice of the object (R115, R116); STORE begins the flash write of the
stored objects under the next generation (R95, R96), its end puts the image into the slot that does not hold the newest one
and reports the generation (R96), and CLEAR_STORE empties both slots (R98).
Where the spec leaves a choice it follows log entries 51 and 107. -/
def Obligations.SubscriptionsAndStoresComplete : Prop :=
  (∀ (s : State) (h : ReqHdr) (x : Session) (period mask n : Nat) (o : ObjRef),
    Accepts s h { code := 0x50, req := .subscribe (bareHdr h) 3 period mask o } x → x.subs.length < 255 → 1 ≤ n → n ≤ 255 →
    (∀ u ∈ x.subs, u.id ≠ n) → (∀ k, 1 ≤ k → k < n → ∃ u ∈ x.subs, u.id = k) →
    ∃ t y, exec (.subscribe h 3 period mask o) s = .next t ∧ tget t.ctl.sessions h.session = some y ∧
      y.subs = x.subs ++ [{ id := n, kind := 3, period := period, mask := mask, obj := o, last := s.now }] ∧
      Replies t h x 0x50 .ok (leBytes 1 n ++ zeros 3)) ∧
  (∀ (s : State) (h : ReqHdr) (x : Session) (u : Subscription),
    Accepts s h { code := 0x51, req := .unsubscribe (bareHdr h) u.id } x → u ∈ x.subs →
    ∃ t y, exec (.unsubscribe h u.id) s = .next t ∧ tget t.ctl.sessions h.session = some y ∧
      y.subs = x.subs.filter (fun w => w.id != u.id) ∧ Replies t h x 0x51 .ok []) ∧
  (∀ (s : State) (id : Nat) (x : Session) (u : Subscription), tget s.ctl.sessions id = some x → x.subs = [u] → u.kind = 2 →
    u.last + u.period * 1000000 ≤ s.now → x.queue.length < 128 →
    ∃ t y n, exec (.periodicNotice id u.id) s = .next t ∧ tget t.ctl.sessions id = some y ∧ y.queue = x.queue ++ [n] ∧
      n.subid = u.id ∧ n.kind = 2 ∧ n.time = s.now ∧ n.nseq = x.nseq ∧ y.nseq = (x.nseq + 1) % 4294967296) ∧
  (∀ (s : State) (h : ReqHdr) (x : Session), Accepts s h { code := 0x60, req := .store (bareHdr h) } x →
    s.mayUse ⟨x.cls, x.cred, x.perms, none⟩ 2 0x1104 = true → s.ctl.storing = none →
    (∀ kv ∈ s.ctl.sessions, kv.2.xfer = none) →
    ∃ t a img, exec (.store h) s = .next t ∧ t.ctl.storing = some (a, img) ∧ a.session = h.session ∧
      img.vals = s.storedNow ∧ img.sealedP = s.sec.provisionings ∧ img.good = true ∧
      img.gen = ((s.newestStored.map (fun y => y.2.gen)).getD 0 + 1) % 4294967296 ∧ t.od = s.od) ∧
  (∀ (s : State) (a : Ask) (img : StoredImage), s.ctl.storing = some (a, img) →
    ∃ t, exec (.storeComplete true) s = .next t ∧ t.ctl.storing = none ∧
      (if (s.newestStored.map Prod.fst) = some 1 then t.ctl.slotB = some { img with good := true } ∧ t.ctl.slotA = s.ctl.slotA
       else t.ctl.slotA = some { img with good := true } ∧ t.ctl.slotB = s.ctl.slotB) ∧
      t.nat 0x1104 1 = img.gen ∧ t.nat 0x1104 2 = 0) ∧
  (∀ (s : State) (h : ReqHdr) (x : Session), Accepts s h { code := 0x61, req := .clearStore (bareHdr h) } x →
    s.mayUse ⟨x.cls, x.cred, x.perms, none⟩ 2 0x1104 = true → s.ctl.storing = none →
    ∃ t, exec (.clearStore h) s = .next t ∧ t.ctl.slotA = none ∧ t.ctl.slotB = none ∧ t.od = s.od ∧
      Replies t h x 0x61 .ok [])

/-- Relays complete: a worker executes a CLEAR_STORE that its manager relays and answers with RELAY_RSP; at the manager the worker's
answer, or TIMEOUT after 10 ms, goes to the session that asked (R118).
Where the spec leaves a choice it follows log entry 48. -/
def Obligations.RelaysComplete : Prop :=
  (∀ (s : State) (h : ReqHdr) (cls : Nat), s.cluster.role = 2 → s.cluster.joined = true → s.mode ≠ .dormant →
    s.lodge.held = false → h.length ≤ 4060 → h.bodyOk = true → tget s.ctl.sessions (4294967296 + h.session) = none → 2 ≤ cls →
    s.mode.permits 2 true 0x1104 = true → s.ctl.storing = none →
    ∃ t, exec (.relay cls (.clearStore h)) s = .next t ∧ t.ctl.slotA = none ∧ t.ctl.slotB = none ∧ t.od = s.od ∧
      (t.cluster.out.head?.map (fun m => (m.dst, m.kind))) = some (0, 0x21)) ∧
  (∀ (s : State) (node status : Nat) (body : List Byte) (r : RelayReq) (x : Session) (ninth : Bool), r ∈ s.ctl.relays →
    (∀ q ∈ s.ctl.relays, q.ask.session = r.ask.session → q.ask.txid = r.ask.txid → q = r) → r.ask.node = node →
    r.ask.path ≠ 3 → r.ask.service ≠ 2 → 4 + body.length ≤ pathBody r.ask.path →
    tget s.ctl.sessions r.ask.session = some x → x.slots = [⟨r.ask, none, ninth⟩] →
    ∃ t, exec (.relayRsp node r.ask.session r.ask.txid status body) s = .next t ∧ r ∉ t.ctl.relays ∧
      (t.ctl.sent.map (fun p => (p.txid, p.service, p.status, p.body))) =
        some (r.ask.txid, r.ask.service, Code.ofValue status, body)) ∧
  (∀ (s : State) (r : RelayReq) (x : Session) (ninth : Bool), r ∈ s.ctl.relays →
    (∀ q ∈ s.ctl.relays, q.ask.session = r.ask.session → q.ask.txid = r.ask.txid → q = r) → r.sent + 10000000 ≤ s.now →
    r.ask.path ≠ 3 → tget s.ctl.sessions r.ask.session = some x → x.slots = [⟨r.ask, none, ninth⟩] →
    ∃ t, exec (.relayTimeout r.ask.session r.ask.txid) s = .next t ∧ r ∉ t.ctl.relays ∧
      (t.ctl.sent.map (fun p => (p.txid, p.service, p.status, p.body))) = some (r.ask.txid, r.ask.service, .timeout, []))

/-- The transports complete: GO with the mailbox free runs the request that the buffer spells (R100, R126–R128), sets BUSY
and counts a discard where the buffer spells none, and sets OVERRUN where the mailbox is not free (R127); clearing RSP_VALID
and NTC_VALID frees their buffers where nothing waits (R127, R128); a frame that brings the whole of a message hands it to
the Gatehouse, and one that opens a longer message keeps its piece (R103, R122–R124); a message whose next frame has not come
within 10 ms is discarded (R124, R129); a wake frame with the device's wake code in DORMANT starts the power sequence, as
WAKE_N does (R34, R125). Of the BAR0 writes, a fence value waits for the next tick, which puts it into force (R164); a
mailbox length is taken (R126); a ring's tail and its enable are written, and a base or size written while it is enabled
records CFGERR (R370, R371). Where the spec leaves a choice it follows log entries 40, 56, 57 and 107. -/
def Obligations.TransportsComplete : Prop :=
  (∀ (s u : State) (c len : Nat) (x : SopHead) (body tag : List Byte) (h : ReqHdr), bit c 0 = true → s.flag 0x1103 1 = true →
    s.mode ≠ .dormant → s.lodge.held = false → s.ctl.mbx.reqLen ≤ 4096 →
    parseMessage s.ctl.mbx.request = some (1, x, len, body, tag) → (x.flags = 0 ∨ x.flags = 16) →
    h = { path := 2, version := 1, node := x.node, txid := x.txid, session := x.session, counter := x.counter, length := len,
          auth := bit x.flags 4, bodyOk := true,
          tagOk := decide (tag = sopTag (((tget s.ctl.sessions x.session).map Session.keyHd).getD [])
            (s.ctl.mbx.request.take (20 + len))) } →
    u = { s with ctl := { s.ctl with mbx := { s.ctl.mbx with rspIrqEn := bit c 1, ntcIrqEn := bit c 2 } } } →
    exec (.mbxGo c) s = .next (u.runRequest h x.service body)) ∧
  (∀ (s : State) (c : Nat), bit c 0 = true → s.flag 0x1103 1 = true → s.mode ≠ .dormant → s.lodge.held = false →
    s.ctl.mbx.busy = false → s.ctl.mbx.rspValid = false → parseMessage s.ctl.mbx.request = none →
    ∃ t, exec (.mbxGo c) s = .next t ∧ t.ctl.mbx.busy = true ∧ t.ctl.mbx.rspValid = false ∧
      t.nat 0x1100 4 = (s.nat 0x1100 4 + 1) % 4294967296 ∧ t.ctl.sessions = s.ctl.sessions) ∧
  (∀ (s : State) (c : Nat), bit c 0 = true → s.flag 0x1103 1 = true → s.mode ≠ .dormant → s.lodge.held = false →
    (s.ctl.mbx.busy = true ∨ s.ctl.mbx.rspValid = true) → parseMessage s.ctl.mbx.request = none →
    ∃ t, exec (.mbxGo c) s = .next t ∧ t.ctl.mbx.overrun = true ∧ t.ctl.sent = s.ctl.sent ∧ t.od = s.od) ∧
  (∀ s : State, s.ctl.mbx.rspValid = true → s.ctl.mbx.waiting = [] →
    ∃ t, exec .mbxRspClear s = .next t ∧ t.ctl.mbx.rspValid = false ∧ t.ctl.mbx.rsp = [] ∧ t.ctl.mbx.busy = s.ctl.mbx.busy) ∧
  (∀ s : State, s.ctl.mbx.ntcValid = true → (∀ kv ∈ s.ctl.sessions, kv.2.path = 2 → kv.2.queue = []) →
    ∃ t, exec .mbxNtcClear s = .next t ∧ t.ctl.mbx.ntcValid = false ∧ t.ctl.mbx.ntc = [] ∧ t.od = s.od) ∧
  (∀ (s u : State) (f : CanFrame) (total : Nat) (b : List Byte), f.fd = true → f.ext = true → f.rtr = false → f.dir = 0 →
    f.busaddr = s.nat 0x1101 2 → s.flag 0x1101 1 = true → s.mode ≠ .dormant → s.lodge.held = false → f.service ≠ 0x7F →
    f.seq = 0 → canSizes.contains f.data.length = true → 20 ≤ f.data.length →
    total = 20 + leNat ((f.data.drop 4).take 2) + (if bit (f.data.getD 1 0).toNat 4 then 16 else 0) → total ≤ 64 →
    lastPiece f.data total = true → b = f.data.take total → leNat ((b.drop 2).take 1) = f.service →
    leNat ((b.drop 3).take 1) = f.node →
    u = { s with ctl := { s.ctl with can := s.ctl.can.filter (fun m => m.key != CanFrame_key f), canWhole := b } } →
    exec (.canFrameReceived f) s = .next (u.receive 1 f.prio b)) ∧
  (∀ (s : State) (f : CanFrame) (total : Nat), f.fd = true → f.ext = true → f.rtr = false → f.dir = 0 →
    f.busaddr = s.nat 0x1101 2 → s.flag 0x1101 1 = true → s.mode ≠ .dormant → s.lodge.held = false → f.service ≠ 0x7F →
    f.seq = 0 → f.data.length = 64 →
    total = 20 + leNat ((f.data.drop 4).take 2) + (if bit (f.data.getD 1 0).toNat 4 then 16 else 0) → 64 < total → total ≤ 2048 →
    ∃ t, exec (.canFrameReceived f) s = .next t ∧ t.od = s.od ∧ t.ctl.sent = s.ctl.sent ∧
      t.ctl.can = s.ctl.can.filter (fun m => m.key != CanFrame_key f) ++
        [{ key := CanFrame_key f, next := 1, data := f.data, total := total, last := s.now }]) ∧
  (∀ (s : State) (m : CanMsg), m ∈ s.ctl.can → (∀ q ∈ s.ctl.can, q.key = m.key → q = m) → m.last + 10000000 ≤ s.now →
    ∃ t, exec (.canMessageTimeout m.key) s = .next t ∧ (∀ q ∈ t.ctl.can, q.key ≠ m.key) ∧
      t.nat 0x1100 4 = (s.nat 0x1100 4 + 1) % 4294967296) ∧
  (∀ (s : State) (code : List Byte), s.mode = .dormant → s.flag 0x1101 1 = true → code = odBytes s.od 0x1101 5 →
    code.all (· == 0) = false → s.lodge.powered = true → s.lodge.holding = false → s.lodge.order = 0 →
    exec (.wake (s.nat 0x1101 2) 0 code) s = .next (s.setLodge { s.lodge with order := 1 })) ∧
  (∀ s : State, s.mode = .dormant → s.lodge.powered = true → s.lodge.holding = false → s.lodge.order = 0 →
    exec .wakeNLow s = .next (s.setLodge { s.lodge with order := 1 })) ∧
  (∀ (s : State) (chan layer value key : Nat), chan < 128 → layer ≤ 16 → s.mode ≠ .dormant → s.lodge.held = false →
    key = (if layer = 16 then okey (chI chan 6) 3 else okey (layI chan layer 0) 13) →
    exec (.fenceValueWrite chan layer value) s =
      .next { s with soon := s.soon ++ [⟨key, .num (value % 4294967296 : Nat), ⟨1, 0xFF, 0, none⟩, [], false⟩] }) ∧
  (∀ (s : State) (chan layer value i j : Nat), chan < 128 → layer ≤ 16 →
    (i, j) = (if layer = 16 then (chI chan 6, 3) else (layI chan layer 0, 13)) → value < 4294967296 →
    AtTick s ⟨okey i j, .num value, ⟨1, 0xFF, 0, none⟩, [], false⟩ →
    ∃ t, exec .timetableTick s = .next t ∧ t.nat i j = value ∧ t.soon = [] ∧ t.nat 0x1200 3 = s.nat 0x1200 3) ∧
  (∀ (s : State) (v : Nat), s.mode ≠ .dormant → s.lodge.held = false → v < 4294967296 →
    ∃ t, exec (.registerWrite 0x13008 v) s = .next t ∧ t.ctl.mbx.reqLen = v ∧ t.od = s.od ∧ t.ring = s.ring) ∧
  (∀ (s : State) (r v : Nat), s.mode ≠ .dormant → s.lodge.held = false → r < 32 → v < 4294967296 → (s.rg r).en = true →
    ∃ t, exec (.registerWrite (0x30000 + 32 * r) v) s = .next t ∧ (t.rg r).cfgErr = true ∧ (t.rg r).baseLo = (s.rg r).baseLo ∧
      ∀ k, k ≠ r → t.rg k = s.rg k) ∧
  (∀ (s : State) (r v : Nat), r < 32 → (s.rg r).size ≠ 0 →
    ∃ t, exec (.ringTailWrite r v) s = .next t ∧ (t.rg r).tail = v % (s.rg r).size ∧ (∀ k, k ≠ r → t.rg k = s.rg k) ∧
      t = { s with ring := t.ring }) ∧
  (∀ (s : State) (r v : Nat), r < 32 → (bit v 0 = true → ringSizeOk (s.rg r).size = true) →
    ∃ t, exec (.ringCtrlWrite r v) s = .next t ∧ (t.rg r).en = bit v 0 ∧ (t.rg r).irqEn = bit v 1 ∧
      (∀ k, k ≠ r → t.rg k = s.rg k) ∧ t = { s with ring := t.ring })

/-! Commands written to objects (R38, R45, R95, R321–R327, R486, R565–R567, R574–R610, R621, R635, R640) -/

/-- The commands on time, mode, pair and resets complete. Each WRITE waits for the next tick and is answered OK (R45, R109),
and that tick carries it out: ADJ is clamped and put into force with PTP time unmoved (R321, R322); a time beyond the slew
limit is stepped to (R326); a pending step is applied, what is left of the slew at once (R327); the PPS seconds are taken
(R325). Of the acknowledged causes DRAMUE and ENGINES clear and the others stand (R38); the Primary yields and gives up the
Drawbar (R486); a warm reset enters STARTING with every session, stage set and channel context gone and the time and counter
kept (R565, R569); a media-domain reset in SERVICE is reported in OD 0x1703.04 and ends no session (R567).
Where the spec leaves a choice it follows log entries 7, 27 and 78. -/
def Obligations.TimebaseAndModeCommandsComplete : Prop :=
  (∀ (s : State) (h : ReqHdr) (x : Session) (adj : Int), Takes s h x 0x1500 4 8 (.num adj) → s.nat 0x1500 6 = 2 →
    ∃ t, exec (.adjWrite h adj) s = .next t ∧ Waits s t h x 0x1500 4 (.num adj) []) ∧
  (∀ (s : State) (w : Who) (adj : Int), AtTick s ⟨okey 0x1500 4, .num adj, w, [], true⟩ → s.nat 0x1500 6 = 2 →
    ∃ t, exec .timetableTick s = .next t ∧ t.soon = [] ∧ t.num 0x1500 4 = clampInt (-70368744178) 70368744178 adj ∧
      t.tb.c0 = s.advance.tb.count ∧ t.tb.t0 = s.advance.timeAt s.advance.tb.count ∧ t.tb.count = s.advance.tb.count ∧
      t.now = s.advance.now) ∧
  (∀ (s : State) (h : ReqHdr) (x : Session) (time : Nat), Takes s h x 0x1500 5 10 (.num time) → s.nat 0x1500 6 = 2 →
    s.mayStep = true →
    ∃ t, exec (.timeSet h time) s = .next t ∧ Waits s t h x 0x1500 5 (.num time) []) ∧
  (∀ (s : State) (w : Who) (time : Nat), AtTick s ⟨okey 0x1500 5, .num time, w, [], true⟩ → s.nat 0x1500 6 = 2 →
    s.runningChans = [] → s.nat 0x1500 8 < ((time : Int) - s.advance.now).natAbs → 0 ≤ s.advance.timeAt s.advance.tb.count →
    ∃ t, exec .timetableTick s = .next t ∧ t.soon = [] ∧ t.now = time ∧ t.tb.count = s.advance.tb.count ∧
      t.num 0x1500 4 = s.num 0x1500 4) ∧
  (∀ (s : State) (h : ReqHdr) (x : Session), Takes s h x 0x1500 13 1 (.num 1) → s.mayStep = true →
    ∃ t, exec (.applyPendingStep h 1) s = .next t ∧ Waits s t h x 0x1500 13 (.num 1) []) ∧
  (∀ (s : State) (w : Who) (o : Int), AtTick s ⟨okey 0x1500 13, .num 1, w, [], true⟩ → s.tb.slew = some o → s.runningChans = [] →
    s.advance.slewLeft o ≤ s.advance.now → 0 ≤ s.advance.timeAt s.advance.tb.count →
    ∃ t, exec .timetableTick s = .next t ∧ t.soon = [] ∧ t.tb.slew = none ∧ t.tb.count = s.advance.tb.count ∧
      (t.now : Int) = s.advance.now - s.advance.slewLeft o ∧
      t.num 0x1500 4 = clampInt (-70368744178) 70368744178 (adjOf s.advance.freqTerm)) ∧
  (∀ (s : State) (h : ReqHdr) (x : Session) (n : Nat), Takes s h x 0x1500 14 8 (.num n) →
    ∃ t, exec (.ppsSecondsWrite h n) s = .next t ∧ Waits s t h x 0x1500 14 (.num n) []) ∧
  (∀ (s : State) (w : Who) (n : Nat), AtTick s ⟨okey 0x1500 14, .num n, w, [], true⟩ →
    ∃ t, exec .timetableTick s = .next t ∧ t.soon = [] ∧ t.tb = { s.advance.tb with ppsSeconds := some n }) ∧
  (∀ (s : State) (h : ReqHdr) (x : Session) (m : Nat), Takes s h x 0x1002 4 2 (.num m) →
    ∃ t, exec (.safeCauseAck h m) s = .next t ∧ Waits s t h x 0x1002 4 (.num m) []) ∧
  (∀ (s : State) (w : Who) (m : Nat), AtTick s ⟨okey 0x1002 4, .num m, w, [], true⟩ →
    ∃ t, exec .timetableTick s = .next t ∧ t.soon = [] ∧ t.mode = s.mode ∧
      ∀ k, bit (t.nat 0x1002 3) k = (bit (s.nat 0x1002 3) k && !((k == 1 || k == 2) && bit m k))) ∧
  (∀ (s : State) (h : ReqHdr) (x : Session), Takes s h x 0x1400 6 1 (.num 1) →
    ∃ t, exec (.yieldNow h 1) s = .next t ∧ Waits s t h x 0x1400 6 (.num 1) []) ∧
  (∀ (s : State) (w : Who), AtTick s ⟨okey 0x1400 6, .num 1, w, [], true⟩ → s.pair.state = 2 →
    ∃ t, exec .timetableTick s = .next t ∧ t.soon = [] ∧ t.pair.state = 3 ∧ t.pair.drawbar = false ∧ t.pair.handover = none ∧
      t.nat 0x1401 1 = 3) ∧
  (∀ (s : State) (h : ReqHdr) (x : Session), Takes s h x 0x1703 1 1 (.num 1) →
    ∃ t, exec (.warmReset h 1) s = .next t ∧ Waits s t h x 0x1703 1 (.num 1) []) ∧
  (∀ (s : State) (w : Who), AtTick s ⟨okey 0x1703 1, .num 1, w, [], true⟩ → s.acted.1 ≠ s.advance.lodge.time →
    ∃ t, exec .timetableTick s = .next t ∧ t.soon = [] ∧ t.mode = .starting ∧ t.ctl.sessions = [] ∧ t.sets = [] ∧ t.chan = [] ∧
      t.tb.count = s.advance.tb.count ∧ t.tb.t0 = s.tb.t0 ∧ t.tb.c0 = s.tb.c0 ∧ t.lodge.resetKind = 2 ∧ t.lodge.kept = true) ∧
  (∀ (s : State) (h : ReqHdr) (x : Session), Takes s h x 0x1703 2 1 (.num 1) → s.mode = .service →
    ∃ t, exec (.mediaDomainReset h 1) s = .next t ∧ Waits s t h x 0x1703 2 (.num 1) []) ∧
  (∀ (s : State) (w : Who), AtTick s ⟨okey 0x1703 2, .num 1, w, [], true⟩ → s.mode = .service →
    ∃ t, exec .timetableTick s = .next t ∧ t.soon = [] ∧ t.dec = [] ∧ t.mode = .service ∧ t.nat 0x1703 4 = 0x11 ∧
      t.mews.stalls = [] ∧ t.chan = s.chan.map (fun kv => (kv.1, kv.2.mediaReset)) ∧ t.lodge = s.advance.lodge ∧
      t.ctl.sessions.map Prod.fst = s.ctl.sessions.map Prod.fst)

/-- The security commands complete. Each WRITE waits for the next tick and is answered OK, and that tick carries it out (R45): the
life-cycle request for FIELD blows the group of the present provisioning and resets (R574); the rollback counter advances (R592);
a settings generation is programmed (R595), and one that does not take answers HARDWARE with the generations as they read back;
an owner slot is programmed or revoked (R586); the attestation nonce is held (R597); a trial is armed or confirmed (R601). -/
def Obligations.SecurityCommandsComplete : Prop :=
  (∀ (s : State) (h : ReqHdr) (x : Session) (v : Nat), Takes s h x 0x1F00 6 8 (.num v) →
    (lifecycleStep ⟨x.cls, x.cred, x.perms, none⟩ v s).1 = .ok →
    ∃ t, exec (.lifecycleRequest h v) s = .next t ∧ Waits s t h x 0x1F00 6 (.num v) []) ∧
  (∀ (s : State) (w : Who) (v : Nat), AtTick s ⟨okey 0x1F00 6, .num v, w, [], true⟩ → v / 2 ^ 56 % 256 = 2 → s.sec.lcs = 1 →
    (lifecycleStep w v s).1 = .ok → s.acted.1 ≠ s.advance.lodge.time →
    ∃ t, exec .timetableTick s = .next t ∧ t.mode = .starting ∧ t.ctl.sessions = [] ∧
      t.sec.fFuse = s.sec.fFuse.set (s.sec.provisionings - 1) allFuses ∧ t.sec.pFuse = s.sec.pFuse) ∧
  (∀ (s : State) (h : ReqHdr) (x : Session) (v : Nat), Takes s h x 0x1F00 7 1 (.num v) →
    (rollbackAdvance ⟨x.cls, x.cred, x.perms, none⟩ v s).1 = .ok →
    ∃ t, exec (.rollbackAdvance h v) s = .next t ∧ Waits s t h x 0x1F00 7 (.num v) []) ∧
  (∀ (s : State) (w : Who) (v : Nat), AtTick s ⟨okey 0x1F00 7, .num v, w, [], true⟩ → (rollbackAdvance w v s).1 = .ok →
    ∃ t, exec .timetableTick s = .next t ∧ t.soon = [] ∧
      t.sec = { s.sec with rollFuse := Nat.lor s.sec.rollFuse (2 ^ v - 1) }) ∧
  (∀ (s : State) (h : ReqHdr) (x : Session) (b : List Byte) (y : Security), Takes s h x 0x1F04 1 b.length (.oct b) →
    s.needsOwner ⟨x.cls, x.cred, x.perms, none⟩ = false → bit (leNat b) 255 = true → s.sec.generation 0 = 0 →
    s.sec.program (leNat b) [] = some y →
    ∃ t, exec (.settingsGenerationWrite h b []) s = .next t ∧ Waits s t h x 0x1F04 1 (.oct b) []) ∧
  (∀ (s : State) (w : Who) (b : List Byte) (y : Security), AtTick s ⟨okey 0x1F04 1, .oct b, w, [], true⟩ →
    s.needsOwner w = false → bit (leNat b) 255 = true → s.sec.generation 0 = 0 → s.sec.program (leNat b) [] = some y →
    ∃ t, exec .timetableTick s = .next t ∧ t.soon = [] ∧ t.sec = y ∧ tget t.sec.settings 0 = some (settingsWord (leNat b))) ∧
  (∀ (s : State) (h : ReqHdr) (x : Session) (b : List Byte) (bad : List Nat), Takes s h x 0x1F04 1 b.length (.oct b) →
    s.needsOwner ⟨x.cls, x.cred, x.perms, none⟩ = false → bit (leNat b) 255 = true → s.sec.generation 0 = 0 →
    s.sec.program (leNat b) bad = none →
    ∃ t, exec (.settingsGenerationWrite h b bad) s = .next t ∧ Replies t h x 0x11 .ok (statusWords [.hardware]) ∧ t.soon = [] ∧
      t.od = s.od ∧ ∀ g, g < 5 → t.sec.generation g ≠ 0) ∧
  (∀ (s : State) (h : ReqHdr) (x : Session) (k : Nat) (hash : List Byte),
    Takes s h x 0x1F13 1 (1 + hash.length) (.oct (leBytes 1 k ++ hash)) → k < 4 →
    s.needsOwner ⟨x.cls, x.cred, x.perms, none⟩ = false → groupBlown (s.sec.owner k).prog = false →
    ∃ t, exec (.programOwnerSlot h k hash) s = .next t ∧ Waits s t h x 0x1F13 1 (.oct (leBytes 1 k ++ hash)) []) ∧
  (∀ (s : State) (w : Who) (k : Nat) (hash : List Byte), AtTick s ⟨okey 0x1F13 1, .oct (leBytes 1 k ++ hash), w, [], true⟩ →
    k < 4 → s.needsOwner w = false → groupBlown (s.sec.owner k).prog = false →
    ∃ t, exec .timetableTick s = .next t ∧ t.soon = [] ∧ (t.sec.owner k).hash = hash ∧ (t.sec.owner k).prog = allFuses ∧
      (∀ j, j ≠ k → t.sec.owner j = s.sec.owner j)) ∧
  (∀ (s : State) (h : ReqHdr) (x : Session) (k : Nat), Takes s h x 0x1F13 2 1 (.num k) → k < 4 → s.sec.lcs ≠ 2 →
    s.setting 0 = false → s.setting 1 = false →
    ∃ t, exec (.revokeOwnerSlot h k) s = .next t ∧ Waits s t h x 0x1F13 2 (.num k) []) ∧
  (∀ (s : State) (w : Who) (k : Nat), AtTick s ⟨okey 0x1F13 2, .num k, w, [], true⟩ → k < 4 → s.sec.lcs ≠ 2 →
    s.setting 0 = false → s.setting 1 = false →
    ∃ t, exec .timetableTick s = .next t ∧ t.soon = [] ∧ (t.sec.owner k).rev = allFuses ∧
      (t.sec.owner k).hash = (s.sec.owner k).hash ∧ (∀ j, j ≠ k → t.sec.owner j = s.sec.owner j)) ∧
  (∀ (s : State) (h : ReqHdr) (x : Session) (b : List Byte), Takes s h x 0x1F02 1 b.length (.oct b) → b.all (· == 0) = false →
    ∃ t, exec (.attestationNonce h b) s = .next t ∧ Waits s t h x 0x1F02 1 (.oct b) []) ∧
  (∀ (s : State) (w : Who) (b : List Byte), AtTick s ⟨okey 0x1F02 1, .oct b, w, [], true⟩ → b.all (· == 0) = false →
    ∃ t, exec .timetableTick s = .next t ∧ t.soon = [] ∧ t.sec = { s.sec with attNonce := some b }) ∧
  (∀ (s : State) (h : ReqHdr) (x : Session) (k : Nat), Takes s h x 0x1F32 1 1 (.num k) → 1 ≤ k → k ≤ 3 →
    (s.sec.bank k (1 - s.sec.activeBank k)).any (fun i => i.verified) = true →
    ∃ t, exec (.armTrial h k) s = .next t ∧ Waits s t h x 0x1F32 1 (.num k) []) ∧
  (∀ (s : State) (w : Who) (k : Nat), AtTick s ⟨okey 0x1F32 1, .num k, w, [], true⟩ → 1 ≤ k → k ≤ 3 →
    (s.sec.bank k (1 - s.sec.activeBank k)).any (fun i => i.verified) = true →
    ∃ t, exec .timetableTick s = .next t ∧ t.soon = [] ∧ tget t.sec.armed k = some (s.nat 0x1F32 3) ∧
      t.sec.active = s.sec.active) ∧
  (∀ (s : State) (h : ReqHdr) (x : Session) (k e : Nat), Takes s h x 0x1F32 2 1 (.num k) → 1 ≤ k → k ≤ 3 →
    tget s.sec.running k = some e → s.lodge.time < e →
    ∃ t, exec (.confirmTrial h k) s = .next t ∧ Waits s t h x 0x1F32 2 (.num k) []) ∧
  (∀ (s : State) (w : Who) (k e : Nat), AtTick s ⟨okey 0x1F32 2, .num k, w, [], true⟩ → 1 ≤ k → k ≤ 3 →
    tget s.sec.running k = some e → s.advance.lodge.time < e →
    ∃ t, exec .timetableTick s = .next t ∧ t.soon = [] ∧ tget t.sec.running k = none ∧
      bit t.sec.active (k - 1) = !bit s.sec.active (k - 1))

/-- The instruments' commands complete. Each WRITE waits for the next tick and is answered OK, and that tick carries it out (R45): a
counter snapshot is counted and stamped (R621); a Turnstile unit is bound to a flow or channel and waits, or to memory and scans,
or is cancelled (R607–R610); a test starts in TEST and a cancelled one ends in SERVICE (R639, R640); a host note enters the
black-box queue (R635). -/
def Obligations.InstrumentCommandsComplete : Prop :=
  (∀ (s : State) (h : ReqHdr) (x : Session), Takes s h x 0x1D00 1 1 (.num 1) →
    ∃ t, exec (.snapshotNow h 1) s = .next t ∧ Waits s t h x 0x1D00 1 (.num 1) []) ∧
  (∀ (s : State) (w : Who), AtTick s ⟨okey 0x1D00 1, .num 1, w, [], true⟩ → s.nat 0x1D00 3 / 100 ≠ s.advance.tick →
    ∃ t, exec .timetableTick s = .next t ∧ t.soon = [] ∧ t.nat 0x1D00 4 = (s.nat 0x1D00 4 + 1) % 2 ^ 64 ∧
      t.nat 0x1D00 3 = s.advance.now) ∧
  (∀ (s : State) (h : ReqHdr) (x : Session) (u : Nat) (b : List Byte), Takes s h x (0x1C10 + u) 1 b.length (.oct b) → u < 10 →
    (s.csu u).state = 0 → s.bindCode u b = .ok →
    ∃ t, exec (.turnstileBinding h u b) s = .next t ∧ Waits s t h x (0x1C10 + u) 1 (.oct b) []) ∧
  (∀ (s : State) (w : Who) (u : Nat) (b : List Byte), AtTick s ⟨okey (0x1C10 + u) 1, .oct b, w, [], true⟩ → u < 10 →
    (s.csu u).state = 0 → (bindingOf b).source ≠ 0 → (bindingOf b).source ≠ 0x10 → s.bindCode u b = .ok →
    ∃ t, exec .timetableTick s = .next t ∧ t.soon = [] ∧ t.csu u = { bindingOf b with state := 1 } ∧
      (∀ k, k ≠ u → t.csu k = s.csu k)) ∧
  (∀ (s : State) (w : Who) (u : Nat) (b : List Byte), AtTick s ⟨okey (0x1C10 + u) 1, .oct b, w, [], true⟩ → u < 10 →
    (s.csu u).state = 0 → (bindingOf b).source = 0x10 → (bindingOf b).length ≠ 0 → s.bindCode u b = .ok →
    (∀ k, (s.dch k).state ≠ 4) →
    ∃ t, exec .timetableTick s = .next t ∧ t.soon = [] ∧
      t.csu u = { bindingOf b with state := 2, began := s.advance.now } ∧ (∀ k, k ≠ u → t.csu k = s.csu k)) ∧
  (∀ (s : State) (h : ReqHdr) (x : Session) (u : Nat), Takes s h x (0x1C10 + u) 3 1 (.num 1) → u < 10 →
    ∃ t, exec (.turnstileCancel h u 1) s = .next t ∧ Waits s t h x (0x1C10 + u) 3 (.num 1) []) ∧
  (∀ (s : State) (w : Who) (u : Nat), AtTick s ⟨okey (0x1C10 + u) 3, .num 1, w, [], true⟩ → u < 10 →
    ∃ t, exec .timetableTick s = .next t ∧ t.soon = [] ∧
      t.csu u = { s.csu u with state := 0, result := 4, progress := 0, seen := [], holes := [] } ∧
      (∀ k, k ≠ u → t.csu k = s.csu k)) ∧
  (∀ (s : State) (h : ReqHdr) (x : Session), Takes s h x 0x1E10 4 1 (.num 1) → s.perf.test = none → s.mode = .service →
    s.nat 0x1E10 1 ≠ 0 → s.nat 0x1E10 2 ≠ 0 → s.testOk (s.nat 0x1E10 1) (s.nat 0x1E10 2) (odBytes s.od 0x1E10 3) = true →
    ∃ t, exec (.testStart h 1) s = .next t ∧ Waits s t h x 0x1E10 4 (.num 1) []) ∧
  (∀ (s : State) (w : Who), AtTick s ⟨okey 0x1E10 4, .num 1, w, [], true⟩ → s.perf.test = none → s.mode = .service →
    s.nat 0x1E10 1 ≠ 0 → s.nat 0x1E10 2 ≠ 0 → s.testOk (s.nat 0x1E10 1) (s.nat 0x1E10 2) (odBytes s.od 0x1E10 3) = true →
    ∃ t, exec .timetableTick s = .next t ∧ t.soon = [] ∧ t.mode = .test ∧
      t.perf.test = some (s.nat 0x1E10 1, s.nat 0x1E10 2, odBytes s.od 0x1E10 3, s.advance.now)) ∧
  (∀ (s : State) (h : ReqHdr) (x : Session), Takes s h x 0x1E10 5 1 (.num 1) →
    ∃ t, exec (.testCancel h 1) s = .next t ∧ Waits s t h x 0x1E10 5 (.num 1) []) ∧
  (∀ (s : State) (w : Who) (r : Nat × Nat × List Byte × Nat), AtTick s ⟨okey 0x1E10 5, .num 1, w, [], true⟩ →
    s.perf.test = some r → s.mode = .test →
    ∃ t, exec .timetableTick s = .next t ∧ t.soon = [] ∧ t.mode = .service ∧ t.perf.test = none) ∧
  (∀ (s : State) (h : ReqHdr) (x : Session) (b : List Byte), Takes s h x 0x1E00 6 b.length (.oct b) →
    ∃ t, exec (.hostNote h b) s = .next t ∧ Waits s t h x 0x1E00 6 (.oct b) []) ∧
  (∀ (s : State) (w : Who) (b : List Byte), AtTick s ⟨okey 0x1E00 6, .oct b, w, [], true⟩ → s.bb.queue.length < 64 →
    ∃ t e, exec .timetableTick s = .next t ∧ t.soon = [] ∧ t.bb.queue = s.bb.queue ++ [e] ∧ e.code = 0x44 ∧
      e.ltime = s.advance.lodge.time / 10 ∧
      e.v = [leNat (b.take 8), leNat ((b.drop 8).take 8), leNat ((b.drop 16).take 8), leNat ((b.drop 24).take 8)])

/-! Power, resets and the Lodge (R30–R42, R443, R447, R470, R543, R548–R572, R601, R602, R630–R638) -/

/-- Power and reset commands complete: VLODGE power-on resets the Lodge and leaves DORMANT (R555, R565, R569); its loss
leaves the device unpowered (R554); a wake order in DORMANT starts the device with its straps sampled (R34, R443, R565);
RESET_N low holds it in reset until its rising edge samples the straps (R443, R470, R565); a Lodge reset and a watchdog
reset, which no trigger of the same tick ranks above (R40), enter STARTING, the watchdog reset with PTP time and the root
kept and its entry in the black box (R551, R566, R569). Each reset is counted (R571).
Where the spec leaves a choice it follows log entry 26. -/
def Obligations.ResetsComplete : Prop :=
  (∀ (s : State) (x : Straps), ∃ t, exec (.vlodgePowerOn x) s = .next t ∧ t.mode = .dormant ∧ t.lodge = State.reset.lodge ∧
    t.tb = State.reset.tb ∧ t.clk = State.reset.clk ∧ t.chan = [] ∧ t.sets = [] ∧ t.ctl.sessions = [] ∧
    t.cluster.role = strapRole x ∧ t.pair.home = x.pairHome ∧ t.bb.slots = s.bb.slots ∧ t.sec.owners = s.sec.owners ∧
    t.sec.banks = s.sec.banks ∧ t.dramMem = []) ∧
  (∀ s : State, ∃ t, exec .vlodgeLoss s = .next t ∧ t.mode = .dormant ∧ t.lodge.powered = false ∧ t.bb.slots = s.bb.slots ∧
    t.sec.owners = s.sec.owners ∧ t.od = State.reset.od) ∧
  (∀ (s : State) (x : Straps), s.mode = .dormant → s.lodge.powered = true → s.lodge.order = 1 → s.lodge.holding = false →
    ∃ t, exec (.vinPowerOn x) s = .next t ∧ t.mode = .starting ∧ t.lodge.order = 0 ∧ t.lodge.resetKind = 0 ∧
      t.lodge.trigger = (if s.lodge.resetKind = 0x10 then 0 else 6) ∧ t.lodge.began = s.lodge.time ∧ t.clk.ref = 0 ∧
      t.cluster.role = strapRole x ∧ t.pair.home = x.pairHome ∧ (∀ k, k < 16 → (t.dch k).state = 1) ∧
      t.nat 0x1703 11 = (s.nat 0x1703 11 + 1) % 4294967296) ∧
  (∀ s : State, s.lodge.powered = true → s.lodge.held = false →
    ∃ t, exec .pinReset s = .next t ∧ t.mode = .starting ∧ t.lodge.held = true ∧ t.lodge.resetKind = 1 ∧ t.lodge.trigger = 1 ∧
      t.ctl.sessions = [] ∧ t.sets = [] ∧ t.tb = State.reset.tb ∧ t.sec.owners = s.sec.owners ∧
      t.nat 0x1703 6 = (s.nat 0x1703 6 + 1) % 4294967296) ∧
  (∀ (s : State) (x : Straps), s.lodge.held = true →
    ∃ t, exec (.resetNRisingEdge x) s = .next t ∧ t.mode = s.mode ∧ t.lodge.held = false ∧ t.lodge.began = s.lodge.time ∧
      t.cluster.role = strapRole x ∧ t.pair.home = x.pairHome) ∧
  (∀ (s : State) (x : Straps), s.lodge.powered = true → s.lodge.order = 2 → s.lodge.held = false →
    ∃ t, exec (.lodgeReset x) s = .next t ∧ t.mode = .starting ∧ t.lodge.order = 0 ∧ t.lodge.resetKind = 4 ∧
      t.lodge.trigger = 4 ∧ t.cluster.role = strapRole x ∧ t.tb = State.reset.tb ∧ t.ctl.sessions = [] ∧
      t.nat 0x1703 7 = (s.nat 0x1703 7 + 1) % 4294967296) ∧
  (∀ (s : State) (pc : Nat), s.mode ≠ .dormant → s.lodge.held = false → s.outranked 3 = false → s.bb.queue.length < 63 →
    ∃ t e, exec (.watchdogExpiry pc) s = .next t ∧ t.mode = .starting ∧ t.lodge.resetKind = 3 ∧ t.lodge.trigger = 3 ∧
      t.lodge.kept = true ∧ t.tb.count = s.tb.count ∧ t.tb.t0 = s.tb.t0 ∧ t.tb.c0 = s.tb.c0 ∧ t.clk = s.clk ∧
      t.ctl.sessions = [] ∧ t.nat 0x1703 8 = (s.nat 0x1703 8 + 1) % 4294967296 ∧
      e ∈ t.bb.queue ∧ e.code = 0x12 ∧ e.v = [pc] ∧ e.ltime = s.lodge.time / 10)

/-- STARTING ends: in RETURN in the RETURN and RETIRED life-cycle states (R578), in SAFE with the cause TRAINING where a DRAM
channel failed its training (R34, R38, R516), and in SERVICE in BLANK (R34) where no image, lane or DRAM channel failed; a
device whose REF_IN has not qualified 1.5 s after STARTING began ends it in SAFE with the cause REFERENCE (R38, R543).
Where the spec leaves a choice it follows log entry 25. -/
def Obligations.StartingEnds : Prop :=
  (∀ (s : State) (r : StartReport), s.mode = .starting → s.lodge.held = false → s.sec.lcs = 3 ∨ s.sec.lcs = 4 →
    ∃ t, exec (.startingComplete r) s = .next t ∧ t.mode = .ret ∧ t.ptp.running = false ∧ t.nat 0x1001 7 = 7 ∧
      t.nat 0x1703 4 = s.lodge.resetKind) ∧
  (∀ (s : State) (r : StartReport) (k v : Nat), s.mode = .starting → s.lodge.held = false → s.sec.lcs ≠ 3 → s.sec.lcs ≠ 4 →
    k < 16 → (k, v) ∈ r.dram →
    ∃ t, exec (.startingComplete r) s = .next t ∧ t.mode = .safe ∧ bit (t.nat 0x1002 3) 4 = true ∧ (t.dch k).state = 7 ∧
      t.nat 0x1001 7 = 14) ∧
  (∀ (s : State) (r : StartReport), s.mode = .starting → s.lodge.held = false → s.sec.lcs = 0 → r.dram = [] → r.lanes = [] →
    (((((s.dropSlots r).dramTrained r).lanesTrained r).selfTested r).bootImages r).1 = false →
    ∃ t, exec (.startingComplete r) s = .next t ∧ t.mode = .service ∧ t.nat 0x1001 7 = 7 ∧
      t.nat 0x1002 3 = s.nat 0x1002 3 ∧ t.lodge.events = []) ∧
  (∀ (s : State) (r : StartReport), s.mode = .starting → s.lodge.held = false → s.sec.lcs ≠ 3 → s.sec.lcs ≠ 4 → s.clk.ref ≠ 2 →
    s.lodge.began + 15000000 ≤ s.lodge.time →
    ∃ t, exec (.referenceStartupTimeout r) s = .next t ∧ t.mode = .safe ∧ bit (t.nat 0x1002 3) 6 = true ∧ t.nat 0x1001 7 = 14 ∧
      t.nat 0x1703 4 = s.lodge.resetKind)

/-- The Lodge's rules and sequences complete. A rule that fires becomes true for as long as its condition holds and is
counted; as its action says it wakes the device from DORMANT unless a hold is true, holds every wake, drives ALERT_N low,
enters the black box, orders a Lodge reset, or brings SAFE with its cause and entry, which in DORMANT, STARTING and RETURN
has no effect (R34, R38, R550, R551, R635). A condition that clears is no longer true, its levels end with it, and where it
was the last of action SAFE that cause clears (R38, R551). A brownout rule and a temperature of 165 °C put the device into
DORMANT with one entry written at once (R560, R562, R633), the trip with every wake held until all sensors release it (R562).
A confirm window that ends leaves the trial unconfirmed, its image running and an entry in the black box (R601).
Where the spec leaves a choice it follows log entries 28 and 29. -/
def Obligations.LodgeRulesComplete : Prop :=
  (∀ (s : State) (k : Nat) (v : Int) (r : LodgeRule), Fires s k v r → r.action = 1 ∨ r.action = 2 ∨ r.action = 3 ∨ r.action = 6 →
    ∃ t, exec (.lodgeRuleFire k v) s = .next t ∧ t.mode = s.mode ∧ t.bb = s.bb ∧
      t.lodge.conds = (if r.op = 2 then s.lodge.conds else s.lodge.conds ++ [k]) ∧
      t.nat 0x1702 3 = (s.nat 0x1702 3 + 1) % 4294967296 ∧
      (r.op ≠ 2 → r.action = 2 → t.lodge.holding = true) ∧ (r.op ≠ 2 → r.action = 3 → t.lodge.alert = true) ∧
      t.lodge.order = (if r.action = 6 then 2
        else if r.action = 1 ∧ s.mode = .dormant ∧ s.lodge.holding = false ∧ s.lodge.order = 0 then 1 else s.lodge.order) ∧
      t.nat 0x1703 12 = (if r.action = 1 ∧ s.mode = .dormant ∧ s.lodge.holding = true then (s.nat 0x1703 12 + 1) % 4294967296
        else s.nat 0x1703 12)) ∧
  (∀ (s : State) (k : Nat) (v : Int) (r : LodgeRule), Fires s k v r → r.action = 4 → s.bb.queue.length < 64 →
    ∃ t e, exec (.lodgeRuleFire k v) s = .next t ∧ t.mode = s.mode ∧ t.lodge.order = s.lodge.order ∧
      t.nat 0x1702 3 = (s.nat 0x1702 3 + 1) % 4294967296 ∧ t.bb = { s.bb with queue := s.bb.queue ++ [e] } ∧
      e.code = 0x13 ∧ e.unit = k ∧ e.v = [r.arg, u64 v] ∧ e.ltime = s.lodge.time / 10) ∧
  (∀ (s : State) (k : Nat) (v : Int) (r : LodgeRule), Fires s k v r → r.action = 7 → s.outranked 4 = false →
    s.mode ≠ .dormant → s.mode ≠ .starting → s.mode ≠ .ret → s.bb.queue.length < 60 →
    ∃ t e f, exec (.lodgeRuleFire k v) s = .next t ∧ t.mode = .safe ∧ bit (t.nat 0x1002 3) 3 = true ∧
      t.nat 0x1001 7 = (if s.mode = .safe then s.nat 0x1001 7 else 15) ∧ t.nat 0x1702 3 = (s.nat 0x1702 3 + 1) % 4294967296 ∧
      e ∈ t.bb.queue ∧ e.code = 0x13 ∧ e.unit = k ∧ e.v = [r.arg, u64 v] ∧
      f ∈ t.bb.queue ∧ f.code = 0x28 ∧ f.v = [15, s.mode.code]) ∧
  (∀ (s : State) (k : Nat) (v : Int) (r : LodgeRule), Fires s k v r → r.action = 7 →
    s.mode = .dormant ∨ s.mode = .starting ∨ s.mode = .ret →
    ∃ t, exec (.lodgeRuleFire k v) s = .next t ∧ t.mode = s.mode ∧ t.nat 0x1002 3 = s.nat 0x1002 3 ∧ t.bb = s.bb ∧
      t.nat 0x1702 3 = (s.nat 0x1702 3 + 1) % 4294967296) ∧
  (∀ (s : State) (k : Nat), k < 64 → s.lodge.conds.contains k = true →
    ∃ t, exec (.ruleConditionCleared k) s = .next t ∧ t.lodge.conds = s.lodge.conds.filter (· != k) ∧ t.mode = s.mode ∧
      t.bb = s.bb ∧ t.lodge.order = s.lodge.order ∧
      t.lodge.alert = (t.lodge.anyTrue [3] || (s.mode != .dormant && t.lodge.anyTrue [5])) ∧
      t.nat 0x1002 3 = (if (s.lodge.rules[k]?).any (fun r => r.action == 7) && !t.lodge.anyTrue [7]
        then clrBit (s.nat 0x1002 3) 3 else s.nat 0x1002 3)) ∧
  (∀ (s : State) (k vin : Nat) (r : LodgeRule), Fires s k vin r → r.action = 5 → s.mode ≠ .dormant →
    ∃ t e, exec (.brownoutSequence k vin) s = .next t ∧ t.mode = .dormant ∧ t.bb.queue = [] ∧
      t.bb.seq = (s.bb.seq + 1) % 4294967296 ∧ t.bb.slot (64 + s.bb.seq % 8128) = bbBytes e s.bb.seq ∧ e.code = 0x10 ∧
      e.unit = k ∧ e.mode = s.mode.code ∧ e.ltime = s.lodge.time / 10 ∧ e.v.headD 0 = u64 vin ∧ t.ctl.sessions = [] ∧
      t.sets = [] ∧ t.chan = [] ∧ t.nat 0x1001 7 = 5 ∧ t.nat 0x1700 6 = (s.nat 0x1700 6 + 1) % 4294967296) ∧
  (∀ (s : State) (k : Nat) (temp : Int), k < 16 → 2640 ≤ temp → s.lodge.powered = true → s.outranked 2 = false →
    ∃ t e, exec (.thermalTrip k temp) s = .next t ∧ t.mode = .dormant ∧ t.lodge.thermalHold = true ∧ t.lodge.order = 0 ∧
      t.bb.seq = (s.bb.seq + 1) % 4294967296 ∧ t.bb.slot (64 + s.bb.seq % 8128) = bbBytes e s.bb.seq ∧ e.code = 0x11 ∧
      e.unit = k ∧ e.mode = s.mode.code ∧ e.ltime = s.lodge.time / 10 ∧ e.v = [u64 temp] ∧
      t.nat 0x1701 0x14 = (s.nat 0x1701 0x14 + 1) % 4294967296 ∧
      t.nat 0x1001 7 = (if s.mode = .dormant then s.nat 0x1001 7 else 0x0D) ∧ t.lodge.holding = true) ∧
  (∀ s : State, ∃ t, exec .thermalHoldRelease s = .next t ∧ t = { s with lodge := { s.lodge with thermalHold := false } } ∧
    t.lodge.holding = s.lodge.anyTrue [2]) ∧
  (∀ (s : State) (k e : Nat), tget s.sec.running k = some e → e ≠ 0 → e ≤ s.lodge.time → s.bb.queue.length < 64 →
    ∃ t x, exec (.confirmWindowExpiry k) s = .next t ∧ t = { s with sec := t.sec, bb := { s.bb with queue := s.bb.queue ++ [x] } } ∧
      tget t.sec.running k = some 0 ∧ t.sec = { s.sec with running := t.sec.running } ∧
      (∀ j, j ≠ k → tget t.sec.running j = tget s.sec.running j) ∧ x.code = 0x1B ∧ x.v = [k] ∧ x.ltime = s.lodge.time / 10)

/-- The black box and the join window complete: the pair of Lodge time and PTP time is queued (R549, R635); the Lodge writes
the oldest queued entry under the next SEQ (R632, R633), and at the end of a coalescing second one entry with the count of
its occurrences in REPEAT (R633); the manager's window closes (R447): with the stored configuration armed as one commit
prepared on every member where there is one to apply, and with nothing else changed where there is none. -/
def Obligations.BlackBoxAndJoinWindowComplete : Prop :=
  (∀ s : State, s.mode ≠ .dormant → s.mode ≠ .starting → s.bb.queue.length < 64 →
    ∃ t e, exec .timeAnchor s = .next t ∧ t.bb.queue = s.bb.queue ++ [e] ∧ e.code = 0x42 ∧ e.ltime = s.lodge.time / 10 ∧
      e.v = [s.now / 1000000000, s.now % 1000000000] ∧ t.od = s.od) ∧
  (∀ (s : State) (e : BbEntry) (q : List BbEntry), s.lodge.powered = true → s.bb.dropped = 0 → s.bb.queue = e :: q → e.sev = 3 →
    ∃ t, exec .blackBoxWrite s = .next t ∧ t.bb.queue = q ∧ t.bb.seq = (s.bb.seq + 1) % 4294967296 ∧
      t.bb.slot (64 + s.bb.seq % 8128) = bbBytes e s.bb.seq ∧ t.od = s.od ∧
      (∀ k, 64 ≤ k → k ≠ 64 + s.bb.seq % 8128 → t.bb.slot k = s.bb.slot k)) ∧
  (∀ (s : State) (e : BbEntry) (q : List BbEntry) (c : Coalesce), s.lodge.powered = true → s.bb.dropped = 0 →
    s.bb.queue = e :: q → e.sev < 3 → c ∈ s.bb.recent → c.matches e.code e.unit e.chan = true →
    s.lodge.time / 10 < c.since + 1000000 →
    ∃ t, exec .blackBoxWrite s = .next t ∧ t.bb.queue = q ∧ t.bb.seq = s.bb.seq ∧ t.bb.slots = s.bb.slots ∧
      (∃ d ∈ t.bb.recent, d.count = c.count + 1 ∧ d.latest = e ∧ d.since = c.since)) ∧
  (∀ (s : State) (c : Coalesce), s.bb.recent = [c] → c.count ≠ 0 → c.since + 1000000 ≤ s.lodge.time / 10 →
    ∃ t, exec (.coalesceExpiry c.latest.code c.latest.unit c.latest.chan) s = .next t ∧
      t.bb.slot (64 + s.bb.seq % 8128) = bbBytes { c.latest with rep := c.count } s.bb.seq ∧
      t.bb.seq = (s.bb.seq + 1) % 4294967296 ∧ t.bb.queue = s.bb.queue) ∧
  (∀ (s : State) (u : Nat), s.cluster.window = some u → u ≤ s.now → s.cluster.role = 1 → s.mode = .service →
    s.startWrites (Mode.ofCode (s.nat 0x1001 3)) = [] →
    exec .joinWindowExpiry s = .next { s with cluster := { s.cluster with window := none } }) ∧
  (∀ (s : State) (u : Nat), s.cluster.window = some u → u ≤ s.now → s.cluster.role = 1 → s.mode = .service →
    s.startWrites (Mode.ofCode (s.nat 0x1001 3)) ≠ [] →
    ({ s with cluster := { s.cluster with window := none } }.startCommit (Mode.ofCode (s.nat 0x1001 3))).1 = .ok →
    ∃ t, exec .joinWindowExpiry s = .next t ∧ t.cluster.window = none ∧ t.mode = .service ∧ (t.set startSet).state = 2 ∧
      (t.set startSet).writes = s.startWrites (Mode.ofCode (s.nat 0x1001 3)) ∧
      (t.set startSet).members = (s.workersOf (s.startWrites (Mode.ofCode (s.nat 0x1001 3)))).map (fun k => (k, .asked)))

/-! The timetable, commits and timed actions (R55–R66, R70–R72, R283–R287, R337, R389, R518, R604–R623, R639–R641, R667) -/

/-- Time advances: while the device is powered and not held in reset, the next tick of PTP time is the next 100 ns tick,
whatever the rate in force (R283, R321, R322); with nothing due or waiting and nobody to inform, that is all that a tick
does, and in DORMANT only the Lodge's time runs (R285, R549). Where the spec leaves a choice it follows log entries 5 and 6.
Where the spec leaves a choice it follows log entries 5 and 6. -/
def Obligations.TicksAreHundredNanoseconds : Prop :=
  (∀ s : State, s.clocked = true → -70368744178 ≤ s.num 0x1500 4 → s.num 0x1500 4 ≤ 70368744178 →
    s.advance.tick = s.tick + 1 ∧ s.tb.count < s.advance.tb.count) ∧
  (∀ s : State, s.clocked = true → s.moving = none → s.soon = [] → s.sets = [] → s.ctl.snaps = [] → s.ctl.sessions = [] →
    (∀ k, k < 4 → ∀ e ∈ s.ttl k, s.advance.tick < e.due) → exec .timetableTick s = .next s.advance) ∧
  (∀ s : State, s.mode = .dormant → s.lodge.powered = true →
    exec .timetableTick s = .next { s with undo := [], lodge := { s.lodge with time := s.lodge.time + 1 } })

/-- The points of a commit complete (R55–R62, R70–R72, R78): at T a set that has gone ahead applies its write, is reported as
applied, and is the device's next commit; at the ready point a set whose fences are signalled goes ahead, one that is not
ready is deferred to its next target, the next boundary of its reference channel where it has one, and one that may not be
deferred again is abandoned with reason 0x05; at the decision point a coordinator whose members are all READY decides COMMIT;
at the cutoff a worker without a decision aborts with reason 0x08 and is isolated; at the arm deadline a set that a member
has not armed aborts with reason 0x04; a finished set that its session has left is free after 60 s (R51, R80).
Where the spec leaves a choice it follows log entries 38, 39, 40 and 108. -/
def Obligations.CommitPointsComplete : Prop :=
  (∀ (s : State) (k n : Nat) (e : TtEntry) (x : StageSet), 1 ≤ k → k ≤ 8 → e ∈ s.ttl 0 → e.kind = 1 → e.target = k → e.due ≤ s.tick →
    s.set k = x → x.state = 2 → x.readyPassed = true → x.coordinator = none → x.members = [] → x.reply = none →
    x.due / 100 ≤ s.tick → x.writes = [(okey 0x1200 1, .num n)] → s.mode = .service → s.moving = none →
    s.bookedChans k 3 = [] →
    ∃ t, exec (.commitFire k) s = .next t ∧ (t.set k).state = 4 ∧ (t.set k).result = .ok ∧ (t.set k).reason = 0 ∧
      t.nat 0x1200 1 = n ∧ t.nat 0x1200 3 = (s.nat 0x1200 3 + 1) % 2 ^ 64 ∧ t.nat 0x1200 4 = x.due ∧ e ∉ t.ttl 0 ∧
      (∀ j, j ≠ k → t.set j = s.set j) ∧ t.mode = .service) ∧
  (∀ (s : State) (k : Nat) (e : TtEntry) (x : StageSet), 1 ≤ k → k ≤ 8 → e ∈ s.ttl 1 → e.kind = 5 → e.target = k → e.due ≤ s.tick →
    s.set k = x → x.state = 2 → x.readyPassed = false → x.report = 0 → x.coordinator = none → x.members = [] →
    s.fencesOk x = true → (∀ kv ∈ x.writes, commandObject (kv.1 / 256) (kv.1 % 256) = false) →
    ∃ t, exec (.commitReadyPoint k) s = .next t ∧ (t.set k).state = 2 ∧ (t.set k).readyPassed = true ∧
      (t.set k).due = x.due ∧ (t.set k).deferrals = x.deferrals ∧ (t.set k).writes = x.writes ∧
      (∀ j, j ≠ k → t.set j = s.set j)) ∧
  (∀ (s : State) (k : Nat) (e : TtEntry) (x : StageSet), 1 ≤ k → k ≤ 8 → e ∈ s.ttl 1 → e.kind = 5 → e.target = k → e.due ≤ s.tick →
    s.set k = x → x.state = 2 ∨ x.state = 3 → x.readyPassed = false → x.report = 0 → x.coordinator = none → x.members = [] →
    x.reply = none → s.fencesOk x = false → x.limit ≤ x.deferrals →
    ∃ t, exec (.commitReadyPoint k) s = .next t ∧ (t.set k).state = 5 ∧ (t.set k).reason = 5 ∧ (t.set k).result = .aborted ∧
      (∀ j, j ≠ k → t.set j = s.set j) ∧ t.nat 0x1200 3 = s.nat 0x1200 3) ∧
  (∀ (s : State) (k : Nat) (e : TtEntry) (x : StageSet), 1 ≤ k → k ≤ 8 → e ∈ s.ttl 1 → e.kind = 5 → e.target = k → e.due ≤ s.tick →
    s.set k = x → x.state = 2 ∨ x.state = 3 → x.readyPassed = false → x.report = 0 → x.coordinator = none → x.members = [] →
    s.fencesOk x = false → x.deferrals < x.limit → x.refch = 0xFF → (∀ n ∈ x.chans s.od, (s.ch n).running = false) →
    ∃ t, exec (.commitReadyPoint k) s = .next t ∧ (t.set k).state = 3 ∧ (t.set k).deferrals = x.deferrals + 1 ∧
      (t.set k).due = x.due + x.lead ∧ (t.set k).writes = x.writes ∧ (∀ j, j ≠ k → t.set j = s.set j) ∧
      t.nat 0x1200 3 = s.nat 0x1200 3) ∧
  (∀ (s : State) (k m : Nat) (e : TtEntry) (x : StageSet), 1 ≤ k → k ≤ 8 → e ∈ s.ttl 1 → e.kind = 6 → e.target = k → e.due ≤ s.tick →
    s.set k = x → x.state = 2 → x.readyPassed = false → x.report = 1 → x.coordinator = none → m < 16 →
    x.members = [(m, MemberArm.ready)] →
    ∃ t, exec (.commitDecisionPoint k) s = .next t ∧ (t.set k).readyPassed = true ∧ (t.set k).state = 2 ∧
      (t.cluster.out.head?.map (fun q => (q.dst, q.kind))) = some (m, 0x15)) ∧
  (∀ (s : State) (k : Nat) (e : TtEntry) (x : StageSet), 9 ≤ k → k ≤ 16 → e ∈ s.ttl 1 → e.kind = 7 → e.target = k → e.due ≤ s.tick →
    s.set k = x → x.state = 2 → x.decision = 0 → x.coordinator = some 0x10 → s.pair.live = true → x.reply = none →
    s.cluster.role = 0 →
    ∃ t, exec (.commitCutoff k) s = .next t ∧ (t.set k).state = 6 ∧ (t.set k).reason = 8 ∧ (t.set k).result = .aborted ∧
      (∀ j, j ≠ k → t.set j = s.set j)) ∧
  (∀ (s : State) (k : Nat) (e : TtEntry) (x : StageSet), 1 ≤ k → k ≤ 8 → e ∈ s.ttl 1 → e.kind = 7 → e.target = k → e.due ≤ s.tick →
    s.set k = x → x.state = 2 → x.decision = 0 → x.coordinator = some 0 → x.reply = none → s.cluster.role = 2 →
    ∃ t, exec (.commitCutoff k) s = .next t ∧ (t.set k).state = 6 ∧ (t.set k).reason = 8 ∧ (t.set k).result = .aborted ∧
      t.cluster.joined = false ∧ (t.nd s.node).state = 4) ∧
  (∀ (s : State) (k m : Nat) (x : StageSet), 1 ≤ k → k ≤ 8 → s.set k = x → x.state = 2 → s.pair.live = true → x.due ≤ s.now + x.lead →
    x.members = [(m, MemberArm.asked)] → x.reply = none →
    ∃ t, exec (.armDeadline k) s = .next t ∧ (t.set k).state = 6 ∧ (t.set k).reason = 4 ∧ (t.set k).result = .aborted ∧
      (t.cluster.out.head?.map (fun q => (q.dst, q.kind))) = some (m, 0x17) ∧ t.nat 0x1200 3 = s.nat 0x1200 3) ∧
  (∀ (s : State) (k : Nat), 1 ≤ k → k ≤ 17 → 4 ≤ (s.set k).state → (s.set k).orphan = true →
    (s.set k).finished + 60000000000 ≤ s.now →
    ∃ t, exec (.finishedSetRelease k) s = .next t ∧ t.set k = {} ∧ (∀ j, j ≠ k → t.set j = s.set j) ∧ t.od = s.od) ∧
  (∀ (s : State) (k b : Nat) (e : TtEntry) (x : StageSet), 1 ≤ k → k ≤ 8 → e ∈ s.ttl 1 → e.kind = 5 → e.target = k → e.due ≤ s.tick →
    s.set k = x → x.state = 2 ∨ x.state = 3 → x.readyPassed = false → x.report = 0 → x.coordinator = none → x.members = [] →
    s.fencesOk x = false → x.deferrals < x.limit → x.refch < 128 → s.far x.refch = false → (s.ch x.refch).running = true →
    b = (s.ch x.refch).boundaryAt (x.due + 1) ((s.ch x.refch).epoch + 1) →
    ∃ t, exec (.commitReadyPoint k) s = .next t ∧ (t.set k).state = 3 ∧ (t.set k).deferrals = x.deferrals + 1 ∧
      (t.set k).due = (s.ch x.refch).expected b ∧ (t.set k).epoch = b ∧ (t.set k).writes = x.writes ∧
      (∀ j, j ≠ k → t.set j = s.set j) ∧ t.nat 0x1200 3 = s.nat 0x1200 3)

/-- Timed actions complete: a channel start makes the channel wait for its first boundary at or after T, a channel stop lets
it stop at its first boundary at or after T (R65, R667, R672); an audio group starts with its ports running (R389); a
retraining window outside a debt payment runs and is counted, and one within it or within 100 µs of it is put off and counted
(R518); a due alarm runs with its lateness counted, and one that is not due is booked (R65, R66, R284); a GPIO pulse and a
trigger output's pulse are given (R65, R337). Where the spec leaves a choice it follows log entries 59, 60, 61 and 107. -/
def Obligations.TimedActionsComplete : Prop :=
  (∀ (s : State) (n k : Nat) (e : TtEntry), n < 128 → 1 ≤ k → k ≤ 17 → e ∈ s.ttl 0 → e.kind = 2 → e.target = n → e.due ≤ s.tick →
    e.ref = (s.set k).order → (s.set k).state = 4 → (∀ j ∈ setNumbers, (s.set j).order = e.ref → (s.set j).state ≠ 0 → j = k) →
    (∀ d ∈ s.ttl 0, d.kind = 2 → d.target = n → d = e) → (s.ch n).running = false →
    ∃ t, exec (.channelStart n) s = .next t ∧ (t.ch n).starting = some (s.set k).due ∧ (t.ch n).running = false ∧
      e ∉ t.ttl 0 ∧ (∀ m, m ≠ n → t.ch m = s.ch m)) ∧
  (∀ (s : State) (n k : Nat) (e : TtEntry), n < 128 → 1 ≤ k → k ≤ 17 → e ∈ s.ttl 0 → e.kind = 3 → e.target = n → e.due ≤ s.tick →
    e.ref = (s.set k).order → (s.set k).state = 4 → (∀ j ∈ setNumbers, (s.set j).order = e.ref → (s.set j).state ≠ 0 → j = k) →
    (∀ d ∈ s.ttl 0, d.kind = 3 → d.target = n → d = e) → (s.ch n).running = true → (s.ch n).starting = none →
    (s.ch n).stopping = none →
    ∃ t, exec (.channelStop n) s = .next t ∧ t.ch n = { s.ch n with stopping := some (s.set k).due } ∧
      e ∉ t.ttl 0 ∧ (∀ m, m ≠ n → t.ch m = s.ch m)) ∧
  (∀ (s : State) (g n p : Nat), g < 8 → tget s.audio.start g = some n → n ≤ s.now → s.nat (0x1B20 + g) 3 = 1 →
    p ∈ groupPorts s.od g →
    ∃ t, exec (.audioGroupStart g) s = .next t ∧ t.nat (0x1B20 + g) 3 = 2 ∧ t.nat (0x1B20 + g) 4 = n ∧
      t.nat (0x1B10 + p) 1 = 1 ∧ t.audio = s.audio) ∧
  (∀ (s : State) (k : Nat) (e : TtEntry), k < 16 → e ∈ s.ttl 2 → e.kind = 9 → e.target = k → e.due ≤ s.tick →
    (s.dch k).state ∉ [0, 4, 6, 7] → (∀ p, (s.dch k).paidAt = some p → p + 100000 ≤ s.now) →
    ∃ t, exec (.dramRetrainingWindow k) s = .next t ∧ t.dch k = { s.dch k with window := false, winAt := some s.now } ∧
      e ∉ t.ttl 2 ∧ t.nat 0x1801 7 = (s.nat 0x1801 7 + 1) % 4294967296) ∧
  (∀ (s : State) (k : Nat) (e : TtEntry), k < 16 → e ∈ s.ttl 2 → e.kind = 9 → e.target = k → e.due ≤ s.tick →
    (s.dch k).state = 6 ∨ ((s.dch k).state = 2 ∧ ∃ p, (s.dch k).paidAt = some p ∧ s.now < p + 100000) →
    ∃ t, exec (.dramRetrainingWindow k) s = .next t ∧ (t.dch k).winAt = (s.dch k).winAt ∧
      t.nat 0x1801 7 = s.nat 0x1801 7 ∧ t.nat 0x1801 9 = (s.nat 0x1801 9 + 1) % 4294967296) ∧
  (∀ (s : State) (due ref owner : Nat), s.tick < due → (⟨due, 0x0A, 0, ref % 4294967296, owner⟩ : TtEntry) ∉ s.ttl 3 → 4 ≤ s.tt.length →
    ∃ t, exec (.alarm due ref owner) s = .next t ∧ (⟨due, 0x0A, 0, ref % 4294967296, owner⟩ : TtEntry) ∈ t.ttl 3 ∧
      (t.ttl 3).length = (s.ttl 3).length + 1 ∧ t.nat 0x2002 4 = (t.ttl 3).length ∧ (∀ k, k < 3 → t.ttl k = s.ttl k)) ∧
  (∀ (s : State) (due ref owner : Nat), (⟨due, 0x0A, 0, ref % 4294967296, owner⟩ : TtEntry) ∈ s.ttl 3 → due < s.tick →
    ∃ t, exec (.alarm due ref owner) s = .next t ∧ (⟨due, 0x0A, 0, ref % 4294967296, owner⟩ : TtEntry) ∉ t.ttl 3 ∧
      t.nat 0x1200 5 = (s.nat 0x1200 5 + 1) % 4294967296 ∧ t.nat 0x1200 6 = max (s.nat 0x1200 6) ((s.tick - due) * 100)) ∧
  (∀ (s : State) (due pin ref owner : Nat), pin < 16 →
    (⟨due, 0x0B, pin, ref % 4294967296, owner⟩ : TtEntry) ∈ s.ttl 3 → due = s.tick →
    ∃ t, exec (.gpioPulse due pin ref owner) s = .next t ∧
      tget t.trig.gpio pin = some (due * 100 + Config.freeNat s.free) ∧ (⟨due, 0x0B, pin, ref % 4294967296, owner⟩ : TtEntry) ∉ t.ttl 3 ∧
      t.nat 0x1200 5 = s.nat 0x1200 5) ∧
  (∀ (s : State) (k edge : Nat), k < 16 → s.mode = .service → s.nat (0x1520 + k) 1 = 1 → s.triggerAt k edge = true →
    tget s.trig.last k = none → edge ≤ s.now →
    ∃ t, exec (.triggerOutputPulse k edge) s = .next t ∧ tget t.trig.last k = some edge ∧
      tget t.trig.high k = some (edge + s.nat (0x1520 + k) 6) ∧
      t.nat (0x1520 + k) 9 = (s.nat (0x1520 + k) 9 + 1) % 4294967296 ∧ t.tt = s.tt)

/-- The measuring commands complete: the periodic snapshot is taken at multiples of its period (R621); a tagged bundle's
record enters the ring and is counted (R624–R628); a full Turnstile window is compared with the expected value and counted,
an incomplete one is counted as such, and a unit whose source has ended reports it (R604–R611); a test of every unit that
passes ends in SERVICE with its result (R639–R641); a counter past its end is marked wrapped and late (R617, R623).
Where the spec leaves a choice it follows log entry 74. -/
def Obligations.MeasurementsComplete : Prop :=
  (∀ s : State, s.nat 0x1D00 2 ≠ 0 → s.tick * 100 % (s.nat 0x1D00 2 * 1000000) = 0 → s.nat 0x1D00 3 / 100 ≠ s.tick →
    ∃ t, exec .periodicCounterSnapshot s = .next t ∧ t.nat 0x1D00 3 = s.now ∧ t.nat 0x1D00 4 = (s.nat 0x1D00 4 + 1) % 2 ^ 64 ∧
      t.perf.edge = s.tb.count) ∧
  (∀ (s : State) (r : TagRecord) (n x y : Nat), r.pav < pavCount → tget s.perf.lfsr r.pav = some x → lfsrTag s.perf.tagK n x = some y →
    ∃ t, exec (.taggedBundleRecord r n false) s = .next t ∧ tget t.perf.lfsr r.pav = some y ∧ r ∈ t.perf.ring ∧
      t.nat 0x1D90 2 = (s.nat 0x1D90 2 + 1) % 2 ^ 64 ∧ t.nat 0x1D90 3 = s.nat 0x1D90 3) ∧
  (∀ (s : State) (r : TagRecord) (n x y : Nat), r.pav < pavCount → tget s.perf.lfsr r.pav = some x → lfsrTag s.perf.tagK n x = some y →
    ∃ t, exec (.taggedBundleRecord r n true) s = .next t ∧ tget t.perf.lfsr r.pav = some y ∧ t.perf.ring = s.perf.ring ∧
      t.nat 0x1D90 2 = s.nat 0x1D90 2 ∧ t.nat 0x1D90 3 = (s.nat 0x1D90 3 + 1) % 2 ^ 64) ∧
  (∀ (s : State) (u : Nat) (data d : List Byte) (whole : Bool) (x : Turnstile), u < 10 → s.csu u = x → s.windowFull x = true →
    s.covered x data whole = (d, true) →
    checkValue x.algo d = s.nat (0x1C10 + u) 2 % 2 ^ checkWidth x.algo →
    ∃ t, exec (.turnstileWindowEnd u data whole) s = .next t ∧ (t.csu u).result = 1 ∧
      (t.csu u).state = (if x.repeating then 2 else 0) ∧ t.nat (0x1C10 + u) 5 = checkValue x.algo d ∧
      t.nat (0x1C10 + u) 6 = (if x.source = 0x10 then 0 else x.window) ∧ t.nat (0x1C10 + u) 7 = (s.nat (0x1C10 + u) 7 + 1) % 4294967296 ∧
      t.msix = s.msix ∧ (∀ k, k ≠ u → t.csu k = s.csu k)) ∧
  (∀ (s : State) (u : Nat) (data d : List Byte) (whole : Bool) (x : Turnstile), u < 10 → s.csu u = x → s.windowFull x = true →
    s.covered x data whole = (d, true) →
    checkValue x.algo d ≠ s.nat (0x1C10 + u) 2 % 2 ^ checkWidth x.algo → s.nat 0x1C00 1 < 64 →
    ∃ t, exec (.turnstileWindowEnd u data whole) s = .next t ∧ (t.csu u).result = 2 ∧
      (t.csu u).state = (if x.repeating then 2 else 0) ∧ t.nat (0x1C10 + u) 5 = checkValue x.algo d ∧
      t.nat (0x1C10 + u) 8 = (s.nat (0x1C10 + u) 8 + 1) % 4294967296 ∧ t.msix = setBit s.msix (s.nat 0x1C00 1)) ∧
  (∀ (s : State) (u : Nat) (data d : List Byte) (whole : Bool) (x : Turnstile), u < 10 → s.csu u = x → s.windowFull x = true →
    s.covered x data whole = (d, false) →
    ∃ t, exec (.turnstileWindowEnd u data whole) s = .next t ∧ (t.csu u).result = 3 ∧
      (t.csu u).state = (if x.repeating then 2 else 0) ∧ t.nat (0x1C10 + u) 5 = s.nat (0x1C10 + u) 5 ∧
      t.nat (0x1C10 + u) 9 = (s.nat (0x1C10 + u) 9 + 1) % 4294967296 ∧ t.msix = s.msix) ∧
  (∀ (s : State) (u : Nat) (x : Turnstile), u < 10 → s.csu u = x → x.state = 2 → x.source ≠ 0x10 →
    (s.ch (s.snoopChan x)).running = false → x.repeating = false →
    ∃ t, exec (.turnstileSourceEnded u) s = .next t ∧ (t.csu u).result = 5 ∧ (t.csu u).state = 0 ∧
      (∀ k, k ≠ u → t.csu k = s.csu k)) ∧
  (∀ (s : State) (outcome duration code units lim : Nat) (p : List Byte) (began : Nat) (v : List TestVerdict),
    s.perf.test = some (code, units, p, began) → s.mode = .test → testLimit code = some lim → outcome = 2 →
    v.map TestVerdict.unit = bits units 64 → (∀ x ∈ v, x.verdict ≠ 1) →
    ∃ t, exec (.testComplete outcome duration v) s = .next t ∧ t.mode = .service ∧ t.perf.test = none ∧ t.nat 0x1E10 6 = 2 ∧
      odBytes t.od 0x1E10 8 = testRecord code 2 duration v) ∧
  (∀ (s : State) (k : Nat), k < 1152 → countsCycles k (s.ctr k).ctl = true → 2 ^ 64 ≤ (s.ctr k).live + (s.tb.count - s.perf.edge) →
    ∃ t, exec (.performanceCounterWrap k) s = .next t ∧ t.ctr k = { s.ctr k with wrapped := true, late := true } ∧
      (∀ j, j ≠ k → t.ctr j = s.ctr j))

/-! Input, lanes and frame boundaries (R8, R46, R134–R138, R168–R173, R316, R406–R440, R672) -/

/-- The lane commands complete: a lane's full training ends with it up and its equalisation frozen, or failed, which brings
its Carriageway port down to train again (R412, R416, R437, R439); an up lane fails after 64 failing lines and is restored
after 64 passing ones (R425); electrical idle is entered and left, by relocking or by full training (R413, R414); an idle
Carriageway port sends its lanes to electrical idle (R414, R439). -/
def Obligations.LaneCommandsComplete : Prop :=
  (∀ (s : State) (k : Nat), k < 48 → (s.laneAt k).rx = 1 →
    ∃ t, exec (.laneTrainingComplete k true) s = .next t ∧ (t.laneAt k).rx = 2 ∧
      (t.laneAt k).tx = (if (s.laneAt k).tx = 1 then 2 else (s.laneAt k).tx) ∧ (t.laneAt k).eq = s.eqEntry k ∧
      t.nat (0x1920 + k) 7 = (s.nat (0x1920 + k) 7 + 1) % 4294967296 ∧ (∀ j, j ≠ k → t.laneAt j = s.laneAt j)) ∧
  (∀ (s : State) (k : Nat), k < 48 → (s.laneAt k).rx = 1 → s.quadRole (k / 4) ≠ 2 →
    ∃ t, exec (.laneTrainingComplete k false) s = .next t ∧ (t.laneAt k).rx = 4 ∧
      (t.laneAt k).tx = (if (s.laneAt k).tx = 1 then 4 else (s.laneAt k).tx) ∧ (∀ j, j ≠ k → t.laneAt j = s.laneAt j)) ∧
  (∀ (s : State) (k p : Nat), k < 48 → (s.laneAt k).rx = 1 → s.quadRole (k / 4) = 2 → s.portOfQuad (k / 4) = some p →
    s.bb.queue.length < 64 →
    ∃ t e, exec (.laneTrainingComplete k false) s = .next t ∧ t.nat (0x1950 + p) 1 = 1 ∧
      t.nat (0x1950 + p) 7 = (s.nat (0x1950 + p) 7 + 1) % 4294967296 ∧ t.bb.queue = s.bb.queue ++ [e] ∧ e.code = 0x24 ∧
      e.unit = p ∧ (∀ j, j ∈ s.portLanes p → (t.laneAt j).rx = 1 ∧ (t.laneAt j).tx = 1) ∧
      (∀ j, j ∉ s.portLanes p → t.laneAt j = s.laneAt j)) ∧
  (∀ (s : State) (k : Nat), k < 48 → (s.laneAt k).rx = 2 → 64 ≤ (s.laneAt k).failRun → s.bb.queue.length < 64 →
    ∃ t e, exec (.laneFailed k) s = .next t ∧ t.laneAt k = { s.laneAt k with rx := 4, passRun := 0 } ∧
      t.nat (0x1920 + k) 8 = (s.nat (0x1920 + k) 8 + 1) % 4294967296 ∧ t.bb.queue = s.bb.queue ++ [e] ∧ e.code = 0x2A ∧ e.unit = k) ∧
  (∀ (s : State) (k : Nat), k < 48 → (s.laneAt k).rx = 4 → 64 ≤ (s.laneAt k).passRun →
    ∃ t, exec (.laneRestored k) s = .next t ∧ t.laneAt k = { s.laneAt k with rx := 2, failRun := 0 } ∧ t.od = s.od) ∧
  (∀ (s : State) (k : Nat), k < 48 → (s.laneAt k).rx = 2 →
    ∃ t, exec (.electricalIdleEntry k) s = .next t ∧ t.laneAt k = { s.laneAt k with rx := 3 } ∧
      t.nat (0x1920 + k) 5 = (s.nat (0x1920 + k) 5 + 1) % 4294967296 ∧ (∀ j, j ≠ k → t.laneAt j = s.laneAt j)) ∧
  (∀ (s : State) (k : Nat), k < 48 → (s.laneAt k).rx = 3 →
    (∃ t, exec (.fastExit k true) s = .next t ∧ t.laneAt k = { s.laneAt k with rx := 2 } ∧
      t.nat (0x1920 + k) 6 = (s.nat (0x1920 + k) 6 + 1) % 4294967296) ∧
    (s.quadRole (k / 4) = 1 → ∃ t, exec (.fastExit k false) s = .next t ∧ (t.laneAt k).rx = 1 ∧ (t.laneAt k).tx = 0 ∧
      t.od = s.od)) ∧
  (∀ (s : State) (p k : Nat), p < 4 → s.cwUp p = true → s.nat 0x1903 1 ≠ 0 → (s.cwAt p).replay = [] → (s.cwAt p).waiting = [] →
    (s.cwAt p).idleSince + s.nat 0x1903 1 ≤ s.now → k ∈ s.portLanes p → (s.laneAt k).tx = 2 →
    ∃ t, exec (.carriagewayIdleTimeout p) s = .next t ∧ (t.laneAt k).tx = 3 ∧ (t.laneAt k).rx = (s.laneAt k).rx ∧
      (∀ j, j ∉ s.portLanes p → t.laneAt j = s.laneAt j))

/-- The lines of a picture complete: an intact line of a bond of one lane is placed by its LINE field, with its samples and
its ancillary packets, which join the picture's access unit ahead of its bands or after them (R221), and counted (R418, R423,
R441); a line that has not come in time is filled by the line-fill policy and counted (R170); a CTU row whose last line is
due is written to the frame ring (R11, R136); in DECODE an output line leaves on the return-video lanes (R316, R426).
Where the spec leaves a choice it follows log entries 63, 100 and 115. -/
def Obligations.LinesComplete : Prop :=
  (∀ (s : State) (n l stamp : Nat) (g : Segment) (h : LineHead) (anc : List Byte) (samples : List Nat), n < 128 → l < 48 →
    (s.ch n).running = true → (s.ch n).starting = none → s.source n = 0xFF → s.bond n = ⟨[l], none⟩ → (s.laneAt l).rx = 2 →
    s.quadRole (l / 4) = 1 → g.lane = l → segPasses g = true → h = lineHead (segHead g) → headNat (segHead g) 15 1 = 0 → h.lanes = 1 →
    bit h.flags 3 = false → h.line ≠ 0 → h.line < h.height → (s.ch n).discarding = false → tget (s.ch n).have_ h.line = none →
    s.now ≤ (s.ch n).stamp + ((s.cfg n).ns (Frac.ofInt (h.line + 2 : Nat))).floor.toNat → h.width = (s.lineWindow n).2 →
    h.height = (s.cfg n).h → (rateCodes.getD h.rate (0, 1)).1 * (s.cfg n).den = (rateCodes.getD h.rate (0, 1)).2 * (s.cfg n).num →
    h.fmt = (s.cfg n).fmt → lineBody (segHead g) (bodyOf [segShare g]) h = some (anc, samples) →
    ∃ t, exec (.lineReceived n [g] stamp) s = .next t ∧ tget (t.ch n).lines h.line = some samples ∧
      tget (t.ch n).have_ h.line = some 1 ∧ (t.ch n).anc =
        (if decide ((s.ch n).budE < (s.ch n).epoch) || (s.ch n).budE == (s.ch n).epoch && (s.ch n).budRow == 0
          then ((s.ch n).anc.1 ++ ancPackets anc anc.length, (s.ch n).anc.2)
          else ((s.ch n).anc.1, (s.ch n).anc.2 ++ ancPackets anc anc.length)) ∧
      t.nat (chI n 12) 1 = (s.nat (chI n 12) 1 + 1) % 4294967296 ∧ (∀ m, m ≠ n → t.ch m = s.ch m)) ∧
  (∀ (s : State) (n line : Nat), n < 128 → (s.ch n).running = true → line < (s.cfg n).h → tget (s.ch n).have_ line = none →
    (s.ch n).stamp + ((s.cfg n).ns (Frac.ofInt (line + 2 : Nat))).ceil.toNat ≤ s.now →
    ∃ t, exec (.lineMissing n line) s = .next t ∧ t.ch n = (s.ch n).fillLine (s.cfg n) line ∧
      tget (t.ch n).have_ line = some 2 ∧ t.nat (chI n 8) 4 = (s.nat (chI n 8) 4 + 1) % 4294967296 ∧
      t.nat (chI n 8) 2 = (if (s.ch n).missing then s.nat (chI n 8) 2 else 1) ∧ (∀ m, m ≠ n → t.ch m = s.ch m)) ∧
  (∀ (s : State) (n row stamp : Nat) (g : Cfg), n < 128 → tget (s.ch n).stamps (s.ch n).readyE = some stamp →
    g = s.cfgAt n (s.ch n).readyE → row = (s.ch n).ready → row < g.rows →
    stamp + (g.ns (Frac.ofInt (g.lastInput (min g.oh ((row + 1) * g.ctu) - 1) + 5 : Nat))).ceil.toNat ≤ s.now →
    ∃ t, exec (.pergolaRowReady n row) s = .next t ∧
      ((t.ch n).readyE, (t.ch n).ready) = (if g.rows ≤ row + 1 then ((s.ch n).readyE + 1, 0) else ((s.ch n).readyE, row + 1)) ∧
      (∀ y ∈ g.rowLines row, (tget (t.ch n).ring (rowKey (s.ch n).readyE y)).isSome = true)) ∧
  (∀ (s : State) (n line stamp : Nat) (g : Cfg), n < 128 → tget (s.ch n).stamps (s.ch n).retE = some stamp →
    g = s.cfgAt n (s.ch n).retE → s.chanMode n = .decode →
    (bondOf (s.nat (chI n 10) 4) (s.flag (chI n 10) 5)).data ≠ [] → line = (s.ch n).retLine → line < g.oh →
    stamp + (g.ns (Frac.ofInt (line + 5 : Nat))).ceil.toNat ≤ s.now →
    ∃ t segs, exec (.returnVideoLine n line) s = .next t ∧ tget t.ret n = some segs ∧
      (∀ x ∈ segs, (s.laneAt x.lane).tx = 2) ∧
      ((t.ch n).retE, (t.ch n).retLine) = (if g.oh ≤ line + 1 then ((s.ch n).retE + 1, 0) else ((s.ch n).retE, line + 1)))

/-- Frame boundaries complete: a boundary that no line 0 brought is supplied W lines after its expected instant and its
picture is wholly missing (R169, R171); a starting channel's first boundary is supplied at T, a frame period and W lines, and
becomes the cadence origin (R168, R672); a decoder-fed channel takes the decoded picture of its slot at the expected boundary
(R307). Every boundary advances the channel's epoch count (R46). Where the spec leaves a choice it follows log entry 62. -/
def Obligations.BoundariesComplete : Prop :=
  (∀ (s : State) (n : Nat), n < 128 → Quiet s n → (s.ch n).running = true → (s.ch n).starting = none → s.source n = 0xFF →
    (s.ch n).expected ((s.ch n).epoch + 1) + s.lockNs n ≤ s.now →
    ∃ t, exec (.boundarySupplied n) s = .next t ∧ (t.ch n).epoch = (s.ch n).epoch + 1 ∧ (t.ch n).missing = true ∧
      (t.ch n).stamp = (s.ch n).expected ((s.ch n).epoch + 1) + s.lockNs n ∧ (t.ch n).running = true ∧
      (t.ch n).run = (s.ch n).run + 1 ∧ t.nat 0x1210 (n + 1) = (s.ch n).epoch + 1 ∧ (∀ m, m ≠ n → t.ch m = s.ch m)) ∧
  (∀ (s : State) (n t0 : Nat), n < 128 → Quiet s n → (s.ch n).running = false → (s.ch n).starting = some t0 → s.source n = 0xFF →
    t0 + (s.cfg n).period.ceil.toNat + s.lockNs n ≤ s.now →
    ∃ t, exec (.firstBoundarySupplied n) s = .next t ∧ (t.ch n).running = true ∧ (t.ch n).starting = none ∧
      (t.ch n).epoch = 0 ∧ (t.ch n).origin = t0 + (s.cfg n).period.ceil.toNat + s.lockNs n ∧ (t.ch n).missing = true ∧
      (t.ch n).rateNum = (s.cfg n).num ∧ (t.ch n).rateDen = (s.cfg n).den ∧ t.nat 0x1210 (n + 1) = 0) ∧
  (∀ (s : State) (n : Nat) (p : Pict), n < 128 → Quiet s n → (s.ch n).running = true → (s.ch n).starting = none → s.source n ≤ 4 →
    (s.ch n).expected ((s.ch n).epoch + 1) ≤ s.now → (s.dc n).waiting = [p] →
    p.t = (s.ch n).expected ((s.ch n).epoch + 1) → p.done ≤ p.t →
    ∃ t, exec (.decodedPicturePresented n) s = .next t ∧ (t.ch n).epoch = (s.ch n).epoch + 1 ∧ (t.ch n).missing = false ∧
      (t.ch n).stamp = p.t ∧ (t.dc n).waiting = [] ∧ (t.dc n).shown = p.marked ∧
      t.nat (chI n 0x78) 4 = (s.nat (chI n 0x78) 4 + 1) % 4294967296)

/-! The Mews, Pavilions and entropy units (R184–R200, R244–R256, R262–R282) -/

/-- The commands of a band's coaches complete: fetch frees its stall and signals the windows to the band and to its search;
search frees its own and delivers the band's motion field (R188, R191, R262, R265); a row's budget is split among its bands
in proportion to their costs above their floor reserves, and signalled to each (R244, R250); a token reaches its stall, and a
coach whose operands are complete becomes ready (R265); the free working Pavilion that the rotating dispatcher picks takes
the first coach it may run (R266, R268); a band leaves its outputs as it retires and its bits become final, or wait for the
bands ahead (R184, R252, R272); a row's seams finish (R199, R200); a substituted band is reconstructed (R256).
Where the spec leaves a choice it follows log entries 67, 68, 70, 102, 104 and 109. -/
def Obligations.CoachesComplete : Prop :=
  (∀ (s : State) (i k : Nat) (x b : Stall), i < 49152 → s.stall i = some x → x.kind = 3 → x.state = 4 → k ≠ i →
    s.stallOf 1 x.chan x.epoch x.row x.col = some (k, b) → s.stallOf 4 x.chan x.epoch x.row x.col = none →
    ∃ t, exec (.fetchComplete i) s = .next t ∧ t.stall i = none ∧ t.stall k = some { b with tokens := setBit b.tokens 1 } ∧
      t.chan = s.chan ∧ t.od = s.od) ∧
  (∀ (s : State) (i k j : Nat) (x b y : Stall), i < 49152 → s.stall i = some x → x.kind = 3 → x.state = 4 → k ≠ i → j ≠ i → j ≠ k →
    s.stallOf 1 x.chan x.epoch x.row x.col = some (k, b) → s.stallOf 4 x.chan x.epoch x.row x.col = some (j, y) →
    ∃ t, exec (.fetchComplete i) s = .next t ∧ t.stall i = none ∧ t.stall k = some { b with tokens := setBit b.tokens 1 } ∧
      t.stall j = some { y with tokens := setBit y.tokens 1 } ∧ t.chan = s.chan ∧ t.od = s.od) ∧
  (∀ (s : State) (i k : Nat) (x b : Stall), i < 49152 → s.stall i = some x → x.kind = 4 → x.state = 3 → k ≠ i →
    s.stallOf 1 x.chan x.epoch x.row x.col = some (k, b) →
    ∃ t, exec (.motionFieldDelivered i k) s = .next t ∧ t.stall i = none ∧
      t.stall k = some { b with field := some (s.fieldOf x), tokens := setBit b.tokens 2 } ∧ t.chan = s.chan ∧ t.od = s.od) ∧
  (∀ (s : State) (n row stamp kind : Nat) (g : Cfg) (cost : Nat × Nat → Nat), n < 128 →
    tget (s.ch n).stamps (s.ch n).budE = some stamp → g = s.cfgAt n (s.ch n).budE → row = (s.ch n).budRow → row < g.drows →
    tgetD (s.ch n).kinds (s.ch n).budE 1 = kind →
    stamp + (g.ns (((g.sd.mul (Frac.ofInt row)).add g.a).add (Frac.ofInt (g.y0 + g.p : Nat)))).ceil.toNat ≤ s.now →
    (∀ b ∈ g.bandsOf row, s.bandCost n (s.ch n).budE (bit kind 0) (kind / 2) b = some (cost b)) →
    ∃ t, exec (.rowBudgetSet n row) s = .next t ∧
      ((t.ch n).budE, (t.ch n).budRow) = (if g.drows ≤ row + 1 then ((s.ch n).budE + 1, 0) else ((s.ch n).budE, row + 1)) ∧
      tget (t.ch n).rowBudgets (rowKey (s.ch n).budE row) = some ((g.bandsOf row).map (fun b =>
        ((g.bandReserve b.2 (bit kind 0) (kind / 2) : Int) +
          (s.ch n).rowSpend g (s.ch n).budE row (bit kind 0) (kind / 2) * (cost b : Nat) /
            ((max 1 ((g.bandsOf row).map cost).sum : Nat) : Int)).toNat)).sum ∧
      (∀ b ∈ g.bandsOf row, (tget (t.ch n).bandBudgets (bandKey (s.ch n).budE b.1 b.2)).isSome = true) ∧
      (∀ b ∈ g.bandsOf row, ∀ k x, s.stallOf 1 n (s.ch n).budE b.1 b.2 = some (k, x) →
        (t.stall k).any (fun y => bit y.tokens 3) = true) ∧ t.od = s.od) ∧
  (∀ (s : State) (i slot : Nat) (x : Stall), i < 49152 → slot < 5 → s.stall i = some x → bit x.tokens slot = true →
    ∃ t y, exec (.operandToken i slot) s = .next t ∧ t.stall i = some y ∧ y.opmask = setBit x.opmask slot ∧
      y.tokens = clrBit x.tokens slot ∧
      (x.state = 2 → Nat.land y.opmask (needOf x.kind) = needOf x.kind → y.state = 3 ∧ y.readyAt = s.now ∧
        y.list = s.listOf { x with tokens := y.tokens, opmask := y.opmask }) ∧
      (x.state = 2 → Nat.land y.opmask (needOf x.kind) ≠ needOf x.kind → y.state = 2) ∧ t.chan = s.chan) ∧
  (∀ (s : State) (p k : Nat) (x : Stall), p < 64 → s.gated = false → s.working p = true → (s.pav p).busy = none →
    s.choose p = some (k, x) → s.picked p k = true →
    ∃ t, exec (.coachDispatch p) s = .next t ∧ t.stall k = some { x with state := 4, pav := p, runs := x.runs + 1 } ∧
      (t.pav p).busy = some k ∧ (t.pav p).operands = (if x.kind = 1 then some (s.bandIn x) else none) ∧
      tget t.mews.lastPav (p / 16) = some p ∧ t.chan = s.chan) ∧
  (∀ (s : State) (i bits ctus floors : Nat) (x : Stall), i < 49152 → s.stall i = some x → x.kind = 1 → x.state = 4 → x.list ≠ 2 →
    bits ≤ tgetD (s.ch x.chan).bandBudgets (bandKey x.epoch x.row x.col) 0 → ctus = (s.cfgAt x.chan x.epoch).tileW x.col →
    floors ≤ ctus → s.aheadWaits x = true →
    ∃ t, exec (.bandRetire i bits ctus floors bits) s = .next t ∧ t.stall i = some { x with state := 5, done := (bits, floors) } ∧
      (t.pav x.pav).busy = none ∧ (t.ch x.chan).bands = (s.ch x.chan).bands ∧ t.od = s.od ∧
      (∀ b, (s.pav x.pav).operands = some b →
        tget (t.ch x.chan).recon (bandKey x.epoch x.row x.col) = some (Config.codeBand b).recon)) ∧
  (∀ (s : State) (i bits ctus floors : Nat) (x : Stall), i < 49152 → s.stall i = some x → x.kind = 1 → x.state = 4 → x.list ≠ 2 →
    bits ≤ tgetD (s.ch x.chan).bandBudgets (bandKey x.epoch x.row x.col) 0 → ctus = (s.cfgAt x.chan x.epoch).tileW x.col →
    floors ≤ ctus → s.aheadWaits x = false → (s.ch x.chan).bandDone x.epoch x.row x.col = false →
    (s.ch x.chan).columnLost (s.cfgAt x.chan x.epoch) x.epoch x.row x.col = false →
    ∃ t, exec (.bandRetire i bits ctus floors bits) s = .next t ∧
      tget (t.ch x.chan).bands (bandKey x.epoch x.row x.col) = some bits ∧ t.stall i = none ∧
      (∀ b, (s.pav x.pav).operands = some b →
        tget (t.ch x.chan).recon (bandKey x.epoch x.row x.col) = some (Config.codeBand b).recon)) ∧
  (∀ (s : State) (i : Nat) (x : Stall), i < 49152 → s.stall i = some x → x.kind = 2 → x.state = 4 →
    ∃ t, exec (.seamCoachComplete i) s = .next t ∧ t.stall i = none ∧ (t.pav x.pav).busy = none ∧
      (t.ch x.chan).seams = rowKey x.epoch x.row :: (s.ch x.chan).seams ∧
      (tget (s.ch x.chan).tails x.epoch = none → t.od = s.od) ∧
      ((s.cfgAt x.chan x.epoch).rows ≤ x.row + 1 → tget (t.ch x.chan).tails x.epoch = none)) ∧
  (∀ (s : State) (i : Nat) (x : Stall), i < 49152 → s.stall i = some x → x.kind = 1 → x.state = 4 → x.list = 2 →
    ∃ t, exec (.substituteReconstructionComplete i) s = .next t ∧ t.stall i = none ∧ (t.pav x.pav).busy = none ∧
      (t.ch x.chan).bands = (s.ch x.chan).bands ∧ t.od = s.od ∧
      (∀ b, (s.pav x.pav).operands = some b →
        tget (t.ch x.chan).recon (bandKey x.epoch x.row x.col) = some (Config.substBand b).recon))

/-- The commands of faulty engines complete: a fault in a band's run is counted and recorded, its coach goes to list 0 with
the Pavilion excluded, and the Pavilion is on probation with a self-test to run (R274–R276); a corrected SRAM error is
counted by the Pavilion and its coach runs on (R183); the 64th passing self-test ends the self-tests, a failing one retires
the Pavilion, whose quarter's spare starts in its place, or the device is in SAFE for want of one (R276, R277, R280, R281); a
probation that has lasted its window ends (R276); a spare that has loaded takes the retired Pavilion's berths and is recorded
(R280). Where the spec leaves a choice it follows log entry 69. -/
def Obligations.EngineCommandsComplete : Prop :=
  (∀ (s : State) (i word : Nat) (x : Stall), i < 49152 → word < 32768 → s.stall i = some x → x.kind = 1 → x.state = 4 → x.list ≠ 2 →
    (s.pav x.pav).state ≤ 2 → (s.pav x.pav).words.contains word = false → s.window = 0 → tabWf s.mews.stalls = true →
    s.bb.queue.length < 64 →
    ∃ t e, exec (.engineFault i 1 word) s = .next t ∧
      t.stall i = some { x with state := 3, list := 0, readyAt := s.now, failed := x.pav :: x.failed } ∧
      (t.pav x.pav).state = 2 ∧ (t.pav x.pav).busy = none ∧ (t.pav x.pav).words = word :: (s.pav x.pav).words ∧
      (t.pav x.pav).faults = s.now :: (s.pav x.pav).faults ∧ (t.selfTest x.pav).isSome = true ∧
      t.nat 0x2000 7 = (s.nat 0x2000 7 + 1) % 4294967296 ∧ t.bb.queue = s.bb.queue ++ [e] ∧ e.code = 1 ∧ e.unit = x.pav) ∧
  (∀ (s : State) (i word : Nat) (x : Stall), i < 49152 → word < 32768 → s.stall i = some x → x.state = 4 →
    ∃ t, exec (.engineFault i 0 word) s = .next t ∧ t.mews.stalls = s.mews.stalls ∧
      t.pav x.pav = { s.pav x.pav with corrected := (s.pav x.pav).corrected + 1 } ∧ t.od = s.od ∧ t.bb = s.bb) ∧
  (∀ (s : State) (p : Nat), p < 64 → (s.pav p).state = 2 → (s.pav p).tests = 63 →
    ∃ t, exec (.selfTestComplete p true) s = .next t ∧ (t.pav p).state = (if s.window = 0 then 0 else 1) ∧ (t.pav p).tests = 64 ∧
      (t.pav p).busy = none ∧ (∀ k, k ≠ p → t.pav k = s.pav k) ∧ t.od = s.od) ∧
  (∀ (s : State) (p : Nat), p < 64 → (s.pav p).state = 2 → s.spareOf (p / 16) = none → s.mode = .safe → s.outranked 4 = false →
    ∃ t, exec (.selfTestComplete p false) s = .next t ∧ (t.pav p).state = 5 ∧ (t.pav p).busy = none ∧
      t.nat 0x2000 9 = (s.nat 0x2000 9 + 1) % 4294967296 ∧ bit (t.nat 0x1002 3) 2 = true ∧ t.mode = .safe) ∧
  (∀ (s : State) (p q : Nat), p < 64 → (s.pav p).state = 2 → s.spareOf (p / 16) = some q → q ≠ p →
    ∃ t, exec (.selfTestComplete p false) s = .next t ∧ (t.pav p).state = 5 ∧ (t.pav p).busy = none ∧
      t.nat 0x2000 9 = (s.nat 0x2000 9 + 1) % 4294967296 ∧ t.mode = s.mode ∧ (t.pav q).state = 4 ∧
      (t.pav q).standsFor = some p ∧ (t.pav q).began = s.now) ∧
  (∀ (s : State) (p : Nat), p < 64 → (s.pav p).state = 1 → s.windowOver (s.pav p) = true →
    exec (.probationEnd p) s = .next (s.setPav p { s.pav p with state := 0, faults := [] })) ∧
  (∀ (s : State) (e : Nat), e < 16 → (s.eu e).state = 1 → s.windowOver (s.eu e) = true →
    exec (.probationEnd (64 + e)) s = .next (s.setEu e { s.eu e with state := 0, faults := [] })) ∧
  (∀ (s : State) (p old : Nat) (ok : Bool), p < 64 → p ≠ old → (s.pav p).state = 4 → (s.pav p).standsFor = some old →
    s.bb.queue.length < 63 →
    ∃ t e, exec (.spareReady p ok) s = .next t ∧ (t.pav p).state = 0 ∧ (t.pav p).berths = (s.pav old).berths ∧
      (t.pav old).berths = [] ∧ t.nat 0x2000 0x0A = (s.nat 0x2000 0x0A + 1) % 4294967296 ∧ e ∈ t.bb.queue ∧ e.code = 3 ∧
      e.unit = p ∧ e.v = [old, s.now - (s.pav p).began] ∧
      (∀ (k : Nat) (x : Stall), t.stall k = some x → x.kind = 1 → x.state ≤ 3 → x.berth ≠ old))

/-! Departure, delivery rings, and decoding (R10, R231, R233, R273, R293–R320, R370–R375) -/

/-- Departures and rings complete: at its instant and in its turn the next departure row leaves, coded or by the output
policy, and the row after it is next, with how late it left on record (R10, R231, R233); a departure unit's last bit frees
its stall and releases the flow's next unit (R262, R273); a unit owed to a delivery ring is at its instant written into the
descriptors handed over, or, where they do not hold it, discarded with the rest of its access unit (R373, R374); an access
unit is consumed from an input ring and its descriptors are marked DONE (R375).
Where the spec leaves a choice it follows log entries 71, 72, 93, 110 and 113. -/
def Obligations.DeparturesAndRingsComplete : Prop :=
  (∀ (s : State) (n row : Nat) (u : Nat × Nat) (g : Cfg), n < 128 → s.nextRowTime n = some u → g = s.cfgAt n (s.ch n).depE →
    row = (s.ch n).depRow → u.1 ≤ s.now → s.now ≤ u.2 → s.rowTurn n u.1 = true →
    ∃ t, exec (.departureRow n row) s = .next t ∧
      ((t.ch n).depE, (t.ch n).depRow) = (if g.drows ≤ row + 1 then ((s.ch n).depE + 1, 0) else ((s.ch n).depE, row + 1)) ∧
      ((s.ch n).byPolicy = false → s.spanGroupAt n (s.ch n).depE = [] → tget s.cluster.spans n = none →
        t.num (chI n 0x68) 0x12 = max (s.num (chI n 0x68) 0x12) ((s.now : Int) - u.1))) ∧
  (∀ (s : State) (i : Nat) (x : Stall), i < 49152 → s.stall i = some x → x.kind = 5 → x.state = 4 → x.depart ≤ s.now →
    ∃ t, exec (.departureUnitRelease i) s = .next t ∧ t.stall i = none ∧ t.chan = s.chan ∧ t.od = s.od) ∧
  (∀ (s : State) (i k : Nat) (x y : Stall), i < 49152 → s.stall i = some x → x.kind = 5 → x.state = 4 → x.depart ≤ s.now → k ≠ i →
    tabWf s.mews.stalls = true → s.stall k = some y → y.kind = 5 → y.flow = x.flow → y.chan = x.chan →
    (∀ j z, s.stall j = some z → j ≠ i → z.kind = 5 → z.flow = x.flow → z.chan = x.chan → j = k) →
    ∃ t, exec (.departureUnitRelease i) s = .next t ∧ t.stall i = none ∧
      t.stall k = some { y with opmask := setBit y.opmask 1, state := if bit y.opmask 0 then 4 else y.state } ∧
      t.chan = s.chan ∧ t.od = s.od) ∧
  (∀ (s : State) (r f : Nat) (u : RingUnit) (rest : List RingUnit) (descs l : List Descr) (x : Ring), r < 16 → s.rg r = x →
    x.en = true → s.ringFlow r = some f → (s.fl f).owed = u :: rest → u.due ≤ s.now → (s.fl f).dropping ≠ u.au + 1 →
    fillDescs u.bytes u.mts (stamp32 s.now) u.flags u.epochLo x.loss true (descs.take x.free) = some l →
    ∃ t, exec (.ringDelivery r u.bytes u.epochLo u.mts u.flags descs) s = .next t ∧
      (t.rg r).done = l ∧ (t.fl f).owed = rest ∧
      (t.rg r).head = (x.head + l.length) % max 1 x.size ∧ (t.rg r).tail = x.tail ∧ (t.rg r).loss = false ∧
      (t.rg r).overflow = x.overflow ∧ (∀ k, k ≠ r → t.rg k = s.rg k)) ∧
  (∀ (s : State) (r f : Nat) (u : RingUnit) (rest : List RingUnit) (descs : List Descr) (x : Ring), r < 16 → s.rg r = x →
    x.en = true → s.ringFlow r = some f → (s.fl f).owed = u :: rest → u.due ≤ s.now → (s.fl f).dropping ≠ u.au + 1 →
    fillDescs u.bytes u.mts (stamp32 s.now) u.flags u.epochLo x.loss true (descs.take x.free) = none →
    ∃ t, exec (.ringDelivery r u.bytes u.epochLo u.mts u.flags descs) s = .next t ∧
      (t.rg r).overflow = true ∧ (t.rg r).loss = true ∧
      (t.rg r).tail = x.tail ∧ (t.fl f).dropping = u.au + 1 ∧ (t.fl f).owed = rest ∧
      t.nat (flI f 3) 7 = (s.nat (flI f 3) 7 + 1) % 4294967296) ∧
  (∀ (s : State) (r f : Nat) (u : RingUnit) (rest : List RingUnit) (descs : List Descr) (x : Ring), r < 16 → s.rg r = x →
    s.ringFlow r = some f → (s.fl f).owed = u :: rest → u.due ≤ s.now → (s.fl f).dropping = u.au + 1 →
    ∃ t, exec (.ringDelivery r u.bytes u.epochLo u.mts u.flags descs) s = .next t ∧
      t.rg r = { x with overflow := true, loss := true } ∧ (t.fl f).owed = rest ∧
      t.nat (flI f 3) 7 = (s.nat (flI f 3) 7 + 1) % 4294967296) ∧
  (∀ (s : State) (r : Nat) (descs run : List Descr) (x : Ring), 16 ≤ r → r < 32 → s.rg r = x → x.en = true →
    run = nextRun (descs.take x.free) → run ≠ [] → bit (run.headD default).flags 0 = true →
    bit (run.getLastD default).flags 1 = true → bit (run.getLastD default).flags 2 = false →
    (∀ d ∈ run, descOk d = true ∧ d.len ≤ d.buflen) →
    ∃ t, exec (.inputRingConsume r descs) s = .next t ∧
      (t.rg r).done = run.map (fun d => { d with flags := setBit d.flags 15 }) ∧
      (t.rg r).head = (x.head + run.length) % max 1 x.size ∧ (t.rg r).descErr = x.descErr ∧ t.od = s.od)

/-- Decoding completes: the first packet of a stream that its input path takes joins the stream and the next sequence number
is expected (R301, R302); a packet given up is counted and its successor taken (R302); a random-access point of the channel's
picture size starts decoding and is decoded (R303–R306); a JPEG XS picture that has been decoded frees its stall and its
Pavilion (R262, R318); a row that has left is compared with its check value, a difference is counted and recorded, and the
next row is checked next (R297, R299). Where the spec leaves a choice it follows log entries 77 and 111. -/
def Obligations.DecodingCompletes : Prop :=
  (∀ (s : State) (n path payload seq : Nat) (p : Datagram) (data : List Byte), n < 128 → path < 2 → seq < 65536 →
    (s.ch n).running = true → (s.ch n).starting = none → s.source n ≤ 4 → s.nat (chI n 0x70) 4 = 0 →
    s.pathTakes n path p payload = true → (s.dc n).next = none →
    ∃ t, exec (.inputPacketReceived n path ⟨p, payload, seq⟩ data) s = .next t ∧
      (t.dc n).stream = (s.dc n).stream ++ data ∧
      (t.dc n).next = some ((seq + 1) % 65536) ∧ t.chan = s.chan ∧ (∀ m, m ≠ n → t.dc m = s.dc m)) ∧
  (∀ (s : State) (n seq at_ : Nat) (data : List Byte), n < 128 → seq < 65535 → (s.ch n).starting = none → (s.dc n).next = some seq →
    (s.dc n).ahead = [(seq + 1, (at_, data))] → s.flag (chI n 0x72) 1 = false → at_ ≤ s.now →
    ∃ t, exec (.inputPacketLost n seq) s = .next t ∧ (t.dc n).next = some ((seq + 2) % 65536) ∧
      (t.dc n).stream = (s.dc n).stream ++ data ∧ (t.dc n).ahead = [] ∧
      t.nat (chI n 0x78) 0x0A = (s.nat (chI n 0x78) 0x0A + 1) % 4294967296) ∧
  (∀ (s : State) (n : Nat) (au : AccessUnit), n < 128 → (s.ch n).running = true → (s.ch n).starting = none → s.source n ≤ 3 →
    (s.dc n).started = false → au.rap ≠ 0 → au.rasl = false → au.level ≤ s.nat (chI n 0x70) 3 → au.w = (s.cfg n).w →
    au.h = (s.cfg n).h → au.fmt = (s.cfg n).fmt → au.concealed = [] →
    ∃ t, exec (.accessUnitDecoded n au) s = .next t ∧ (t.dc n).started = true ∧ (t.dc n).ts0 = au.ts ∧
      (t.dc n).latest = au.planes ∧ (t.dc n).stream = [] ∧ t.nat (chI n 0x78) 1 = 2 ∧
      t.nat (chI n 0x78) 3 = (s.nat (chI n 0x78) 3 + 1) % 4294967296) ∧
  (∀ (s : State) (i : Nat) (x : Stall), i < 49152 → s.stall i = some x → x.kind = 6 → x.state = 4 →
    ∃ t, exec (.decodeAssistComplete i) s = .next t ∧ t.stall i = none ∧ (t.pav x.pav).busy = none ∧
      tget (t.dc x.chan).assist i = none) ∧
  (∀ (s : State) (n row e d : Nat) (l : List Nat) (ok : Bool), n < 128 → s.toCheck n = e :: l →
    row = (if e = (s.dc n).confEpoch then (s.dc n).confRow else 0) → row + 1 < (s.cfgAt n e).drows →
    e < (s.ch n).depE ∨ (e = (s.ch n).depE ∧ row < (s.ch n).depRow) → d ≠ s.rowCheck n e row → s.bb.queue.length < 64 →
    ∃ t q, exec (.confidenceRowResult n e row d ok) s = .next t ∧ (t.dc n).confEpoch = e ∧ (t.dc n).confRow = row + 1 ∧
      (t.dc n).confBad = true ∧ t.nat (chI n 0x79) 2 = (s.nat (chI n 0x79) 2 + 1) % 4294967296 ∧
      t.bb.queue = s.bb.queue ++ [q] ∧ q.code = 0x20 ∧ q.chan = n ∧ q.v = [e, row] ∧ t.chan = s.chan) ∧
  (∀ (s : State) (n row e : Nat) (l : List Nat) (ok : Bool), n < 128 → s.toCheck n = e :: l →
    row = (if e = (s.dc n).confEpoch then (s.dc n).confRow else 0) → row + 1 < (s.cfgAt n e).drows →
    e < (s.ch n).depE ∨ (e = (s.ch n).depE ∧ row < (s.ch n).depRow) →
    ∃ t, exec (.confidenceRowResult n e row (s.rowCheck n e row) ok) s = .next t ∧ (t.dc n).confEpoch = e ∧
      (t.dc n).confRow = row + 1 ∧ (t.dc n).confBad = (row != 0 && (s.dc n).confBad) ∧ t.od = s.od ∧ t.chan = s.chan)

/-! The NET ports, PTP and the Timebase (R321–R349, R673) -/

/-- The NET ports complete: a link change is noted and reported (R349, R377); a port asks for the next hops that its flows
need, and a reply resolves one (R348); a request for the port's own address, an echo request to it and an IGMP query are
answered, each a frame received and a frame sent (R346). Where the spec leaves a choice it follows log entry 92. -/
def Obligations.NetPortsComplete : Prop :=
  (∀ (s : State) (k : Nat) (up : Bool), k < 4 → s.flag (0x1A00 + k) 10 ≠ up →
    ∃ t, exec (.netLinkChange k up) s = .next t ∧ t.flag (0x1A00 + k) 10 = up ∧ t.net = s.net ∧ t.chan = s.chan ∧
      t = (s.put (0x1A00 + k) 10 (b2n up)).netEvent (if up then 2 else 1) k 0xFFFF (s.flowsOnPort k).length) ∧
  (∀ (s : State) (k : Nat), k < 4 → s.linkUp k = true → s.hopsNeeded k ≠ [] →
    ∃ t, exec (.arpResolve k) s = .next t ∧ (t.port k).asked = s.hopsNeeded k ∧ (t.port k).askedAt = s.now ∧
      (t.port k).hops = (s.port k).hops ∧ t.nat (0x1A00 + k) 12 = (s.nat (0x1A00 + k) 12 + (s.hopsNeeded k).length) % 2 ^ 64 ∧
      (∀ j, j ≠ k → t.port j = s.port j)) ∧
  (∀ (s : State) (k : Nat) (a : ArpPacket), k < 4 → s.linkUp k = true → a.op = 2 → (s.port k).asked.contains a.senderIp = true →
    ∃ t, exec (.arpReceived k a) s = .next t ∧ tget (t.port k).hops a.senderIp = some a.senderMac ∧
      a.senderIp ∉ (t.port k).asked ∧ t.nat (0x1A00 + k) 13 = (s.nat (0x1A00 + k) 13 + 1) % 2 ^ 64 ∧
      (∀ j, j ≠ k → t.port j = s.port j)) ∧
  (∀ (s : State) (k : Nat) (a : ArpPacket), k < 4 → s.linkUp k = true → a.op = 1 → a.targetIp = portIp s.od k → a.targetIp ≠ 0 →
    ∃ t, exec (.arpReceived k a) s = .next t ∧ t.nat (0x1A00 + k) 13 = (s.nat (0x1A00 + k) 13 + 1) % 2 ^ 64 ∧
      t.nat (0x1A00 + k) 12 = (s.nat (0x1A00 + k) 12 + 1) % 2 ^ 64 ∧
      (t.port k).out = leBytes 2 2 ++ odBytes s.od (0x1A00 + k) 9 ++ leBytes 4 a.targetIp ++ leBytes 6 a.senderMac ++
        leBytes 4 a.senderIp ∧ (t.port k).hops = (s.port k).hops) ∧
  (∀ (s : State) (k g : Nat) (l : List Nat), k < 4 → s.linkUp k = true →
    l = (s.joined k).filter (fun x => g == 0 || g == x) → l ≠ [] →
    ∃ t, exec (.igmpQuery k g) s = .next t ∧ t.nat (0x1A00 + k) 13 = (s.nat (0x1A00 + k) 13 + 1) % 2 ^ 64 ∧
      t.nat (0x1A00 + k) 12 = (s.nat (0x1A00 + k) 12 + l.length) % 2 ^ 64 ∧ (t.port k).out = l.flatMap (leBytes 4) ∧
      (t.port k).hops = (s.port k).hops) ∧
  (∀ (s : State) (k : Nat) (e : EchoPacket), k < 4 → s.linkUp k = true → e.targetIp = portIp s.od k → e.targetIp ≠ 0 →
    ∃ t, exec (.icmpEcho k e) s = .next t ∧ t.nat (0x1A00 + k) 13 = (s.nat (0x1A00 + k) 13 + 1) % 2 ^ 64 ∧
      t.nat (0x1A00 + k) 12 = (s.nat (0x1A00 + k) 12 + 1) % 2 ^ 64 ∧
      (t.port k).out = leBytes 6 e.senderMac ++ leBytes 4 e.targetIp ++ leBytes 4 e.senderIp ++ leBytes 2 e.ident ++
        leBytes 2 e.seq ++ e.data ∧ (t.port k).hops = (s.port k).hops)

/-- PTP completes: the first Announce heard on a port makes its sender the port's master (R329); a one-step Sync of a port's
master is measured, and gives the offset where the port has the parent and PTP steers the Timebase (R331); a two-step one
waits for its Follow_Up, which measures it; the answer to the outstanding Delay_Req completes an exchange (R333); a master
port answers a Delay_Req and sends its Syncs and Announces at their intervals, a slave its Delay_Reqs, each counted as a
frame sent (R330–R332, R378); a port whose Announces have stopped for the receipt timeout has no master any more, and with no
other the Timebase that PTP steers has lost its reference (R333, R334).
Where the spec leaves a choice it follows log entry 80. -/
def Obligations.PtpComplete : Prop :=
  (∀ (s : State) (k : Nat) (m : AnnounceMsg), k < 4 → s.ptpOn k = true → m.domain = s.nat 0x1501 2 → s.cluster.role ≠ 2 →
    (s.pp k).master = none → (s.pp k).others = [] → s.fresh ⟨m, s.now, s.now⟩ = true →
    ∃ t, exec (.ptpAnnounce k m) s = .next t ∧ (t.pp k).master = some ⟨m, s.now, s.now⟩ ∧
      (∀ j, j ≠ k → (s.pp j).others = [] → (∀ x, (s.pp j).master = some x → s.fresh x = true) →
        (t.pp j).master = (s.pp j).master)) ∧
  (∀ (s : State) (k : Nat) (m : SyncMsg) (x : PtpMaster), k < 4 → s.ptpOn k = true → m.domain = s.nat 0x1501 2 →
    (s.pp k).master = some x → x.ann.source = m.source → m.follow = false → m.twoStep = false → s.ptp.parent ≠ some k →
    ∃ t, exec (.ptpSync k m) s = .next t ∧
      (t.pp k).sync = some (((m.ingress : Int) - s.latency k 1).toNat, m.origin) ∧ (t.pp k).pending = none ∧
      (t.pp k).master = some { x with syncAt := s.now } ∧ t.tb = s.tb) ∧
  (∀ (s : State) (k : Nat) (m : SyncMsg) (x : PtpMaster), k < 4 → s.ptpOn k = true → m.domain = s.nat 0x1501 2 →
    (s.pp k).master = some x → x.ann.source = m.source → m.follow = false → m.twoStep = false → s.ptp.parent = some k →
    s.ptpSteers = true →
    ∃ t, exec (.ptpSync k m) s = .next t ∧ t.num 0x1500 0x0A =
        (m.ingress : Int) - s.latency k 1 - m.origin - s.num 0x1500 0x0B - s.latency k 3 ∧
      (t.pp k).state = (if t.tbState = 2 then 9 else 8) ∧ t.tb.count = s.tb.count) ∧
  (∀ (s : State) (k : Nat) (m : SyncMsg) (x : PtpMaster), k < 4 → s.ptpOn k = true → m.domain = s.nat 0x1501 2 →
    (s.pp k).master = some x → x.ann.source = m.source → m.follow = false → m.twoStep = true →
    ∃ t, exec (.ptpSync k m) s = .next t ∧
      (t.pp k).pending = some (m.seq, ((m.ingress : Int) - s.latency k 1).toNat) ∧ (t.pp k).sync = (s.pp k).sync ∧ t.tb = s.tb) ∧
  (∀ (s : State) (k t2 : Nat) (m : SyncMsg) (x : PtpMaster), k < 4 → s.ptpOn k = true → m.domain = s.nat 0x1501 2 →
    (s.pp k).master = some x → x.ann.source = m.source → m.follow = true → (s.pp k).pending = some (m.seq, t2) →
    s.ptp.parent ≠ some k →
    ∃ t, exec (.ptpSync k m) s = .next t ∧ (t.pp k).sync = some (t2, m.origin) ∧ (t.pp k).pending = none ∧
      (t.pp k).master = some { x with syncAt := s.now } ∧ t.tb = s.tb) ∧
  (∀ (s : State) (k t1 t2 t3 : Nat) (m : DelayRespMsg) (x : PtpMaster), k < 4 → s.ptpOn k = true → m.domain = s.nat 0x1501 2 →
    s.ptp.parent = some k → (s.pp k).master = some x → x.ann.source = m.source → (s.pp k).delay = some (m.seq, t3) →
    (s.pp k).sync = some (t2, t1) →
    ∃ t, exec (.ptpDelayResp k m) s = .next t ∧ t.num 0x1500 0x0B = (((t2 : Int) - t1) + ((m.receive : Int) - t3)) / 2 ∧
      (t.pp k).delay = none ∧ t.tb.exchanges = (if s.tb.exchanges < 8 then s.tb.exchanges + 1 else s.tb.exchanges) ∧
      t.tb.count = s.tb.count ∧ t.tb.t0 = s.tb.t0) ∧
  (∀ (s : State) (k : Nat) (m : DelayReqMsg), k < 4 → s.ptpOn k = true → (s.pp k).state = 6 → m.domain = s.nat 0x1501 2 →
    ∃ t q, exec (.ptpDelayReq k m) s = .next t ∧ (t.pp k).out = some q ∧ q.kind = 2 ∧ q.port = k ∧ q.domain = m.domain ∧
      q.seq = m.seq ∧ q.target = m.source ∧ q.unicast = m.unicast ∧ q.stamp = ((m.ingress : Int) - s.latency k 1).toNat ∧
      t.nat (0x1A00 + k) 12 = (s.nat (0x1A00 + k) 12 + 1) % 2 ^ 64 ∧
      t.nat (0x1A00 + k) 13 = (s.nat (0x1A00 + k) 13 + 1) % 2 ^ 64 ∧ (t.pp k).state = 6 ∧ t.tb = s.tb) ∧
  (∀ (s : State) (k egress : Nat), k < 4 → s.ptpOn k = true → (s.pp k).state = 6 →
    (s.pp k).sentAt.1 + logNs (s.num 0x1501 7) ≤ s.now →
    ∃ t q, exec (.ptpMessageSend k 0 egress) s = .next t ∧ (t.pp k).out = some q ∧ q.kind = 0 ∧ q.port = k ∧
      q.seq = (s.pp k).seq.1 ∧ q.stamp = ((egress : Int) + s.latency k 2).toNat ∧
      t.nat (0x1A00 + k) 12 = (s.nat (0x1A00 + k) 12 + 1) % 2 ^ 64 ∧
      (t.pp k).seq.1 = ((s.pp k).seq.1 + 1) % 65536 ∧ (t.pp k).sentAt.1 = s.now ∧ t.tb = s.tb) ∧
  (∀ (s : State) (k egress : Nat), k < 4 → s.ptpOn k = true → (s.pp k).state = 6 →
    (s.pp k).sentAt.2.1 + logNs (s.num 0x1501 8) ≤ s.now →
    ∃ t q, exec (.ptpMessageSend k 3 egress) s = .next t ∧ (t.pp k).out = some q ∧ q.kind = 3 ∧ q.port = k ∧
      q.seq = (s.pp k).seq.2.1 ∧ q.ann = some s.announced ∧
      t.nat (0x1A00 + k) 12 = (s.nat (0x1A00 + k) 12 + 1) % 2 ^ 64 ∧
      (t.pp k).seq.2.1 = ((s.pp k).seq.2.1 + 1) % 65536 ∧ (t.pp k).sentAt.2.1 = s.now ∧ t.tb = s.tb) ∧
  (∀ (s : State) (k egress : Nat), k < 4 → s.ptpOn k = true → (s.pp k).state = 9 →
    (s.pp k).sentAt.2.2 + logNs (s.num 0x1501 9) ≤ s.now →
    ∃ t q, exec (.ptpMessageSend k 1 egress) s = .next t ∧ (t.pp k).out = some q ∧ q.kind = 1 ∧ q.port = k ∧
      q.seq = (s.pp k).seq.2.2 ∧ q.stamp = ((egress : Int) + s.latency k 2).toNat ∧
      t.nat (0x1A00 + k) 12 = (s.nat (0x1A00 + k) 12 + 1) % 2 ^ 64 ∧ (t.pp k).delay = some ((s.pp k).seq.2.2, ((egress : Int) + s.latency k 2).toNat) ∧
      (t.pp k).seq.2.2 = ((s.pp k).seq.2.2 + 1) % 65536 ∧ (t.pp k).sentAt.2.2 = s.now ∧ t.tb = s.tb) ∧
  (∀ (s : State) (k : Nat) (x : PtpMaster), s.ptp.parent = some k → (s.pp k).master = some x → (s.pp k).others = [] →
    x.annAt + s.nat 0x1501 0x0A * logNs x.ann.interval ≤ s.now →
    ∃ t, exec .ptpParentLost s = .next t ∧ (t.pp k).master = none ∧ t.ptp.parent ≠ some k ∧
      (∀ j, j ≠ k → (s.pp j).others = [] → (∀ y, (s.pp j).master = some y → s.fresh y = true) →
        (t.pp j).master = (s.pp j).master) ∧
      ((∀ j, j ≠ k → (s.pp j).master = none ∧ (s.pp j).others = []) → s.ptpSteers = true →
        t.ptp.parent = none ∧ t.tbState = (if s.tb.wasLocked then 3 else 0)))

/-- The Timebase's events complete: a slew that has less than 100 ns to remove ends (R326); HOLDOVER past its limit announces
clockClass 52 (R335); a PPS_IN edge with a named second is measured against it and takes the name (R325, R333); a wanted edge
of a capture input enters its FIFO, and is dropped and counted where the FIFO is full (R340, R342).
Where the spec leaves a choice it follows log entries 14 and 79. -/
def Obligations.TimebaseEventsComplete : Prop :=
  (∀ (s : State) (o : Int), s.tb.slew = some o → (s.slewLeft o).natAbs < 100 →
    ∃ t, exec .slewComplete s = .next t ∧ t.tb.slew = none ∧ t.tb.good = 0 ∧ t.tb.count = s.tb.count ∧ t.now = s.now ∧
      t.num 0x1500 4 = clampInt (-70368744178) 70368744178 (adjOf s.freqTerm)) ∧
  (∀ s : State, s.tbState = 3 → s.tb.holdoverAt + s.nat 0x1500 0x0C * 1000000000 ≤ s.now → s.tb.overLimit = false →
    s.tb.everLocked = true →
    ∃ t, exec .holdoverLimitExpiry s = .next t ∧ t.tb = { s.tb with overLimit := true } ∧ t.nat 0x1502 4 % 256 = 52 ∧
      t.tbState = 3) ∧
  (∀ (s : State) (edge sec : Nat), s.nat 0x1500 6 = 1 → s.clk.bypass = false → s.cluster.role ≠ 2 → s.tb.ppsSeconds = some sec →
    ∃ t, exec (.ppsInEdge edge) s = .next t ∧ t.tb.ppsSeconds = none ∧
      t.num 0x1500 0x0A = (edge : Int) - sec * 1000000000 ∧ t.tb.count = s.tb.count ∧ t.chan = s.chan) ∧
  (∀ (s : State) (k time : Nat) (falling : Bool), k < 8 → bit (s.nat 0x1510 (k + 1)) 15 = true →
    s.nat 0x1510 (k + 1) / 8192 % 4 = 2 → (tgetD s.cap k {}).edge = none → (tgetD s.cap k {}).fifo.length < 64 →
    ∃ t x, exec (.captureEdge k falling time) s = .next t ∧ tget t.cap k = some x ∧ x.edge = some time ∧ x.lost = false ∧
      x.seq = ((tgetD s.cap k {}).seq + 1) % 65536 ∧
      x.fifo = (tgetD s.cap k {}).fifo ++
        [(stamp32 time, x.seq, b2n falling + (if (tgetD s.cap k {}).lost then 2 else 0))] ∧ t.od = s.od) ∧
  (∀ (s : State) (k time : Nat) (falling : Bool), k < 8 → bit (s.nat 0x1510 (k + 1)) 15 = true →
    s.nat 0x1510 (k + 1) / 8192 % 4 = 2 → (tgetD s.cap k {}).edge = none → 64 ≤ (tgetD s.cap k {}).fifo.length →
    ∃ t x, exec (.captureEdge k falling time) s = .next t ∧ tget t.cap k = some x ∧ x.lost = true ∧
      x.fifo = (tgetD s.cap k {}).fifo ∧ t.nat 0x1508 5 = (s.nat 0x1508 5 + 1) % 4294967296)

/-! Bandstand audio (R366, R367, R381–R401) -/

/-- The audio ports complete, with no group armed by a waiting set: a good frame of a LOCKED port takes its index and any
other frame is counted (R385); a frame of a FOLLOW port enters its FIFO, or, at a full FIFO, is an underrun (R386, R393); a
master port captures at Cn (R384); a due sample is read into the fade line, whose oldest sample leaves into the stream, and a
missing one repeats the last sample or, as the third, is an underrun (R388, R393, R394); silence ends after 64 good frames,
or once a FIFO is centred (R394), and its ramp when the last sample of it has left (R394, R403); a FOLLOW loop's steering
stays within ±1,000 ppm (R386); an output port sends the stream's samples of its frame, and zeros outside the window (R396).
Where the spec leaves a choice it follows log entries 81, 82 and 114. -/
def Obligations.AudioPortsComplete : Prop :=
  (∀ (s : State) (k g n time : Nat) (l : List Int), k < 16 → s.armedAudio = [] → s.portStart k = some g → apOut s.od k = false →
    apMode s.od k = 1 → s.capturing = true → s.frameIndex k g time = some n → (s.ap k).read ≤ n → tget (s.ap k).frames n = none →
    ∃ t, exec (.audioFrameReceived k l true time) s = .next t ∧ tget (t.ap k).frames n = some (frameOf s.od k l) ∧
      (t.ap k).frame = n + 1 ∧ (t.ap k).good = (if (s.ap k).silent = true then (s.ap k).good + 1 else 0) ∧
      (t.ap k).edges = (time :: (s.ap k).edges).take 64 ∧ (t.ap k).read = (s.ap k).read ∧ t.od = s.od ∧
      (∀ j, j ≠ k → t.ap j = s.ap j)) ∧
  (∀ (s : State) (k g time : Nat) (l : List Int) (good : Bool), k < 16 → s.armedAudio = [] → s.portStart k = some g →
    apOut s.od k = false → apMode s.od k = 1 → s.capturing = true →
    (good = false ∨ s.frameIndex k g time = none ∨
      ∃ n, s.frameIndex k g time = some n ∧ (n < (s.ap k).read ∨ ∃ v, tget (s.ap k).frames n = some v)) →
    ∃ t, exec (.audioFrameReceived k l good time) s = .next t ∧ (t.ap k).frames = (s.ap k).frames ∧ (t.ap k).good = 0 ∧
      (t.ap k).edges = (time :: (s.ap k).edges).take 64 ∧
      t.nat (0x1B10 + k) 5 = (s.nat (0x1B10 + k) 5 + 1) % 4294967296) ∧
  (∀ (s : State) (k g time : Nat) (l : List Int), k < 16 → s.armedAudio = [] → s.portStart k = some g → apOut s.od k = false →
    apMode s.od k = 2 → s.capturing = true → (Frac.ofInt time).lt ((Frac.ofInt g).sub (apDelay s.od k)) = false →
    (s.ap k).fifo.length < 32 →
    ∃ t, exec (.audioFrameReceived k l true time) s = .next t ∧ (t.ap k).fifo = (s.ap k).fifo ++ [frameOf s.od k l] ∧
      t.nat (0x1B10 + k) 3 = (s.ap k).fifo.length + 1 ∧
      (t.ap k).centring = ((s.ap k).centring && decide ((s.ap k).fifo.length + 1 < 16)) ∧ (∀ j, j ≠ k → t.ap j = s.ap j)) ∧
  (∀ (s : State) (k g time : Nat) (l : List Int), k < 16 → s.armedAudio = [] → s.portStart k = some g → apOut s.od k = false →
    apMode s.od k = 2 → s.capturing = true → (Frac.ofInt time).lt ((Frac.ofInt g).sub (apDelay s.od k)) = false →
    32 ≤ (s.ap k).fifo.length →
    ∃ t, exec (.audioFrameReceived k l true time) s = .next t ∧ (t.ap k).fifo = (s.ap k).fifo ∧ (t.ap k).silent = true ∧
      (t.ap k).line = fadeLine (s.ap k).line (fadeLen (apFs s.od k)) 0 ∧
      t.nat (0x1B10 + k) 8 = (s.nat (0x1B10 + k) 8 + 1) % 4294967296) ∧
  (∀ (s : State) (k g : Nat) (l : List Int), k < 16 → s.armedAudio = [] → s.portStart k = some g → apOut s.od k = false →
    apMode s.od k = 0 → s.capturing = true → (Frac.ofInt s.now).lt (s.frameAt k g (s.ap k).frame) = false →
    ∃ t, exec (.audioMasterFrame k l) s = .next t ∧ tget (t.ap k).frames (s.ap k).frame = some (frameOf s.od k l) ∧
      (t.ap k).frame = (s.ap k).frame + 1 ∧ t.od = s.od ∧ (∀ j, j ≠ k → t.ap j = s.ap j)) ∧
  (∀ (s : State) (k g : Nat) (v : List Int) (y : FadeSample) (rest : List FadeSample), k < 16 → s.armedAudio = [] →
    s.portStart k = some g → apOut s.od k = false → apMode s.od k ≠ 2 → s.readDue k g (s.ap k).read = true → s.capturing = true →
    (s.ap k).muted = false → (s.ap k).silent = false → (s.ap k).ramp = none → tget (s.ap k).frames (s.ap k).read = some v →
    (s.ap k).line = y :: rest → rest.length = fadeLen (apFs s.od k) + 3 →
    ∃ t, exec (.audioSampleRead k) s = .next t ∧ (t.ap k).read = (s.ap k).read + 1 ∧ (t.ap k).last = v ∧
      (t.ap k).missing = 0 ∧ (t.ap k).line = rest ++ [⟨v, 32768, 1⟩] ∧
      tget (t.ap k).stream ((s.ap k).read - (fadeLen (apFs s.od k) + 4)) = some (y.frame.map (gained y.gain)) ∧
      t.nat (0x1B10 + k) 9 = (s.ap k).read ∧ t.nat (0x1B10 + k) 1 = y.kind ∧ (∀ j, j ≠ k → t.ap j = s.ap j)) ∧
  (∀ (s : State) (k g : Nat), k < 16 → s.armedAudio = [] → s.portStart k = some g → apOut s.od k = false →
    apMode s.od k ≠ 2 → s.readDue k g (s.ap k).read = true → s.capturing = true → (s.ap k).muted = false →
    (s.ap k).silent = false → tget (s.ap k).frames (s.ap k).read = none →
    ∃ t, exec (.audioSampleRead k) s = .next t ∧ (t.ap k).read = (s.ap k).read + 1 ∧ (t.ap k).last = (s.ap k).last ∧
      (t.ap k).missing = (s.ap k).missing + 1 ∧ (t.ap k).silent = decide (2 ≤ (s.ap k).missing) ∧
      ((s.ap k).missing ≤ 1 → t.nat (0x1B10 + k) 6 = (s.nat (0x1B10 + k) 6 + 1) % 4294967296) ∧
      (2 ≤ (s.ap k).missing → t.nat (0x1B10 + k) 8 = (s.nat (0x1B10 + k) 8 + 1) % 4294967296)) ∧
  (∀ (s : State) (k g : Nat) (v : List Int) (rest : List (List Int)), k < 16 → s.armedAudio = [] → s.portStart k = some g →
    apOut s.od k = false → apMode s.od k = 2 → s.readDue k g (s.ap k).read = true → s.capturing = true → (s.ap k).muted = false →
    (s.ap k).centring = false → (s.ap k).fifo = v :: rest →
    ∃ t, exec (.audioSampleRead k) s = .next t ∧ (t.ap k).read = (s.ap k).read + 1 ∧ (t.ap k).last = v ∧ (t.ap k).fifo = rest ∧
      t.nat (0x1B10 + k) 3 = rest.length) ∧
  (∀ (s : State) (k : Nat), k < 16 → apMode s.od k = 1 → (s.ap k).silent = true → 64 ≤ (s.ap k).good →
    exec (.audioSilenceEnd k) s = .next ((s.setAp k ((s.ap k).rampFrom (max (s.ap k).read (s.ap k).frame))).audioEvent 2 k
      (max (s.ap k).read (s.ap k).frame))) ∧
  (∀ (s : State) (k : Nat), k < 16 → apMode s.od k = 2 → (s.ap k).silent = true → 16 ≤ (s.ap k).fifo.length →
    exec (.audioSilenceEnd k) s = .next ((s.setAp k { (s.ap k).rampFrom (s.ap k).read with
      fifo := (s.ap k).fifo.drop ((s.ap k).fifo.length - 16), centring := false }).audioEvent 2 k (s.ap k).read)) ∧
  (∀ (s : State) (k r : Nat), k < 16 → (s.ap k).ramp = some r → (s.ap k).ramped = true →
    exec (.audioRampComplete k) s = .next ((s.setAp k { s.ap k with ramp := none, ramped := false }).audioEvent 3 k
      (r + fadeLen (apFs s.od k) - 1))) ∧
  (∀ (s : State) (k g : Nat), k < 16 → s.armedAudio = [] → s.portStart k = some g → apMode s.od k = 2 →
    ∃ (ppb : Int) (t : State), -1000000 ≤ ppb ∧ ppb ≤ 1000000 ∧ t = s.draw.2.put (0x1B10 + k) 4 ppb ∧
      exec (.followLoopUpdate k) s =
        .next (if ppb = 1000000 ∨ ppb = -1000000 then t.audioEvent 6 k (s.ap k).read else t)) ∧
  (∀ (s : State) (k g edge : Nat), k < 16 → s.armedAudio = [] → s.testPort ≠ some k → s.mode.audio = 2 → s.portStart k = some g →
    apOut s.od k = true → apMode s.od k = 0 → (Frac.ofInt s.now).lt (s.frameAt k g (s.ap k).frame) = false →
    ∃ t, exec (.audioOutputFrame k edge) s = .next t ∧ (t.ap k).sent = s.outFrame k (s.ap k).frame ∧
      (t.ap k).frame = (s.ap k).frame + 1 ∧ t.nat (0x1B10 + k) 9 = (s.ap k).frame ∧ (∀ j, j ≠ k → t.ap j = s.ap j)) ∧
  (∀ (s : State) (k g edge n : Nat), k < 16 → s.armedAudio = [] → s.testPort ≠ some k → s.mode.audio = 2 → s.portStart k = some g →
    apOut s.od k = true → apMode s.od k = 1 → s.frameIndex k g edge = some n →
    ∃ t, exec (.audioOutputFrame k edge) s = .next t ∧ (t.ap k).sent = s.outFrame k n ∧
      (t.ap k).frame = n + 1 ∧ t.nat (0x1B10 + k) 9 = n ∧ (∀ j, j ≠ k → t.ap j = s.ap j)) ∧
  (∀ (s : State) (k g edge : Nat), k < 16 → s.armedAudio = [] → s.testPort ≠ some k → s.mode.audio = 2 → s.portStart k = some g →
    apOut s.od k = true → apMode s.od k = 1 → s.frameIndex k g edge = none →
    ∃ t, exec (.audioOutputFrame k edge) s = .next t ∧ (t.ap k).sent = (List.range (apSlots s.od k)).map (fun _ => 0) ∧
      (t.ap k).frame = (s.ap k).frame ∧ t.nat (0x1B10 + k) 5 = (s.nat (0x1B10 + k) 5 + 1) % 4294967296)

/-- The audio outputs complete: an access unit of an SMPTE ST 302M output, of the size its samples give, and one of a coded output,
within its size and the size of the last 8, is complete at its nominal end, counted and ready for the multiplexer (R397–R399); in
SERVICE the next packet of an SMPTE ST 2110-30 flow leaves two packet times after its samples, with its timestamp (R366, R367).
Where the spec leaves a choice it follows log entry 106. -/
def Obligations.AudioOutputsComplete : Prop :=
  (∀ (s : State) (o g : Nat) (data : List Byte), o < 32 →
    tget s.audio.start (apGroup s.od (s.nat (0x1B40 + o) 2)) = some g → s.flag (0x1B40 + o) 1 = true → s.nat (0x1B40 + o) 4 ≠ 0 →
    (s.ao o).ending = none → (Frac.ofInt s.now).lt (aoEnd s.od o g (s.ao o).next) = false →
    (s.nat (0x1B40 + o) 5 = 0 →
      data.length = (codecAu 0).1 * aoRate s.od o / (8 * max 1 (apFs s.od (s.nat (0x1B40 + o) 2))) + 4) →
    (s.nat (0x1B40 + o) 5 ≠ 0 → 8 * data.length ≤ aoMax s.od o ∧
      8 * data.length + ((s.ao o).recent.take 7).sum ≤ aoEight s.od o) →
    ∃ t, exec (.audioAccessUnitCoded o data) s = .next t ∧ (t.ao o).next = (s.ao o).next + 1 ∧
      (t.ao o).recent = (8 * data.length :: (s.ao o).recent).take 8 ∧
      ((aoEnd s.od o g (s.ao o).next).floor.toNat, data.length, (s.ao o).next) ∈ (t.ao o).ready ∧
      t.nat (0x1B40 + o) 0x0C = (s.nat (0x1B40 + o) 0x0C + 1) % 4294967296 ∧ (∀ j, j ≠ o → t.ao j = s.ao j)) ∧
  (∀ (s : State) (f o port g fs np : Nat), f < 1024 → s.mode = .encode → s.pair.state = 0 → s.flag (flI f 0) 1 = true →
    s.nat (flI f 0) 4 = 3 → s.nat (flI f 0) 3 = 0x20 + o → s.flag (0x1B40 + o) 1 = true → port = s.nat (0x1B40 + o) 2 →
    tget s.audio.start (apGroup s.od port) = some g → fs = apFs s.od port → np = packetSamples fs (s.nat (flI f 1) 5) → np ≠ 0 →
    (s.fl f).running = true → (s.fl f).audioFrom = g →
    (Frac.ofInt s.now).lt ((Frac.ofInt g).add (samples ((s.fl f).audioSent + 2 * np) fs)) = false →
    ∃ t, exec (.st211030Packet f) s = .next t ∧ (t.fl f).audioSent = (s.fl f).audioSent + np ∧
      (t.fl f).generated = (s.fl f).generated + 1 ∧
      (t.fl f).lastTs = ((Frac.mk' (g * fs) 1000000000).floor.toNat + (s.fl f).audioSent) % 4294967296 ∧
      (∀ j, j ≠ f → t.fl j = s.fl j)) ∧
  (∀ (s : State) (f o port g fs np : Nat), f < 1024 → s.mode = .service → s.flag (flI f 0) 1 = true →
    s.nat (flI f 0) 4 = 3 → s.nat (flI f 0) 3 = 0x20 + o → s.flag (0x1B40 + o) 1 = true → port = s.nat (0x1B40 + o) 2 →
    tget s.audio.start (apGroup s.od port) = some g → fs = apFs s.od port → np = packetSamples fs (s.nat (flI f 1) 5) → np ≠ 0 →
    (s.fl f).running = true → (s.fl f).audioFrom = g →
    (Frac.ofInt s.now).lt ((Frac.ofInt g).add (samples ((s.fl f).audioSent + 2 * np) fs)) = false →
    exec (.st211030Packet f) s = .next (s.setFl f { s.fl f with
      audioSent := (s.fl f).audioSent + np
      lastTs := ((Frac.mk' (g * fs) 1000000000).floor.toNat + (s.fl f).audioSent) % 4294967296 }))

/-! Carriageway (R427–R437, R443–R445) -/

/-- Carriageway completes on a port that is up: the next frame in order, for this device and within its credit, is accepted
and acknowledged with fresh credit, a duplicate is acknowledged again, and a bad frame opens a gap with a NAK (R429–R431); an
ACK empties the replay buffer up to its frame, a CREDIT word grants its units (R429, R431); a NAK, and 400 ns without an ACK,
send the frames that stay outstanding again (R433); with its retries spent the port trains in full (R433, R434); a trained
port that has its first credits is up and sends LINKID (R437), and the pair link with its port (R472); LINKID names the far
side: a worker that is not admitted sends JOIN to a manager it has found, and the manager notes the link (R444, R446, R447).
Where the spec leaves a choice it follows log entry 84. -/
def Obligations.CarriagewayCompletes : Prop :=
  (∀ (s : State) (p : Nat) (f : CwFrame), p < 4 → s.cwUp p = true → f.aborted = false → frameGood f = true →
    f.seq % 4096 = (s.cwAt p).expect → f.vc < 4 → frameUnits f ≤ tgetD (s.cwAt p).allot f.vc 0 → f.dst = s.node → f.dom = false →
    ∃ t, exec (.cwFrameReceived p f) s = .next t ∧ (t.cwAt p).expect = ((s.cwAt p).expect + 1) % 4096 ∧ (t.cwAt p).gap = false ∧
      tget (t.cwAt p).received f.vc = some (tgetD (s.cwAt p).received f.vc 0 + frameUnits f) ∧
      (1, (s.cwAt p).expect, 0) ∈ (t.cwAt p).words ∧
      (3, f.vc, (tgetD (s.cwAt p).allot f.vc 0 + (tgetD (s.cwAt p).received f.vc 0 + frameUnits f)) % 65536) ∈ (t.cwAt p).words ∧
      t.od = s.od ∧ (∀ q, q ≠ p → t.cwAt q = s.cwAt q)) ∧
  (∀ (s : State) (p : Nat) (f : CwFrame), p < 4 → s.cwUp p = true → f.aborted = false → frameGood f = true →
    f.seq % 4096 ≠ (s.cwAt p).expect → ((s.cwAt p).expect + 4096 - f.seq % 4096) % 4096 ≤ 64 →
    ∃ t, exec (.cwFrameReceived p f) s = .next t ∧ (t.cwAt p).expect = (s.cwAt p).expect ∧
      (t.cwAt p).received = (s.cwAt p).received ∧ (1, ((s.cwAt p).expect + 4095) % 4096, 0) ∈ (t.cwAt p).words ∧
      t.nat (0x1950 + p) 6 = (s.nat (0x1950 + p) 6 + 1) % 4294967296) ∧
  (∀ (s : State) (p : Nat) (f : CwFrame), p < 4 → s.cwUp p = true → f.aborted = false → frameGood f = false → f.violated = none →
    (s.cwAt p).gap = false →
    ∃ t, exec (.cwFrameReceived p f) s = .next t ∧ (t.cwAt p).gap = true ∧ (t.cwAt p).expect = (s.cwAt p).expect ∧
      (2, ((s.cwAt p).expect + 4095) % 4096, 0) ∈ (t.cwAt p).words ∧
      t.nat (0x1950 + p) 3 = (s.nat (0x1950 + p) 3 + 1) % 4294967296 ∧
      t.nat (0x1950 + p) 4 = (s.nat (0x1950 + p) 4 + 1) % 4294967296) ∧
  (∀ (s : State) (p : Nat) (f : CwFrame) (a rest : List CwFrame), p < 4 → s.cwUp p = true → (s.cwAt p).replay = a ++ f :: rest →
    (∀ g ∈ a, g.seq ≠ f.seq) → (s.cwAt p).waiting = [] →
    ∃ t, exec (.cwAck p f.seq) s = .next t ∧ (t.cwAt p).replay = rest ∧ (t.cwAt p).envelope = none ∧ (t.cwAt p).retries = 0 ∧
      (t.cwAt p).ackAt = s.now ∧ t.od = s.od) ∧
  (∀ (s : State) (p seq : Nat), p < 4 → s.cwUp p = true → (s.cwAt p).replay ≠ [] → (∀ f ∈ (s.cwAt p).replay, f.seq ≠ seq) →
    (s.cwAt p).envelope = none →
    ∃ t, exec (.cwNak p seq) s = .next t ∧ (t.cwAt p).replay = (s.cwAt p).replay ∧ (t.cwAt p).envelope = some s.now ∧
      (t.cwAt p).retries = 1 ∧ t.nat (0x1950 + p) 5 = (s.nat (0x1950 + p) 5 + 1) % 4294967296) ∧
  (∀ (s : State) (p : Nat) (f : CwFrame) (a rest : List CwFrame), p < 4 → s.cwUp p = true → (s.cwAt p).replay = a ++ f :: rest →
    (∀ g ∈ a, g.seq ≠ f.seq) → rest ≠ [] →
    ∃ t, exec (.cwNak p f.seq) s = .next t ∧ (t.cwAt p).replay = rest ∧ (t.cwAt p).envelope = some s.now ∧
      (t.cwAt p).retries = 1 ∧ t.nat (0x1950 + p) 5 = (s.nat (0x1950 + p) 5 + 1) % 4294967296) ∧
  (∀ (s : State) (p vc total : Nat), p < 4 → vc < 4 → s.cwUp p = true → (s.cwAt p).waiting = [] →
    ∃ t n, exec (.cwCredit p vc total) s = .next t ∧ tget (t.cwAt p).advertised vc = some n ∧
      tgetD (s.cwAt p).advertised vc 0 ≤ n ∧ n < tgetD (s.cwAt p).advertised vc 0 + 65536 ∧ n % 65536 = total % 65536 ∧
      (t.cwAt p).replay = (s.cwAt p).replay ∧ t.od = s.od) ∧
  (∀ (s : State) (p : Nat), p < 4 → s.cwUp p = true → (s.cwAt p).replay ≠ [] → (s.cwAt p).ackAt + 400 ≤ s.now →
    (s.cwAt p).envelope = none →
    ∃ t, exec (.cwAckTimeout p) s = .next t ∧ (t.cwAt p).envelope = some s.now ∧ (t.cwAt p).retries = 1 ∧
      (t.cwAt p).ackAt = s.now ∧ (t.cwAt p).replay = (s.cwAt p).replay ∧
      t.nat (0x1950 + p) 5 = (s.nat (0x1950 + p) 5 + 1) % 4294967296) ∧
  (∀ (s : State) (p e : Nat), p < 4 → s.cwUp p = true → (s.cwAt p).replay ≠ [] → (s.cwAt p).envelope = some e →
    4 ≤ (s.cwAt p).retries →
    ∃ t, exec (.cwRetryExhausted p) s = .next t ∧ t.cwAt p = {} ∧ t.nat (0x1950 + p) 1 = 1 ∧
      t.nat (0x1950 + p) 7 = (s.nat (0x1950 + p) 7 + 1) % 4294967296 ∧
      (∀ k ∈ s.portLanes p, s.quadRole (k / 4) = 2 → (t.laneAt k).rx = 1 ∧ (t.laneAt k).tx = 1)) ∧
  (∀ (s : State) (p : Nat), p < 4 → s.nat (0x1950 + p) 1 = 1 → s.portLanes p ≠ [] →
    (∀ k ∈ s.portLanes p, (s.laneAt k).rx = 2 ∧ (s.laneAt k).tx = 2) → (∀ v, v < 4 → (tget (s.cwAt p).advertised v).isSome = true) →
    (s.cwAt p).waiting = [] → s.pairPort ≠ some p →
    ∃ t, exec (.cwPortUp p) s = .next t ∧ t.cwUp p = true ∧
      t.cluster.out.head? = some ⟨0xFF, 0x01, [p, s.node, s.cluster.role]⟩ ∧
      (t.cwAt p).words = [0, 1, 2, 3].map (fun v => (3, v, s.nat 0x1905 (v + 1) % 65536)) ∧
      (t.cwAt p).allot = [0, 1, 2, 3].map (fun v => (v, s.nat 0x1905 (v + 1)))) ∧
  (∀ (s : State) (p : Nat), p < 4 → s.nat (0x1950 + p) 1 = 1 → s.portLanes p ≠ [] →
    (∀ k ∈ s.portLanes p, (s.laneAt k).rx = 2 ∧ (s.laneAt k).tx = 2) → (∀ v, v < 4 → (tget (s.cwAt p).advertised v).isSome = true) →
    (s.cwAt p).waiting = [] → s.pairPort = some p →
    ∃ t, exec (.cwPortUp p) s = .next t ∧ t.cwUp p = true ∧ t.pair.link = true ∧
      t.cluster.out.head? = some ⟨0x10, 0x40, [b2n s.pair.home]⟩ ∧
      t.pair.state = (if s.pair.state = 0 then 1 else s.pair.state)) ∧
  (∀ (s : State) (p node role : Nat), p < 4 → node < 16 → s.cwUp p = true → s.cluster.role = 2 → s.cluster.joined = false →
    ∃ t, exec (.linkid p node role 0) s = .next t ∧ (t.cwAt p).far = some (node, role) ∧ t.cluster.joinAt = s.now ∧
      t.cluster.out.head? = some ⟨0, 0x02, [s.node]⟩ ∧ (s.flag 0x1400 1 = false → t.od = s.od)) ∧
  (∀ (s : State) (p node role far : Nat), p < 4 → node < 16 → s.cwUp p = true → s.cluster.role = 1 → s.node = 0 →
    s.pairPort ≠ some p →
    ∃ t, exec (.linkid p node role far) s = .next t ∧ (t.cwAt p).far = some (node, role) ∧
      bit (t.topoByte 0 4 + 256 * t.topoByte 0 5) node = true ∧ t.cluster = s.cluster)

/-! Clusters (R69–R75, R443–R467) -/

/-- Joining completes: the manager admits a worker that meets every condition, publishes the topology and
brings a worker that does not run the cluster's state to it by a commit of its own, and refuses one that does not with
the reason (R448, R449); a worker not admitted asks again every second, becomes a member when it is admitted, and keeps the reason
when it is not (R448, R449); the published topology is taken over, unless it breaks R444 (R86,
R446). Where the spec leaves a choice it follows log entry 85. -/
def Obligations.JoiningCompletes : Prop :=
  (∀ (s : State) (j : JoinMsg), s.cluster.role = 1 → s.joinRefusal j = none → s.node < 16 →
    ∃ t : State, (t.nd j.node).state = 2 ∧ (t.nd j.node).reason = 0 ∧ (t.nd j.node).beat = s.now ∧ bit (t.nat 0x1300 2) j.node = true ∧
      odBytes t.od 0x1302 0 = s.topoWith j ∧ (∃ m ∈ t.cluster.out, m.dst = j.node ∧ m.kind = 3) ∧
      (∀ k ∈ t.members, k ≠ s.node → ∃ m ∈ t.cluster.out, m.dst = k ∧ m.kind = 5) ∧
      exec (.join j) s = .next (if j.digest = t.clusterDigest ∧ j.runsSame = true then t else t.joinCommit j.node)) ∧
  (∀ (s : State) (j : JoinMsg) (r : Nat), s.cluster.role = 1 → s.joinRefusal j = some r → j.node < 16 → j.node ≠ 0 →
    (s.nd j.node).state ≠ 2 →
    ∃ t, exec (.join j) s = .next t ∧ (t.nd j.node).state = 5 ∧ (t.nd j.node).reason = r ∧
      t.cluster.out.head? = some ⟨j.node, 0x04, [r]⟩ ∧ t.nat 0x1300 2 = s.nat 0x1300 2) ∧
  (∀ s : State, s.cluster.role = 2 → s.cluster.joined = false → s.node ≠ 0 → s.cluster.joinAt + 1000000000 ≤ s.now →
    ∃ t, exec .joinRetry s = .next t ∧ t.cluster.joinAt = s.now ∧ t.cluster.out.head? = some ⟨0, 0x02, [s.node]⟩ ∧ t.od = s.od) ∧
  (∀ (s : State) (digest : List Byte), s.cluster.role = 2 → s.node ≠ 0 → s.node < 16 →
    ∃ t, exec (.admitMember s.node digest) s = .next t ∧ t.cluster.joined = true ∧ (t.nd 0).state = 2 ∧ (t.nd s.node).state = 2 ∧
      bit (t.nat 0x1300 2) 0 = true ∧ bit (t.nat 0x1300 2) s.node = true) ∧
  (∀ (s : State) (r : Nat), s.cluster.role = 2 → s.cluster.joined = false → r < 16 →
    ∃ t, exec (.rejectMember r) s = .next t ∧ (t.nd s.node).state = 5 ∧ (t.nd s.node).reason = r ∧ t.cluster.joined = false) ∧
  (∀ (s : State) (b : List Byte), s.cluster.role = 2 → b.length = 128 → topoOk b = true →
    ∃ t, exec (.topo b) s = .next t ∧ odBytes t.od 0x1302 0 = b ∧ t.cluster = s.cluster) ∧
  (∀ (s : State) (b : List Byte), topoOk b = false → exec (.topo b) s = .next s)

/-- Heartbeats and cluster time complete (R452–R454): heartbeats are sent every 100 µs and noted, and the manager raises the
alarm of a mode that has differed for more than a frame period of its slowest channel (R23); a manager loses a member after
three missed ones, and at once every member to which no route is left; TSYNC and TDELAY_REQ go out every 1 ms, are answered,
and give the link delay and the offset from the parent. Where the spec leaves a choice it follows log entry 112. -/
def Obligations.ClusterTimeCompletes : Prop :=
  (∀ s : State, s.cluster.role = 2 → s.cluster.joined = true → s.cluster.beatAt + 100000 ≤ s.now →
    ∃ t, exec .heartbeatSend s = .next t ∧ t.cluster.beatAt = s.now ∧
      t.cluster.out.head? = some ⟨0, 0x06, [s.node, s.mode.code]⟩ ∧ t.od = s.od) ∧
  (∀ s : State, s.cluster.role = 1 → s.cluster.beatAt + 100000 ≤ s.now →
    ∃ t, exec .heartbeatSend s = .next t ∧ t.cluster.beatAt = s.now ∧
      (∀ k ∈ s.members, k ≠ s.node → (⟨k, 0x06, [s.node, s.mode.code]⟩ : Msg) ∈ t.cluster.out) ∧ t.od = s.od) ∧
  (∀ (s : State) (k m : Nat) (o : Int), k < 16 → m < 16 → (s.nd k).state = 2 →
    ∃ t, exec (.heartbeat k m o) s = .next t ∧ t.nd k = (if s.cluster.role = 1 ∧ k ≠ s.node then
        s.watchMode { s.nd k with beat := s.now, mode := m, offset := o } else { s.nd k with beat := s.now, mode := m, offset := o }) ∧
      (s.cluster.role = 1 → (o.natAbs : Int) ≤ t.num 0x1300 6) ∧ (∀ j, j ≠ k → t.nd j = s.nd j)) ∧
  (∀ (s : State) (k m d : Nat) (o : Int), k < 16 → m < 16 → (s.nd k).state = 2 → s.cluster.role = 1 → k ≠ s.node →
    m ≠ s.mode.code → (s.nd k).differs = some d → s.slowestFrame ≠ 0 → d + s.slowestFrame < s.now →
    ∃ t, exec (.heartbeat k m o) s = .next t ∧ (t.nd k).alarmed = true ∧ (t.nd k).differs = some d) ∧
  (∀ (s : State) (k : Nat), k < 16 → k ≠ s.node → s.cluster.role = 1 → (s.nd k).state = 2 → (s.nd k).beat + 300000 ≤ s.now →
    (s.route k).isSome = true →
    ∃ t, exec (.heartbeatMissed k) s = .next t ∧ (t.nd k).state = 3 ∧ bit (t.nat 0x1300 2) k = false ∧
      t.nat 0x1300 7 = (s.nat 0x1300 7 + 1) % 4294967296) ∧
  (∀ (s : State) (k m : Nat), k < 16 → k ≠ s.node → s.cluster.role = 1 → (s.nd k).state = 2 → s.route k = none →
    m ∈ s.subtree k → m ∈ s.members →
    ∃ t, exec (.heartbeatMissed k) s = .next t ∧ (t.nd m).state = 3 ∧ bit (t.nat 0x1300 2) m = false) ∧
  (∀ s : State, s.cluster.role = 2 → s.node ≠ 0 → (s.nd 0).state = 2 → (s.nd 0).beat + 300000 ≤ s.now →
    ∃ t, exec (.heartbeatMissed 0) s = .next t ∧ t.cluster.joined = false ∧ (t.nd 0).state = 3) ∧
  (∀ s : State, s.cluster.role ≠ 0 → s.cluster.syncAt + 1000000 ≤ s.now →
    ∃ t, exec .tsyncSend s = .next t ∧ t.cluster.syncAt = s.now ∧ t.od = s.od ∧
      (∀ k ∈ (s.childrenOf s.node).filter (fun c => c != s.node) ++ s.newcomers, (⟨k, 0x07, [s.now]⟩ : Msg) ∈ t.cluster.out)) ∧
  (∀ (s : State) (k : Nat), s.cluster.role = 2 → s.cluster.delayAt + 1000000 ≤ s.now → s.timeParent = k →
    ∃ t, exec .tdelayReqSend s = .next t ∧ t.cluster.delayTx = some s.now ∧ t.cluster.delayAt = s.now ∧
      t.cluster.out.head? = some ⟨k, 0x08, [s.now]⟩ ∧ t.od = s.od) ∧
  (∀ (s : State) (k sof rx : Nat), k < 16 → (s.parentOf k = some s.node ∨ k ∈ s.newcomers) →
    ∃ t, exec (.tdelayReq k sof rx) s = .next t ∧ t.cluster.out.head? = some ⟨k, 0x09, [sof, rx]⟩ ∧ t.od = s.od ∧ t.tb = s.tb) ∧
  (∀ (s : State) (t3 rx : Nat), s.cluster.role = 2 → s.cluster.delayTx = some t3 →
    ∃ t, exec (.tdelayRsp rx) s = .next t ∧ t.cluster.delayTx = none ∧
      t.cluster.delay = (((s.cluster.sync.2 : Int) - s.cluster.sync.1) + ((rx : Int) - t3)) / 2 ∧
      t.num 0x1500 0x0B = t.cluster.delay ∧
      t.tb.exchanges = (if s.tb.exchanges < 8 then s.tb.exchanges + 1 else s.tb.exchanges)) ∧
  (∀ (s : State) (sof rx : Nat), s.cluster.role = 2 → s.clk.bypass = false →
    ∃ t : State, t.cluster.sync = (sof, rx) ∧ t.cluster.delay = s.cluster.delay ∧
      t.tbState = (if s.tbState = 0 ∨ s.tbState = 3 then 1 else s.tbState) ∧
      exec (.tsync sof rx) s = .next (t.takeOffset ((rx : Int) - sof - s.cluster.delay) 1 1000)) ∧
  (∀ (s : State) (sof rx : Nat), s.cluster.role = 2 → s.clk.bypass = false → s.tbState = 2 →
    ((rx : Int) - sof - s.cluster.delay).natAbs ≤ 1000 →
    ∃ t, exec (.tsync sof rx) s = .next t ∧ t.tbState = 2 ∧ t.cluster.sync = (sof, rx) ∧ t.tb.bad = 0 ∧
      t.num 0x1500 0x0A = (rx : Int) - sof - s.cluster.delay ∧ t.tb.count = s.tb.count)

/-- Two-phase commits and snapshots complete: a worker prepares a set and answers ARMED, or REFUSED with the code (R70); the
coordinator's set notes the answers, and aborts with reason 0x03 where a member refuses (R70, R82); READY and NOT READY are
noted at the ready point (R71); a member that is told to COMMIT goes ahead, one that is told to DEFER moves to the new
target, and one that is told to ABORT ends (R71); the last member's data completes a snapshot's parts and the member's
failure fails it (R69). Where the spec leaves a choice it follows log entries 46 and 47. -/
def Obligations.TwoPhaseCommitsComplete : Prop :=
  (∀ (s : State) (k : Nat) (l : List WriteEnt) (g : Target) (z : State), 1 ≤ k → k ≤ 8 → s.cluster.role = 2 → (s.set k).state = 0 →
    z = s.setSet k { state := 1, orphan := true, writes := preparedWrites l, coordinator := some 0, members := [] } →
    (z.armSet k (z.preparedAim g) g.refch 3).1 = .ok →
    ∃ t, exec (.prepare 0 k l g) s = .next t ∧ (t.set k).state = 2 ∧ (t.set k).coordinator = some 0 ∧
      (t.set k).writes = preparedWrites l ∧ t.cluster.out.head? = some ⟨0, 0x11, [k]⟩) ∧
  (∀ (s : State) (k : Nat) (l : List WriteEnt) (g : Target) (z : State), 1 ≤ k → k ≤ 8 → s.coordinatedBy 0x10 = true →
    (s.set (k + 8)).state = 0 → s.workersOf (preparedWrites l) = [] →
    z = s.setSet (k + 8) { state := 1, orphan := true, writes := preparedWrites l, coordinator := some 0x10, members := [] } →
    (z.armSet (k + 8) (z.preparedAim g) g.refch 3).1 = .ok →
    ∃ t, exec (.prepare 0x10 k l g) s = .next t ∧ (t.set (k + 8)).state = 2 ∧ (t.set (k + 8)).coordinator = some 0x10 ∧
      (t.set (k + 8)).writes = preparedWrites l ∧ t.cluster.out.head? = some ⟨0x10, 0x11, [k]⟩) ∧
  (∀ (s : State) (k : Nat) (l : List WriteEnt) (g : Target), 1 ≤ k → k ≤ 8 → s.cluster.role = 2 → (s.set k).armed = true →
    ∃ t, exec (.prepare 0 k l g) s = .next t ∧ t.sets = s.sets ∧ t.cluster.out.head? = some ⟨0, 0x12, [k, Code.busy.value, 0]⟩) ∧
  (∀ (s : State) (k m : Nat), 1 ≤ k → k ≤ 48 → m ≤ 16 → (s.set k).armed = true → tget (s.set k).members m = some MemberArm.asked →
    ∃ t, t = s.setSet k { s.set k with members := tset (s.set k).members m MemberArm.armed } ∧
      exec (.armed m k) s = .next (t.armedAll k)) ∧
  (∀ (s : State) (k m : Nat), 1 ≤ k → k ≤ 48 → m ≤ 16 → (s.set k).armed = true → (s.set k).coordinator = none →
    (s.set k).members = [(m, MemberArm.asked)] →
    ∃ t, exec (.armed m k) s = .next t ∧ (t.set k).members = [(m, MemberArm.armed)] ∧ (t.set k).state = (s.set k).state ∧
      (t.set k).reply = none) ∧
  (∀ (s : State) (k m code : Nat) (o : ObjRef), 1 ≤ k → k ≤ 48 → m ≤ 16 → (s.set k).armed = true → (s.set k).coordinator = none →
    (tget (s.set k).members m).isSome = true →
    ∃ t, exec (.refused m k code o) s = .next t ∧ (t.set k).state = 6 ∧ (t.set k).reason = (if m = 16 then 7 else 3) ∧
      (t.set k).result = Code.ofValue code ∧ (t.set k).offending = m % 16 * 268435456 + okey (o.idx % 65536) (o.sub % 256) ∧
      ((s.set k).members.length ≤ 16 → ∀ j ∈ tkeys (s.set k).members, (⟨j, 0x17, [k]⟩ : Msg) ∈ t.cluster.out)) ∧
  (∀ (s : State) (k m : Nat), 1 ≤ k → k ≤ 48 → m ≤ 16 → (s.set k).armed = true → (s.set k).readyPassed = false →
    (s.set k).due ≤ s.now + 100000 → (s.set k).coordinator = none → (s.set k).members = [(m, MemberArm.armed)] →
    (∃ t, exec (.ready m k) s = .next t ∧ (t.set k).members = [(m, MemberArm.ready)] ∧ t.od = s.od) ∧
    (∃ t, exec (.notReady m k) s = .next t ∧ (t.set k).members = [(m, MemberArm.notReady)] ∧ t.od = s.od)) ∧
  (∀ (s : State) (k T : Nat), 1 ≤ k → k ≤ 48 → (s.set k).armed = true → (s.set k).coordinator = some 0 → (s.set k).decision = 0 →
    s.now + 20000 ≤ (s.set k).due →
    (∃ t, exec (.commitDecision k 1 0) s = .next t ∧ (t.set k).readyPassed = true ∧ (t.set k).decision = 1 ∧
      (t.set k).state = (s.set k).state ∧ (t.set k).due = (s.set k).due ∧
      (∀ n ∈ (s.set k).chans s.od, n ∈ s.liveChans → ((s.set k).due, (s.set k).chanWrites s.od n) ∈ (t.ch n).pend)) ∧
    ((s.set k).refch = 0xFF → ∃ t, exec (.commitDecision k 2 T) s = .next t ∧ (t.set k).state = 3 ∧ (t.set k).due = T ∧
      (t.set k).deferrals = (s.set k).deferrals + 1) ∧
    ((s.set k).report ≠ 0 → ∃ t, exec (.commitDecision k 3 0) s = .next t ∧ (t.set k).state = 5 ∧ (t.set k).reason = 5) ∧
    ((s.set k).report = 0 → ∃ t, exec (.commitDecision k 3 0) s = .next t ∧ (t.set k).state = 6 ∧
      (t.set k).reason ∈ [2, 3, 4, 6, 7])) ∧
  (∀ (s : State) (k m ref : Nat) (x : Snap) (entries : List (Nat × List Byte)) (epochs : List (Nat × Nat)), k < 16 → m ≠ k →
    s.ctl.snaps = [(ref, x)] → x.missing = [k, m] →
    ∃ t, exec (.snapdata k x.ask.session x.ask.txid true entries epochs) s = .next t ∧
      t.ctl.snaps = [(ref, x.receive k entries epochs)] ∧ t.od = s.od) ∧
  (∀ (s : State) (k ref q : Nat) (x : Snap) (entries : List (Nat × List Byte)) (epochs : List (Nat × Nat)), k < 16 →
    s.ctl.snaps = [(ref, x)] → x.missing = [k] → x.seq = some q → x.ask.session = 0 →
    ∃ t, t = ({ s with ctl := { s.ctl with snaps := [] } } : State) ∧
      exec (.snapdata k 0 x.ask.txid true entries epochs) s =
        .next (t.answer x.ask .ok (snapBody (x.receive k entries epochs)))) ∧
  (∀ (s : State) (k ref : Nat) (x : Snap) (entries : List (Nat × List Byte)) (epochs : List (Nat × Nat)), k < 16 →
    s.ctl.snaps = [(ref, x)] → x.missing.contains k = true →
    exec (.snapdata k x.ask.session x.ask.txid false entries epochs) s = .next (s.failSnap ref x))

/-- The span exchange completes (R446, R459–R462): a member's request for a span group is granted; its row status, seams,
borders and pyramids enter this device's copy, and a departure unit reaches the lead.
Where the spec leaves a choice it follows log entry 86. -/
def Obligations.SpansComplete : Prop :=
  (∀ (s : State) (g k : Nat), g < 4 → k < 16 → k ≠ s.node → (bits (s.nat 0x1310 (g + 1)) 16).contains k = true →
    (bits (s.nat 0x1310 (g + 1)) 16).contains s.node = true →
    ∃ t, exec (.spanreq g k) s = .next t ∧ t.cluster.out.head? = some ⟨k, 0x31, [g]⟩ ∧
      (∀ n, n < 128 → s.nat 0x1318 (n + 1) = 0x40 + g → k ∈ (t.sp n).granted) ∧ t.od = s.od) ∧
  (∀ (s : State) (n k e r c v : Nat), n < 128 → k < 16 → s.peerMember n k = true → r < (s.cfgAt n e).rows → c < (s.cfgAt n e).tcols →
    (c < (s.ownTilesAt n e).1 ∨ (s.ownTilesAt n e).2 ≤ c) → (tget (s.ch n).kinds e).isSome = true →
    (∃ t, exec (.rowstat n k e r c false v) s = .next t ∧ tget (t.sp n).costs (bandKey e r c) = some v ∧ t.chan = s.chan) ∧
    ((s.ch n).bandDone e r c = false →
      ∃ t, exec (.rowstat n k e r c true v) s = .next t ∧ tget (t.ch n).bands (bandKey e r c) = some v)) ∧
  (∀ (s : State) (n k e r : Nat) (data : List Byte) (fin : Bool), n < 128 → k < 16 →
    ((s.neighbours n).1 ++ (s.neighbours n).2).contains k = true →
    (∃ t, exec (.seam n k e r data fin) s = .next t ∧ tget (t.sp n).seams (rowKey e r * 32 + k * 2 + b2n fin) = some data) ∧
    (∃ t, exec (.border n k e r data) s = .next t ∧ tget (t.sp n).borders (rowKey e r * 16 + k) = some data ∧ t.od = s.od) ∧
    (∃ t, exec (.pyramid n k e data) s = .next t ∧ tget (t.sp n).pyramids (e * 16 + k) = some data ∧ t.od = s.od)) ∧
  (∀ (s : State) (n k e r c : Nat) (data : List Byte), n < 128 → k < 16 → s.peerMember n k = true →
    (s.spanGroup n).head? = some s.node → r < (s.cfgAt n e).drows → c < (s.cfgAt n e).unitsPerRow →
    (c < (s.ownTilesAt n e).1 ∨ (s.ownTilesAt n e).2 ≤ c) →
    ∃ t, exec (.unitArrived n k e r c data) s = .next t ∧ tget (t.sp n).units (bandKey e r c) = some data ∧
      (0 < (s.cfgAt n e).rowsIn r → (s.ch n).bandDone e (r * (s.cfgAt n e).perRow) c = false →
        tget (t.ch n).bands (bandKey e (r * (s.cfgAt n e).perRow) c) = some (8 * data.length)) ∧ t.od = s.od)

/-! Mirror pairs (R469–R495) -/

/-- The pair's messages complete: a PAIRID that agrees lets the unit join a primary, at formation and, with its configuration
its peer's, out of ISOLATED, where every running channel is reloaded (R481, R483, R487); digest records are kept for
comparison (R476, R477); the primary answers a checkpoint request (R483), and a checkpoint waits for the next boundary (R483,
R485); CLAIMED makes an undecided unit SECONDARY, and of two units that claimed in one slot the away one releases DRAWBAR
(R474, R481); HANDOVER names the tick at which the away primary releases DRAWBAR, and at that tick it does (R493); PAIRBEAT
is sent every 100 µs and noted, and brings the link up again (R472, R475).
Where the spec leaves a choice it follows log entries 87 and 113. -/
def Obligations.PairMessagesComplete : Prop :=
  (∀ (s : State) (p : PairIdMsg), s.pair.state = 1 → s.pair.link = true → p.home ≠ s.pair.home → p.versions = true → p.packs = true →
    s.pair.held = true →
    ∃ t, exec (.pairid p) s = .next t ∧ t.pair.state = 3 ∧ t.pair.agreed = true ∧ t.pair.peer = p.digest ∧
      t.nat 0x1401 1 = 3) ∧
  (∀ (s : State) (p : PairIdMsg), s.pair.state = 5 → s.pair.link = true → p.home ≠ s.pair.home → p.versions = true → p.packs = true →
    p.digest = s.pairDigest →
    ∃ t, t.pair.agreed = true ∧ t.pair.peer = p.digest ∧ t.pair.state = 3 ∧ t.nat 0x1401 1 = 3 ∧ t.runningChans = s.runningChans ∧
      exec (.pairid p) s = .next (s.runningChans.foldl (fun u n => u.rejoin n (u.ch n).epoch) t)) ∧
  (∀ (s : State) (p : PairIdMsg), s.pair.state = 2 → s.pair.link = true → p.home ≠ s.pair.home → p.versions = true → p.packs = true →
    exec (.pairid p) s = .next { s with pair := { s.pair with agreed := true, peer := p.digest } }) ∧
  (∀ (s : State) (r : DigestRec), s.pair.state ≠ 0 → s.pair.link = true → r.chan < 128 → (s.pc r.chan).rejoining = false →
    (s.ch r.chan).depE ≤ r.epoch → s.pair.records = [] →
    ∃ t, exec (.digest [r]) s = .next t ∧ t.pair.records = [r] ∧ t.od = s.od ∧ t.pair.state = s.pair.state) ∧
  (∀ (s : State) (n : Nat), n < 128 → s.pair.state = 2 → (s.ch n).running = true →
    ∃ t, exec (.ckptReq n) s = .next t ∧ (t.pc n).from_ = some (s.ch n).epoch ∧
      t.cluster.out.head? = some ⟨0x10, 0x43, n :: (s.checkpointOf n).map BitVec.toNat⟩ ∧ t.od = s.od) ∧
  (∀ (s : State) (n : Nat) (b : List Byte), n < 128 → s.pair.state = 3 → ckptHead b ≤ b.length →
    ((s.pc n).rejoining = true ∨ (s.ch n).starting.isSome = true) →
    ∃ t, exec (.ckpt n b) s = .next t ∧ (t.pc n).ckpt = some b ∧ (t.pc n).rejoining = true ∧ (t.pc n).installed = false ∧
      (t.pc n).from_ = none ∧ t.od = s.od) ∧
  (∀ (s : State) (slot : Nat), s.pair.state = 4 → s.pair.link = true → s.pair.drawbar = false →
    ∃ t, exec (.claimed slot) s = .next t ∧ t.pair.state = 3 ∧ t.pair.held = true ∧ t.pair.drawbar = false ∧
      t.nat 0x1401 0x0C = (s.nat 0x1401 0x0C + 1) % 4294967296) ∧
  (∀ (s : State) (slot : Nat), s.pair.state = 1 → s.pair.link = true → s.pair.agreed = true → s.pair.drawbar = false →
    ∃ t, exec (.claimed slot) s = .next t ∧ t.pair.state = 3 ∧ t.pair.held = true ∧ t.pair.drawbar = false) ∧
  (∀ (s : State), s.pair.state = 2 → s.pair.link = true → s.pair.drawbar = true → s.pair.home = false →
    ∃ t, exec (.claimed s.pair.slot) s = .next t ∧ t.pair.state = 3 ∧ t.pair.held = true ∧ t.pair.drawbar = false ∧
      t.nat 0x1401 0x0C = (s.nat 0x1401 0x0C + 1) % 4294967296) ∧
  (∀ (s : State) (slot : Nat), s.pair.state = 2 → s.pair.link = true → s.pair.drawbar = true → s.pair.home = true →
    exec (.claimed slot) s = .next { s with pair := { s.pair with held := false, gave := false } }) ∧
  (∀ (s : State) (tick : Nat), s.pair.state = 2 → s.pair.home = false → s.pair.link = true → s.now ≤ tick →
    exec (.handover tick) s = .next { s with pair := { s.pair with handover := some tick, yielded := false } }) ∧
  (∀ (s : State) (tick : Nat), s.pair.state = 2 → s.pair.home = false → s.pair.handover = some tick → tick ≤ s.now →
    ∃ t, exec .handoverTick s = .next t ∧ t.pair.state = 3 ∧ t.pair.drawbar = false ∧ t.pair.handover = none ∧ t.pair.gave = true ∧
      t.nat 0x1401 0x0B = (s.nat 0x1401 0x0B + 1) % 4294967296) ∧
  (∀ (s : State) (p : PairBeatMsg), s.flag 0x1400 1 = true → s.pairPath = true → s.pair.link = true →
    (s.pair.agreed = false ∨ (s.pair.state ≠ 1 ∧ s.pair.state ≠ 5)) →
    ∃ t, exec (.pairbeat p) s = .next t ∧ t.pair.beat = s.now ∧ t.pair.peerMode = p.mode ∧ t.pair.peerAlarm = p.alarms ∧
      t.pair.held = (s.pair.held || p.state == 2) ∧ t.pair.gave = (s.pair.gave && p.state != 2) ∧ t.od = s.od) ∧
  (∀ (s : State) (p : PairBeatMsg), s.flag 0x1400 1 = true → s.pairPath = true → s.pair.link = true → s.pair.agreed = true →
    s.pair.state = 1 → p.state = 2 →
    ∃ t, exec (.pairbeat p) s = .next t ∧ t.pair.beat = s.now ∧ t.pair.state = 3 ∧ t.pair.held = true ∧ t.nat 0x1401 1 = 3) ∧
  (∀ (s : State) (p : PairBeatMsg), s.flag 0x1400 1 = true → s.pairPath = true → s.pair.link = false → s.pair.state ≠ 0 →
    ∃ t, exec (.pairbeat p) s = .next t ∧ t.pair.link = true ∧ t.pair.beat = s.now ∧ t.pair.agreed = false ∧
      t.cluster.out.head? = some ⟨0x10, 0x40, [b2n s.pair.home]⟩ ∧ t.pair.state = s.pair.state) ∧
  (∀ s : State, s.pair.state ≠ 0 → s.pair.link = true → s.pair.beatTx + 100000 ≤ s.now →
    ∃ t m, exec .pairbeatSend s = .next t ∧ t.pair.beatTx = s.now ∧ t.cluster.out.head? = some m ∧ m.dst = 0x10 ∧ m.kind = 0x46 ∧
      m.args.take 2 = [s.pair.state, s.mode.code] ∧ t.od = s.od)

/-- Primacy, link and heartbeat complete (R472–R493): the pair link is down without PAIRBEAT for 300 µs, which leaves a
secondary ISOLATED while the primary lives and CLAIMING otherwise; the peer's heartbeat fails and is live again; a released
DRAWBAR is claimed, at the home unit's slot or 5 µs after it; the strobe's stop and a suspicion release it; the home unit
names a handover at least 1 ms ahead when its hold-off has passed. Where the spec leaves a choice it follows log entry 87. -/
def Obligations.PrimacyCompletes : Prop :=
  (∀ s : State, s.pair.state = 2 → s.pair.link = true → s.pair.beat + 300000 ≤ s.now →
    ∃ t, exec .pairLinkTimeout s = .next t ∧ t.pair.link = false ∧ t.pair.agreed = false ∧ t.pair.records = [] ∧ t.pair.state = 2 ∧
      t.nat 0x1401 4 = 0) ∧
  (∀ s : State, s.pair.state = 3 → s.pair.link = true → s.pair.beat + 300000 ≤ s.now →
    ∃ t, exec .pairLinkTimeout s = .next t ∧ t.pair.link = false ∧ t.pair.agreed = false ∧ t.pair.records = [] ∧
      t.pair.state = (if s.pair.live = true ∧ s.pair.held = true then 5 else if s.mode.sending = true then 4 else 3)) ∧
  (∀ s : State, s.pair.live = true → s.pair.state = 3 → s.pair.link = false → s.mode = .encode →
    ∃ t, exec .peerHeartbeatFailed s = .next t ∧ t.pair.live = false ∧ t.pair.state = 4 ∧ t.nat 0x1401 1 = 4 ∧
      (∀ k ∈ s.armedSets, (s.set k).coordinator = none → tget (t.set k).members 0x10 = none)) ∧
  (∀ s : State, s.pair.live = true → s.pair.state = 2 →
    ∃ t, exec .peerHeartbeatFailed s = .next t ∧ t.pair.live = false ∧ t.pair.state = 2 ∧
      (∀ k ∈ s.armedSets, (s.set k).coordinator = none → tget (t.set k).members 0x10 = none)) ∧
  (∀ s : State, s.pair.live = false →
    ∃ t, exec .peerHeartbeatLive s = .next t ∧ t.pair = { s.pair with live := true } ∧ t.od = s.od) ∧
  (∀ s : State, s.pair.gave = true →
    exec .drawbarReleased s = .next { s with pair := { s.pair with held := false } }) ∧
  (∀ s : State, (s.pair.state = 3 ∨ s.pair.state = 5) → s.mode.sending = true → s.pair.gave = false →
    ∃ t, exec .drawbarReleased s = .next t ∧ t.pair.state = 4 ∧ t.pair.held = false ∧ t.nat 0x1401 1 = 4) ∧
  (∀ (s : State) (slot : Nat), slot % 10000 = 0 → slot + (if s.pair.home then 0 else 5000) ≤ s.now → s.mode.sending = true →
    s.pair.drawbar = false → s.pair.held = false → (s.pair.state = 1 ∨ s.pair.state = 4) →
    ∃ t, exec (.claimSlot slot) s = .next t ∧ t.pair.state = 2 ∧ t.pair.drawbar = true ∧ t.pair.slot = slot ∧
      t.pair.gave = false ∧ (s.pair.link = true → t.cluster.out.head? = some ⟨0x10, 0x44, [slot]⟩) ∧
      t.nat 0x1401 0x0B = (s.nat 0x1401 0x0B + 1) % 4294967296) ∧
  (∀ s : State, s.pair.drawbar = true → s.pair.state = 2 →
    ∃ t, exec .sendingStrobeStop s = .next t ∧ t.pair.drawbar = false ∧ t.pair.state = 3 ∧ t.pair.handover = none ∧
      t.nat 0x1401 0x0B = (s.nat 0x1401 0x0B + 1) % 4294967296) ∧
  (∀ s : State, s.nat 0x1400 3 ≠ 0 → s.nat 0x1400 3 ≤ s.nat 0x1401 4 → s.pair.home = true → s.pair.state = 3 → s.pair.link = true →
    s.pair.handover = none → (∀ k ∈ s.runningChans, s.pairChanState k = 1) →
    ∃ t n, exec .revertHoldoffComplete s = .next t ∧ t.pair.handover = some n ∧ s.now + 1000000 ≤ n ∧ n < s.now + 1000100 ∧
      n % 100 = 0 ∧ t.cluster.out.head? = some ⟨0x10, 0x45, [n]⟩ ∧ t.pair.state = 3) ∧
  (∀ s : State, s.pair.state = 2 → s.flag 0x1400 5 = true → (s.pair.yielded = false ∨ s.nat 0x1400 3 = 0) → s.suspect = true →
    ∃ t, exec .primarySuspectYield s = .next t ∧ t.pair.state = 3 ∧ t.pair.drawbar = false ∧ t.pair.yielded = true ∧ t.pair.gave = true ∧
      t.nat 0x1401 0x0B = (s.nat 0x1401 0x0B + 1) % 4294967296)

/-! DRAM (R499–R526) -/

/-- A channel's scheduling cycles complete (R504–R512): requests reach their bank's queue, or wait on the fabric for a full
one; a restated debt is paid first, then a debt past 8, then a column command serves the request picked for it, and where
none can issue, an activate opens a row, a precharge closes one, or a refresh that is not postponed is issued, which closes
its bank's row; a refresh that falls due takes a credit or is owed (R509, R510). Corrected errors are counted with inline
ECC, and an uncorrectable one takes the device to SAFE (R34, R503). Where the spec leaves a choice it follows log entry 88.
Where the spec leaves a choice it follows log entry 88. -/
def Obligations.DramCyclesComplete : Prop :=
  (∀ (s : State) (r : MemReq) (p : DramPlace) (timed : Nat) (rfm : Bool), p = dramPlace s.dramCfg r.addr →
    r.addr < 4 * regionBytes s.dramCfg → r.cls < 4 → (s.dch p.dch).state = 4 → p.dch < 16 → (s.dch p.dch).fabric = [] →
    ((s.dch p.dch).bank p.bankNo).queue.length < 16 →
    ∃ t, exec (.dramCommandCycle p.dch [r] timed rfm) s = .next t ∧
      ((t.dch p.dch).bank p.bankNo).queue =
        ((s.dch p.dch).bank p.bankNo).queue ++ [⟨r.cls, r.write, r.addr, (s.dch p.dch).seq⟩] ∧
      (t.dch p.dch).cmd = none ∧ (t.dch p.dch).fabric = [] ∧ (∀ j, j ≠ p.dch → t.dch j = s.dch j)) ∧
  (∀ (s : State) (r : MemReq) (p : DramPlace) (timed : Nat) (rfm : Bool), p = dramPlace s.dramCfg r.addr →
    r.addr < 4 * regionBytes s.dramCfg → r.cls < 4 → (s.dch p.dch).state = 4 → p.dch < 16 → (s.dch p.dch).fabric = [] →
    16 ≤ ((s.dch p.dch).bank p.bankNo).queue.length →
    ∃ t, exec (.dramCommandCycle p.dch [r] timed rfm) s = .next t ∧ (t.dch p.dch).fabric = [r] ∧
      (t.dch p.dch).banks = (s.dch p.dch).banks) ∧
  (∀ (s : State) (k timed b : Nat) (rfm : Bool), k < 16 → (s.dch k).state = 6 → (s.dch k).owed ≠ 0 →
    (s.dch k).fabric = [] → (s.dch k).inWindow s.now = false →
    (s.dch k).nextRefresh timed s.refreshUnit (fun _ => true) = some b →
    ∃ t, exec (.dramCommandCycle k [] timed rfm) s = .next t ∧ (t.dch k).cmd = some (1, b) ∧
      (t.dch k).owed = (s.dch k).owed - s.refreshUnit ∧ (t.dch k).debt = (s.dch k).debt ∧ ((t.dch k).bank b).row = none ∧
      (t.dch k).owing = (s.dch k).owing.erase b ∧ (∀ j, j ≠ k → t.dch j = s.dch j)) ∧
  (∀ (s : State) (k timed b : Nat) (rfm : Bool), k < 16 → (s.dch k).state = 2 → 128 < (s.dch k).debt →
    (s.dch k).fabric = [] → (s.dch k).inWindow s.now = false →
    (s.dch k).nextRefresh timed s.refreshUnit (fun _ => true) = some b →
    ∃ t, exec (.dramCommandCycle k [] timed rfm) s = .next t ∧ (t.dch k).cmd = some (2, b) ∧
      (t.dch k).debt = (s.dch k).debt - s.refreshUnit ∧ ((t.dch k).bank b).row = none ∧
      (t.dch k).owing = (s.dch k).owing.erase b ∧ (∀ j, j ≠ k → t.dch j = s.dch j)) ∧
  (∀ (s : State) (k timed b : Nat) (rfm : Bool) (r : DramReq), k < 16 → (s.dch k).state = 2 → (s.dch k).debt ≤ 128 →
    (s.dch k).fabric = [] → (s.dch k).inWindow s.now = false →
    (s.dch k).column s.dramCfg timed = some (b, r) →
    ∃ t, exec (.dramCommandCycle k [] timed rfm) s = .next t ∧ (t.dch k).cmd = some (3, b) ∧
      (t.dch k).bank b = { (s.dch k).bank b with
        queue := ((s.dch k).bank b).queue.erase r
        ecc := if s.dramCfg.2.2.1 = true then
          some ((dramPlace s.dramCfg r.addr).row, (dramPlace s.dramCfg r.addr).granule / 7) else none } ∧
      (t.dch k).run.1 = r.write ∧ (t.dch k).debt = (s.dch k).debt ∧ (∀ j, j ≠ k → t.dch j = s.dch j)) ∧
  (∀ (s : State) (k timed b : Nat) (rfm : Bool), k < 16 → (s.dch k).state = 2 → (s.dch k).debt ≤ 128 →
    (s.dch k).fabric = [] → (s.dch k).inWindow s.now = false → (s.dch k).column s.dramCfg timed = none →
    (s.dch k).activate timed (max 1 s.dramCfg.2.1) = some b →
    ∃ t, exec (.dramCommandCycle k [] timed rfm) s = .next t ∧ (t.dch k).cmd = some (4, b) ∧
      ((t.dch k).bank b).queue = ((s.dch k).bank b).queue ∧ ((t.dch k).bank b).row.isSome = true ∧
      (t.dch k).ptr = (b % 16 + 1) % 16 ∧ (∀ j, j ≠ k → t.dch j = s.dch j)) ∧
  (∀ (s : State) (k timed b : Nat) (rfm : Bool), k < 16 → (s.dch k).state = 2 → (s.dch k).debt ≤ 128 →
    (s.dch k).fabric = [] → (s.dch k).inWindow s.now = false → (s.dch k).column s.dramCfg timed = none →
    (s.dch k).activate timed (max 1 s.dramCfg.2.1) = none → (s.dch k).precharge s.dramCfg (s.nat 0x1800 7) timed = some b →
    ∃ t, exec (.dramCommandCycle k [] timed rfm) s = .next t ∧ (t.dch k).cmd = some (5, b) ∧
      (t.dch k).bank b = { (s.dch k).bank b with row := none } ∧ (∀ j, j ≠ k → t.dch j = s.dch j)) ∧
  (∀ (s : State) (k timed b : Nat) (rfm : Bool), k < 16 → (s.dch k).state = 2 → (s.dch k).debt ≤ 128 →
    (s.dch k).fabric = [] → (s.dch k).inWindow s.now = false → (s.dch k).column s.dramCfg timed = none →
    (s.dch k).activate timed (max 1 s.dramCfg.2.1) = none → (s.dch k).precharge s.dramCfg (s.nat 0x1800 7) timed = none →
    s.refreshUnit ≤ (s.dch k).debt →
    (s.dch k).nextRefresh timed s.refreshUnit (fun x => !s.postpones (s.dch k) (x / 16)) = some b →
    ∃ t, exec (.dramCommandCycle k [] timed rfm) s = .next t ∧ (t.dch k).cmd = some (6, b) ∧
      (t.dch k).debt = (s.dch k).debt - s.refreshUnit ∧ ((t.dch k).bank b).row = none ∧
      (t.dch k).owing = (s.dch k).owing.erase b ∧ (∀ j, j ≠ k → t.dch j = s.dch j)) ∧
  (∀ (s : State) (k rank bank : Nat), k < 16 → rank < 2 → bank < 16 → ((s.dch k).state = 2 ∨ (s.dch k).state = 6) →
    s.refreshUnit ≤ (s.dch k).credit →
    ∃ t, exec (.refreshDue k rank bank) s = .next t ∧
      t.dch k = { s.dch k with credit := (s.dch k).credit - s.refreshUnit } ∧ (∀ j, j ≠ k → t.dch j = s.dch j)) ∧
  (∀ (s : State) (k rank bank : Nat), k < 16 → rank < 2 → bank < 16 → ((s.dch k).state = 2 ∨ (s.dch k).state = 6) →
    (s.dch k).credit < s.refreshUnit →
    ∃ t, exec (.refreshDue k rank bank) s = .next t ∧
      t.dch k = { s.dch k with debt := (s.dch k).debt + s.refreshUnit, owing := (s.dch k).owing ++ [rank * 16 + bank] } ∧
      (∀ j, j ≠ k → t.dch j = s.dch j)) ∧
  (∀ (s : State) (a : Nat), a < 4 * regionBytes s.dramCfg → s.dramCfg.2.2.1 = true →
    ∃ t, exec (.dramEccError a false) s = .next t ∧ t.nat 0x1801 5 = (s.nat 0x1801 5 + 1) % 4294967296 ∧ t.mode = s.mode ∧
      t.dram = s.dram ∧ t.dramMem = s.dramMem) ∧
  (∀ (s : State) (a : Nat), a < 4 * regionBytes s.dramCfg → s.dramCfg.2.2.1 = true →
    (∀ m ∈ [Mode.dormant, Mode.starting, Mode.ret, Mode.safe], s.mode ≠ m) → s.outranked 4 = false →
    ∃ t, exec (.dramEccError a true) s = .next t ∧ t.mode = .safe ∧ t.nat 0x1001 7 = 0x0B ∧ bit (t.nat 0x1002 3) 1 = true)

/-- The rates and power states of the DRAM complete (R508, R511–R518, R521, R522): MR4 and the board temperature raise the
rate of a channel a step at a time, which restates its debt and forbids postponement; a paid debt is counted, and a further
step follows; an idle rank powers down; in SERVICE and HOLD a quarter leaves self-refresh for a request, with its suspended
scans, and returns after 1 ms without one; a drift at the threshold books a retraining window; the peak of each quarter's
demand is kept, and demand over the limit raises its alarm. Where the spec leaves a choice it follows log entries 88 and 90.
Where the spec leaves a choice it follows log entries 88, 89 and 90. -/
def Obligations.DramStatesComplete : Prop :=
  (∀ (s : State) (k value : Nat), k < 16 → s.boardRate = 1 → (s.dch k).m = 1 →
    ∃ t, exec (.mr4Read k value 1) s = .next t ∧ t.nat (0x1810 + k) 2 = value % 256 ∧
      t.dch k = { s.dch k with mr4 := (1, (s.dch k).mr4.1) } ∧ (∀ j, j ≠ k → t.dch j = s.dch j)) ∧
  (∀ (s : State) (k value : Nat), k < 16 → (s.dch k).state = 2 → (s.dch k).m = 1 →
    ∃ t, exec (.mr4Read k value 2) s = .next t ∧ t.nat (0x1810 + k) 2 = value % 256 ∧
      (t.dch k).m = 2 ∧ (t.dch k).forbid = true ∧ (t.dch k).credit = 0 ∧ (t.dch k).debt = 0 ∧
      (t.dch k).owed = 2 * (s.dch k).debt ∧ (t.dch k).owing = (s.dch k).owing ++ (s.dch k).owing ∧
      (t.dch k).state = (if (s.dch k).debt = 0 then 2 else 6) ∧ t.nat 0x1801 4 = 1 ∧
      (∀ j, j ≠ k → t.dch j = s.dch j)) ∧
  (∀ (s : State) (temp : Int), s.num 0x1800 9 ≤ temp →
    ∃ t, exec (.boardTemperatureChange temp) s = .next t ∧ t.board = temp ∧
      (∀ k, k < 16 → (s.dch k).state = 2 → (s.dch k).m = 1 → (t.dch k).m = 2 ∧ (t.dch k).forbid = true ∧
        (t.dch k).credit = 0 ∧ (t.dch k).debt = 0 ∧ (t.dch k).owed = 2 * (s.dch k).debt) ∧
      (∀ k, 16 ≤ k → t.dch k = s.dch k)) ∧
  (∀ (s : State) (k : Nat), k < 16 → (s.dch k).state = 6 → (s.dch k).owed = 0 → (s.dch k).m = max (s.dch k).mr4.1 s.boardRate →
    ∃ t, exec (.debtPaymentComplete k) s = .next t ∧ t.dch k = { s.dch k with state := 2, paying := 0 } ∧
      t.nat 0x1801 6 = (s.nat 0x1801 6 + 1) % 4294967296 ∧ (∀ j, j ≠ k → t.dch j = s.dch j)) ∧
  (∀ (s : State) (k : Nat), k < 16 → (s.dch k).state = 6 → (s.dch k).owed = 0 → (s.dch k).m = 2 → (s.dch k).mr4.1 = 4 →
    ∃ t, exec (.debtPaymentComplete k) s = .next t ∧ (t.dch k).m = 4 ∧ (t.dch k).forbid = true ∧ (t.dch k).debt = 0 ∧
      (t.dch k).owed = 2 * (s.dch k).debt ∧ bit (t.nat 0x1801 3) 2 = true) ∧
  (∀ (s : State) (k rank : Nat), k < 16 → rank < 2 → (s.dch k).state = 2 → s.nat 0x1800 6 ≠ 0 → rank < max 1 s.dramCfg.2.1 →
    s.nat 0x1800 6 ≤ tgetD (s.dch k).idle rank 0 → (s.dch k).rankLoad rank = 0 → rank ∉ (s.dch k).down →
    ∃ t, exec (.powerDownEntry k rank) s = .next t ∧ t.dch k = { s.dch k with down := (s.dch k).down ++ [rank] } ∧
      (∀ j, j ≠ k → t.dch j = s.dch j)) ∧
  (∀ (s : State) (q : Nat), q < 4 → s.mode = .service ∨ s.mode = .hold →
    ∃ t, exec (.selfRefreshWake q) s = .next t ∧ t.mode = s.mode ∧
      (∀ k, k / 4 = q → (s.dch k).state = 4 → t.dch k = { s.dch k with state := 2, debt := 0, credit := 0, owing := [], woke := s.now }) ∧
      t.cs = (s.resumeScans q).cs ∧
      (∀ k, k / 4 ≠ q → t.dch k = s.dch k)) ∧
  (∀ (s : State) (q : Nat), q < 4 → s.mode = .service ∨ s.mode = .hold →
    (∀ k, k / 4 = q → (s.dch k).load = 0 ∧ (s.dch k).woke + 1000000 ≤ s.now) →
    ∃ t, exec (.selfRefreshReentry q) s = .next t ∧ t.mode = s.mode ∧
      (∀ k, k / 4 = q → (s.dch k).state = 2 → t.dch k = { s.dch k with state := 4, debt := 0, credit := 0, owing := [], down := [] }) ∧
      (∀ k, k / 4 ≠ q → t.dch k = s.dch k)) ∧
  (∀ (s : State) (k : Nat) (drift : Int), k < 16 → (s.dch k).state = 2 → drift.natAbs < s.nat 0x1800 0x0B →
    ∃ t, exec (.oscillatorRun k drift) s = .next t ∧ t.num (0x1810 + k) 3 = clampInt (-32768) 32767 drift ∧ t.tt = s.tt ∧
      t.dram = s.dram) ∧
  (∀ (s : State) (k d : Nat) (drift : Int), k < 16 → (s.dch k).state = 2 → s.nat 0x1800 0x0B ≤ drift.natAbs →
    (s.dch k).window = false → s.windowSlot k 100000 = some d → 2 < s.tt.length →
    ∃ t, exec (.oscillatorRun k drift) s = .next t ∧ t.num (0x1810 + k) 3 = clampInt (-32768) 32767 drift ∧
      t.dch k = { s.dch k with window := true } ∧ (∃ e ∈ t.ttl 2, e.due = d ∧ e.kind = 9 ∧ e.target = k) ∧
      d * 100 % 1000000 = 62500 * k % 1000000 ∧ s.now + 100000 ≤ d * 100) ∧
  (∀ (s : State) (demand : List Nat), demand.length = 4 →
    ∃ t, exec (.demandMeasurement demand) s = .next t ∧
      (∀ q, q < 4 → t.num 0x1802 (5 + q) = max (s.num 0x1802 (5 + q)) (demand.getD q 0 : Nat)) ∧
      bit (t.nat 0x1801 3) 0 = (bit (s.nat 0x1801 3) 0 || demand.any (fun d => decide (s.demandLimit < d * 100))) ∧
      t.dram = s.dram)

/-! The clocks (R527–R547) -/

/-- The reference commands complete (R535–R538, R544): a glitch is filtered and counted, and returns a re-acquisition to
HOLDOVER; a stop or a rate change takes the root to HOLDOVER and restarts a qualification; a reference that has qualified
within ±100 ppm is re-acquired, from HOLDOVER with its phase error noted, without lock where the outputs run, and one outside
it is counted out of range. -/
def Obligations.ReferencesComplete : Prop :=
  (∀ s : State, s.clk.state = 2 →
    ∃ t, exec .referenceGlitch s = .next t ∧ t.nat 0x1601 6 = (s.nat 0x1601 6 + 1) % 4294967296 ∧
      t.clk = { s.clk with glitches := t.clk.glitches }) ∧
  (∀ s : State, s.clk.state = 4 →
    ∃ t, exec .referenceGlitch s = .next t ∧ t.nat 0x1601 6 = (s.nat 0x1601 6 + 1) % 4294967296 ∧ t.clk.state = 3 ∧
      t.clk.ref = 4 ∧ t.clk.since = s.now ∧ t.nat 0x1601 7 = (s.nat 0x1601 7 + 1) % 4294967296) ∧
  (∀ s : State, s.clk.state = 3 ∨ s.clk.state = 0 →
    ∃ t, exec .referenceGlitch s = .next t ∧ t.nat 0x1601 6 = (s.nat 0x1601 6 + 1) % 4294967296 ∧ t.clk.state = s.clk.state ∧
      t.clk.ref = 1 ∧ t.clk.qualFrom = some s.now ∧ t.clk.since = s.clk.since) ∧
  (∀ (s : State) (kind : Nat), kind = 1 ∨ kind = 2 → s.clk.state = 2 ∨ s.clk.state = 4 →
    ∃ t, exec (.referenceStop kind) s = .next t ∧ t.clk.state = 3 ∧ t.clk.cause = kind ∧ t.clk.since = s.now ∧
      t.clk.ref = (if kind = 2 then 1 else 0) ∧ t.clk.qualFrom = some s.now ∧
      t.clk.alarm = false ∧ t.clk.bypass = s.clk.bypass ∧ t.clk.nominal = s.clk.nominal ∧
      t.nat 0x1601 7 = (s.nat 0x1601 7 + 1) % 4294967296 ∧ t.mode = s.mode ∧ t.tb = s.tb) ∧
  (∀ (s : State) (kind : Nat), kind = 1 ∨ kind = 2 → s.clk.state = 3 →
    ∃ t, exec (.referenceStop kind) s = .next t ∧ t.clk = { s.clk with qualFrom := some s.now, ref := if kind = 2 then 1 else 0 } ∧
      t.od = s.od) ∧
  (∀ (s : State) (kind : Nat), kind = 1 ∨ kind = 2 → s.clk.state = 0 ∨ s.clk.state = 1 →
    ∃ t, exec (.referenceStop kind) s = .next t ∧
      t.clk = { s.clk with state := 0, qualFrom := some s.now, ref := if kind = 2 then 1 else 0 } ∧ t.od = s.od) ∧
  (∀ (s : State) (offset phase : Int), s.qualified = true → s.clk.state = 3 → offset.natAbs ≤ 100000 →
    ∃ t, exec (.referenceQualified offset phase) s = .next t ∧ t.clk.state = 4 ∧ t.clk.ref = 2 ∧ t.num 0x1601 5 = phase ∧
      t.nat 0x1601 8 = (s.nat 0x1601 8 + 1) % 4294967296 ∧ t.mode = s.mode ∧ t.tb = s.tb) ∧
  (∀ (s : State) (offset phase : Int), s.qualified = true → s.clk.state = 3 → 100000 < offset.natAbs →
    ∃ t, exec (.referenceQualified offset phase) s = .next t ∧ t.clk.state = 3 ∧ t.clk.ref = 3 ∧
      t.nat 0x1601 0x0A = (s.nat 0x1601 0x0A + 1) % 4294967296) ∧
  (∀ (s : State) (offset phase : Int), s.qualified = true → s.clk.state = 0 → offset.natAbs ≤ 100000 →
    ∃ t, exec (.referenceQualified offset phase) s = .next t ∧ t.clk.state = (if s.clk.stopped = true then 0 else 1) ∧ t.clk.ref = 2 ∧
      t.num 0x1601 3 = offset)

/-- The root's own commands complete (R534, R536, R538, R540–R543): it locks from a re-acquisition, and from an acquisition
with every output swapped to its nominal divisor and the bypass clock left, and the PLL and REFERENCE causes clear (R38); on
loss of lock it stops, the control domain runs on the bypass clock in FREE_RUN, every NET port and lane is down, every rank
is in self-refresh and the device is in SAFE; on the bypass clock an acquisition is attempted every 10 ms; the holdover alarm
is raised after the alarm time. Where the spec leaves a choice it follows log entry 91. -/
def Obligations.RootClockComplete : Prop :=
  (∀ s : State, s.clk.state = 4 →
    ∃ t, exec .rootLocked s = .next t ∧ t.clk.state = 2 ∧ t.clk.alarm = false ∧ t.clk.staged = [] ∧
      t.clk.nominal = s.clk.nominal ∧ t.clk.bypass = s.clk.bypass ∧ t.tb = s.tb ∧ t.mode = s.mode ∧
      bit (t.nat 0x1002 3) 0 = false ∧ bit (t.nat 0x1002 3) 6 = false) ∧
  (∀ s : State, s.clk.state = 1 →
    ∃ t, exec .rootLocked s = .next t ∧ t.clk.state = 2 ∧ t.clk.bypass = false ∧ t.clk.nominal = 63 ∧ t.clk.stopped = false ∧
      t.clk.staged = [] ∧ (∀ k, k < 6 → t.nat (0x1610 + k) 3 = nominalDivisor k) ∧
      t.nat 0x1601 2 = detectorKHz (s.nat 0x1600 1) (s.nat 0x1600 2) ∧ t.mode = s.mode ∧
      bit (t.nat 0x1002 3) 0 = false ∧ bit (t.nat 0x1002 3) 6 = false) ∧
  (∀ (s : State) (cause : Nat) (phase : Int), cause = 3 ∨ cause = 4 ∨ cause = 5 → s.clk.state = 2 ∨ s.clk.state = 4 →
    (∀ m ∈ [Mode.dormant, Mode.starting, Mode.ret, Mode.safe], s.mode ≠ m) → s.outranked 4 = false →
    ∃ t, exec (.lossOfLock cause phase) s = .next t ∧ t.clk.state = 0 ∧ t.clk.bypass = true ∧ t.clk.cause = cause ∧
      t.clk.stopped = true ∧ t.clk.nominal = 0 ∧ t.mode = .safe ∧ t.nat 0x1001 7 = 0x0A ∧ t.tbState = 0 ∧
      t.nat 0x1601 9 = (s.nat 0x1601 9 + 1) % 4294967296 ∧ (∀ k, k < 6 → t.nat (0x1610 + k) 3 = relockDivisor k) ∧
      (∀ k, k < 4 → t.flag (0x1A00 + k) 10 = false) ∧ (∀ k, k < 48 → (t.laneAt k).rx = 0 ∧ (t.laneAt k).tx = 0) ∧
      (∀ k c, tget t.dram k = some c → c.state = 0 ∨ c.state = 4 ∨ c.state = 7)) ∧
  (∀ (s : State) (cause : Nat) (phase : Int), cause = 4 ∨ cause = 5 → s.clk.state = 3 →
    (∀ m ∈ [Mode.dormant, Mode.starting, Mode.ret, Mode.safe], s.mode ≠ m) → s.outranked 4 = false →
    ∃ t, exec (.lossOfLock cause phase) s = .next t ∧ t.clk.state = 0 ∧ t.clk.ref = s.clk.ref ∧ t.clk.cause = cause ∧
      t.mode = .safe) ∧
  (∀ s : State, s.clk.bypass = true → s.clk.state = 0 → s.clk.tried + 10000000 ≤ s.now →
    exec .bypassAcquisitionAttempt s =
      .next { s with clk := { s.clk with tried := s.now, state := if s.clk.ref = 2 then 1 else 0 } }) ∧
  (∀ s : State, s.clk.state = 3 → s.clk.alarm = false → s.clk.since + s.nat 0x1600 4 * 1000000000 ≤ s.now →
    s.bb.queue.length < 64 →
    ∃ t e, exec .holdoverAlarm s = .next t ∧ t.clk = { s.clk with alarm := true } ∧ t.bb.queue = s.bb.queue ++ [e] ∧
      e.code = 0x0D ∧ e.v = [s.holdoverMs] ∧ t.od = s.od)

/-! Frames: what each command leaves as it is -/

/-- A command that takes the machine on leaves the modes, the sessions, stage sets and timetable, the writes that wait for a
tick, the instants of measured values, the black box, the Lodge, the keys and fuses and the host rings as they are, but for
those that `touches` names for it (R22, R43, R47, R51, R104, R283, R373, R549, R569, R594, R633). -/
def Obligations.ControlFrames : Prop :=
  ∀ (c : Instr) (s t : State) (p : Part),
    p ∈ [.free, .mode, .moving, .held, .ctl, .sets, .armings, .soon, .undo, .acted, .meas, .tt, .ring, .msix, .bb, .lodge, .sec] →
    p ∉ touches c →
    exec c s = .next t → p.same s t

/-- A command that takes the machine on leaves the channels, the Mews, the flows, the decoders, the return video, the audio,
the Turnstile and the counters, and the DRAM with every byte of its memory, as they are, but for those that `touches` names
for it (R9, R63, R185, R225, R310, R392, R508, R606, R617, R627). -/
def Obligations.MediaFrames : Prop :=
  ∀ (c : Instr) (s t : State) (p : Part),
    p ∈ [.chan, .mews, .flow, .dec, .ret, .audio, .cs, .perf, .dram, .dramCfg, .board, .dramMem] → p ∉ touches c →
    exec c s = .next t → p.same s t

/-- A command that takes the machine on leaves the lanes and ports, the test port, the clock, the Timebase with PTP, captures
and triggers, the cluster and the pair as they are, but for those that `touches` names for it (R327, R340, R434, R437, R445,
R469, R539). -/
def Obligations.LinkAndTimeFrames : Prop :=
  ∀ (c : Instr) (s t : State) (p : Part),
    p ∈ [.lane, .cw, .net, .clk, .tb, .ptp, .cap, .trig, .cluster, .pair, .jtag] → p ∉ touches c →
    exec c s = .next t → p.same s t

/-- A command that takes the machine on leaves the object dictionary as it is where `touches` does not name it, and every
object outside the ranges of `registers` where that names any (R43, R85, R88). -/
def Obligations.RegisterFrames : Prop :=
  (∀ (c : Instr) (s t : State), .od ∉ touches c → exec c s = .next t → t.od = s.od) ∧
  (∀ (c : Instr) (s t : State) (l : List (Nat × Nat)) (i j : Nat), registers c = some l → j < 256 →
    (∀ r ∈ l, i < r.1 ∨ r.2 < i) → exec c s = .next t → odGet t.od i j = odGet s.od i j)

/-! Rules of the specification, each stated whole -/

/-- R28. OD 0x1001.06 reads 2 while a transition is executing, 1 while one is armed, and 0 otherwise; a mode request staged while it
reads other than 0 is refused with BUSY. -/
def Obligations.TransitionStateAndModeRequests : Prop :=
  (∀ (s : State) (h : ReqHdr) (x : Session),
    Accepts s h { code := 0x10, req := .read (bareHdr h) [⟨0x1001, 6⟩], objs := [⟨0x1001, 6⟩], open_ := true } x →
    s.may ⟨x.cls, x.cred, x.perms, none⟩ false 0x1001 6 = .ok →
    ∃ t, exec (.read h [⟨0x1001, 6⟩]) s = .next t ∧
      Replies t h x 0x10 .ok (leBytes 1 1 ++ zeros 3 ++ readEntry .ok s.now
        [if s.moving.isSome then 2 else if ∃ k ∈ setNumbers, (s.set k).armed = true ∧ (s.set k).modeWrite.isSome = true then 1
         else 0])) ∧
  (∀ (s : State) (h : ReqHdr) (x : Session) (k len : Nat) (v : Val),
    Accepts s h { code := 0x21, req := .stage (bareHdr h) k [⟨⟨0x1001, 2⟩, len, v⟩], objs := [⟨0x1001, 2⟩], writes := true } x →
    s.mayUse ⟨x.cls, x.cred, x.perms, none⟩ 1 0x1001 = true → s.stageSet h.session k = .ok →
    s.entryCode ⟨x.cls, x.cred, x.perms, none⟩ 0x1001 2 len v true false = .ok → 2 ≤ x.cls →
    s.moving.isSome = true ∨ (∃ j ∈ setNumbers, (s.set j).armed = true ∧ (s.set j).modeWrite.isSome = true) →
    ∃ t, exec (.stage h k [⟨⟨0x1001, 2⟩, len, v⟩]) s = .next t ∧ t.sets = s.sets ∧
      Replies t h x 0x21 .ok (statusWords [.busy]))

/-- R60. A host abort of an armed set succeeds before the ready point of the set's current target, 100 µs before it (R59); a
later one is refused with LATE, and the set, its target and its entries of the timetable stand as they are. -/
def Obligations.AbortsBeforeTheReadyPoint : Prop :=
  (∀ (s : State) (h : ReqHdr) (x : Session) (k : Nat), Accepts s h { code := 0x24, req := .abort (bareHdr h) k } x →
    s.mayUse ⟨x.cls, x.cred, x.perms, none⟩ 1 0x1001 = true → s.holdsArmed h.session k = true →
    (s.set k).readyPassed = false → (s.set k).report = 0 → s.now + 100000 < (s.set k).due →
    ∃ t, exec (.abort h k) s = .next t ∧ (t.set k).state = 6 ∧ (t.set k).result = .aborted) ∧
  (∀ (s : State) (h : ReqHdr) (x : Session) (k : Nat), Accepts s h { code := 0x24, req := .abort (bareHdr h) k } x →
    s.mayUse ⟨x.cls, x.cred, x.perms, none⟩ 1 0x1001 = true → s.holdsArmed h.session k = true →
    (s.set k).readyPassed = true ∨ (s.set k).due ≤ s.now + 100000 →
    ∃ t, exec (.abort h k) s = .next t ∧ t.sets = s.sets ∧ t.tt = s.tt ∧ t.armings = s.armings ∧ t.od = s.od ∧
      Replies t h x 0x24 .late [])

/-- R98. CLEAR_STORE invalidates both slots and changes no value in force; a STARTING that finds no slot gives every stored
object its default. -/
def Obligations.ClearStoreInvalidatesBothSlots : Prop :=
  (∀ (s : State) (h : ReqHdr) (x : Session), Accepts s h { code := 0x61, req := .clearStore (bareHdr h) } x →
    s.mayUse ⟨x.cls, x.cred, x.perms, none⟩ 2 0x1104 = true → s.ctl.storing = none →
    ∃ t, exec (.clearStore h) s = .next t ∧ t.ctl.slotA = none ∧ t.ctl.slotB = none ∧ t.od = s.od) ∧
  (∀ s : State, s.lodge.powered = true → s.lodge.held = false → s.ctl.slotA = none → s.ctl.slotB = none →
    ∃ t, exec .pinReset s = .next t ∧ t.mode = .starting ∧
      ∀ i j, j < 256 → storedObject i j = true → odGet t.od i j = odDefault i j) ∧
  (∀ (s t : State) (c : Instr),
    ((∃ p, c = .vinPowerOn p) ∨ (∃ p, c = .lodgeReset p) ∨ (∃ n, c = .watchdogExpiry n) ∨ ∃ h v, c = .warmReset h v) →
    s.ctl.slotA = none → s.ctl.slotB = none → s.mode ≠ .starting → exec c s = .next t → t.mode = .starting →
    ∀ i j, j < 256 → storedObject i j = true → odGet t.od i j = odDefault i j)

/-- R512. A rise of a channel's rate state forbids postponement and pull-in, and they stay forbidden while it has not fallen
again, so that no refresh is postponed or pulled in: an owed one is issued in the first cycle in which no rule before it
yields a command; it falls only when the board input reads below the threshold less the hysteresis and the two latest MR4
reads report a lower rate, one step at a time, with debt and credit unchanged. -/
def Obligations.RatesFallUnderBothConditions : Prop :=
  (∀ (s t : State) (k : Nat) (c : Instr),
    ((∃ d v r, c = .mr4Read d v r) ∨ (∃ b, c = .boardTemperatureChange b) ∨ ∃ d, c = .debtPaymentComplete d) →
    exec c s = .next t →
    ((s.dch k).m < (t.dch k).m → (t.dch k).forbid = true) ∧
    ((t.dch k).m = (s.dch k).m → (s.dch k).forbid = true → (t.dch k).forbid = true) ∧
    ((t.dch k).m < (s.dch k).m →
      t.board < s.num 0x1800 9 - s.num 0x1800 0x0A ∧ (t.dch k).mr4.1 < (s.dch k).m ∧ (t.dch k).mr4.2 < (s.dch k).m ∧
      (t.dch k).m = (s.dch k).m / 2 ∧ (t.dch k).debt = (s.dch k).debt ∧ (t.dch k).credit = (s.dch k).credit ∧
      ((t.dch k).m = 1 → (t.dch k).forbid = false))) ∧
  (∀ (s t : State) (k : Nat) (c : Instr),
    ((∃ r b, c = .refreshDue k r b) ∨ ∃ l m f, c = .dramCommandCycle k l m f) → (s.dch k).forbid = true →
    exec c s = .next t →
    (t.dch k).forbid = true ∧ (t.dch k).m = (s.dch k).m ∧ (t.dch k).credit ≤ (s.dch k).credit) ∧
  (∀ (s : State) (k timed b : Nat) (rfm : Bool), k < 16 → (s.dch k).state = 2 → (s.dch k).forbid = true →
    (s.dch k).fabric = [] → (s.dch k).inWindow s.now = false → (s.dch k).column s.dramCfg timed = none →
    (s.dch k).activate timed (max 1 s.dramCfg.2.1) = none → (s.dch k).precharge s.dramCfg (s.nat 0x1800 7) timed = none →
    s.refreshUnit ≤ (s.dch k).debt → (s.dch k).nextRefresh timed s.refreshUnit (fun _ => true) = some b →
    ∃ t, exec (.dramCommandCycle k [] timed rfm) s = .next t ∧
      (t.dch k).cmd = some (if 128 < (s.dch k).debt then 2 else 6, b) ∧
      (t.dch k).debt = (s.dch k).debt - s.refreshUnit)

/-- R537. In HOLDOVER a returned reference qualifies once it has run for the qualification time of OD 0x1600.03 within ±100
ppm of the frozen frequency, and not before; a glitch or a stop restarts the time; one that runs for the time outside ±100
ppm is reported out of range, and the root stays in HOLDOVER. -/
def Obligations.ReferencesQualify : Prop :=
  (∀ (s : State) (t0 : Nat) (offset phase : Int), s.clk.state = 3 → s.clk.qualFrom = some t0 →
    t0 + s.nat 0x1600 3 * 1000000 ≤ s.now → -100000 ≤ offset → offset ≤ 100000 →
    ∃ t, exec (.referenceQualified offset phase) s = .next t ∧ t.clk.ref = 2 ∧ t.clk.state = 4) ∧
  (∀ (s : State) (t0 : Nat) (offset phase : Int), s.clk.state = 3 → s.clk.qualFrom = some t0 →
    s.now < t0 + s.nat 0x1600 3 * 1000000 → exec (.referenceQualified offset phase) s = .next s) ∧
  (∀ s : State, s.clk.state = 3 →
    ∃ t, exec .referenceGlitch s = .next t ∧ t.clk.state = 3 ∧ t.clk.qualFrom = some s.now) ∧
  (∀ s : State, s.clk.state = 3 →
    ∃ t, exec (.referenceStop 1) s = .next t ∧ t.clk.state = 3 ∧ t.clk.qualFrom = some s.now) ∧
  (∀ (s : State) (t0 : Nat) (offset phase : Int), s.clk.state = 3 → s.clk.qualFrom = some t0 →
    t0 + s.nat 0x1600 3 * 1000000 ≤ s.now → offset < -100000 ∨ 100000 < offset →
    ∃ t, exec (.referenceQualified offset phase) s = .next t ∧ t.clk.ref = 3 ∧ t.clk.state = 3 ∧
      t.nat 0x1601 0x0A = (s.nat 0x1601 0x0A + 1) % 4294967296 ∧ t.clk.qualFrom = some s.now)
end

