-- ==== Sys2Proof/Laws/Tables.lean ====
section
/-! SUPPORT. Laws/Tables.lean: what tables, the object dictionary, the device memory and the timetable answer after a change,
and that their operations keep the canonical forms. -/

namespace Sys2Proof.Machine

/-! Tables -/

@[simp] theorem tget_nil {α : Type} (k : Nat) : tget ([] : Tab α) k = none := rfl

theorem tget_cons {α : Type} (a : Nat) (w : α) (r : Tab α) (k : Nat) :
    tget ((a, w) :: r) k = if a = k then some w else tget r k := rfl

/-- What is found stands in the table, under its key. -/
theorem tget_find {α : Type} {t : Tab α} {k : Nat} {x : α} (h : tget t k = some x) : ∃ kv ∈ t, kv.1 = k ∧ kv.2 = x := by
  induction t with
  | nil => cases h
  | cons a r ih =>
    rw [tget_cons] at h
    split at h
    · exact ⟨a, List.mem_cons_self .., ‹_›, by simpa using h⟩
    · obtain ⟨kv, hk, e⟩ := ih h
      exact ⟨kv, List.mem_cons_of_mem _ hk, e⟩

/-- The entry just set is the one found. -/
@[simp] theorem tget_tset_same {α : Type} (t : Tab α) (k : Nat) (v : α) : tget (tset t k v) k = some v := by
  induction t with
  | nil => simp [tset, tget]
  | cons a r ih =>
    obtain ⟨a, w⟩ := a
    by_cases h1 : k < a
    · simp [tset, h1, tget]
    · by_cases h2 : k = a
      · simp [tset, h2, tget]
      · simp [tset, h1, h2, tget, ih, Ne.symm h2]

/-- The other entries are as they were. -/
theorem tget_tset_ne {α : Type} (t : Tab α) {k j : Nat} (v : α) (h : j ≠ k) : tget (tset t k v) j = tget t j := by
  induction t with
  | nil => simp [tset, tget, Ne.symm h]
  | cons a r ih =>
    obtain ⟨a, w⟩ := a
    by_cases h1 : k < a
    · simp [tset, h1, tget, Ne.symm h]
    · by_cases h2 : k = a
      · subst h2; simp [tset, tget, Ne.symm h]
      · simp only [tset, h1, h2, if_false, tget, ih]

theorem tget_tset {α : Type} (t : Tab α) (k j : Nat) (v : α) :
    tget (tset t k v) j = if j = k then some v else tget t j := by
  split
  · next h => subst h; simp
  · next h => exact tget_tset_ne t v h

/-- A removed entry is gone. -/
@[simp] theorem tget_tdel_same {α : Type} (t : Tab α) (k : Nat) : tget (tdel t k) k = none := by
  induction t with
  | nil => rfl
  | cons a r ih =>
    obtain ⟨a, w⟩ := a
    by_cases h : a = k
    · simp only [tdel, List.filter_cons, h, bne_self_eq_false, Bool.false_eq_true, if_false]; exact ih
    · simp only [tdel, List.filter_cons, bne_iff_ne, ne_eq, h, not_false_eq_true, if_true, tget, if_false]; exact ih

theorem tget_tdel_ne {α : Type} (t : Tab α) {k j : Nat} (h : j ≠ k) : tget (tdel t k) j = tget t j := by
  induction t with
  | nil => rfl
  | cons a r ih =>
    obtain ⟨a, w⟩ := a
    by_cases h2 : a = k
    · subst h2
      simp only [tdel, List.filter_cons, bne_self_eq_false, Bool.false_eq_true, if_false, tget, if_neg (Ne.symm h)]; exact ih
    · by_cases h3 : a = j
      · subst h3
        simp only [tdel, List.filter_cons, bne_iff_ne, ne_eq, h2, not_false_eq_true, if_true, tget]
      · simp only [tdel, List.filter_cons, bne_iff_ne, ne_eq, h2, not_false_eq_true, if_true, tget, if_neg h3]; exact ih

/-- The later of two settings of an entry stands. -/
@[simp] theorem tset_tset {α : Type} (t : Tab α) (k : Nat) (v w : α) : tset (tset t k v) k w = tset t k w := by
  induction t with
  | nil => simp [tset]
  | cons a r ih =>
    obtain ⟨a, u⟩ := a
    by_cases h1 : k < a
    · simp [tset, h1]
    · by_cases h2 : k = a
      · simp [tset, h2]
      · simp [tset, h1, h2, ih]

/-! Canonical forms -/

/-- Keys that rise from each to the next rise throughout. -/
theorem tabWf_iff {α : Type} (t : Tab α) : tabWf t = true ↔ t.Pairwise (fun a b => a.1 < b.1) := by
  induction t with
  | nil => simp [tabWf]
  | cons a r ih =>
    cases r with
    | nil => simp [tabWf]
    | cons b r =>
      simp only [tabWf, Bool.and_eq_true, decide_eq_true_eq, ih, List.pairwise_cons]
      constructor
      · rintro ⟨h, p⟩
        refine ⟨fun c hc => ?_, p⟩
        rcases List.mem_cons.1 hc with rfl | hc
        · exact h
        · exact Nat.lt_trans h (p.1 c hc)
      · rintro ⟨h, p⟩
        exact ⟨h b (by simp), p⟩

/-- An entry of a changed table is the new one or was there before. -/
theorem mem_tset {α : Type} {t : Tab α} {k : Nat} {v : α} {x : Nat × α} (h : x ∈ tset t k v) : x = (k, v) ∨ x ∈ t := by
  induction t with
  | nil => simpa [tset] using h
  | cons a r ih =>
    obtain ⟨a, w⟩ := a
    by_cases h1 : k < a
    · simpa [tset, h1] using h
    · by_cases h2 : k = a
      · simp only [tset, h2, Nat.lt_irrefl, if_false, if_true, List.mem_cons] at h
        rcases h with h | h
        · exact Or.inl (h2 ▸ h)
        · exact Or.inr (List.mem_cons_of_mem _ h)
      · simp only [tset, h1, h2, if_false, List.mem_cons] at h
        rcases h with h | h
        · exact Or.inr (h ▸ List.mem_cons_self ..)
        · exact (ih h).imp_right (List.mem_cons_of_mem _)

/-- Setting an entry keeps the keys rising. -/
theorem tabWf_tset {α : Type} {t : Tab α} {k : Nat} {v : α} (h : tabWf t = true) : tabWf (tset t k v) = true := by
  rw [tabWf_iff] at *
  induction t with
  | nil => simp [tset]
  | cons a r ih =>
    obtain ⟨a, w⟩ := a
    rw [List.pairwise_cons] at h
    by_cases h1 : k < a
    · simp only [tset, h1, if_true]
      refine List.pairwise_cons.2 ⟨fun b hb => ?_, List.pairwise_cons.2 h⟩
      rcases List.mem_cons.1 hb with rfl | hb
      · exact h1
      · exact Nat.lt_trans h1 (h.1 b hb)
    · by_cases h2 : k = a
      · subst h2; simp only [tset, Nat.lt_irrefl, if_false, if_true]; exact List.pairwise_cons.2 ⟨h.1, h.2⟩
      · simp only [tset, h1, h2, if_false]
        refine List.pairwise_cons.2 ⟨fun b hb => ?_, ih h.2⟩
        rcases mem_tset hb with rfl | hb
        · exact Nat.lt_of_le_of_ne (Nat.le_of_not_lt h1) (Ne.symm h2)
        · exact h.1 b hb

/-- Entries taken out keep the keys rising. -/
theorem tabWf_filter {α : Type} {t : Tab α} {p : Nat × α → Bool} (h : tabWf t = true) : tabWf (t.filter p) = true := by
  rw [tabWf_iff] at *; exact h.sublist List.filter_sublist

/-- Setting an object keeps the dictionary's canonical form. -/
theorem odWf_odPut {t : Tab Val} {i j : Nat} {v : Val} (h : odWf t) : odWf (odPut t i j v) := by
  simp only [odPut]
  split
  · exact ⟨tabWf_filter h.1, fun kv m => h.2 kv (List.mem_filter.1 m).1⟩
  · next hv =>
    refine ⟨tabWf_tset h.1, fun kv m => ?_⟩
    rcases mem_tset m with rfl | m
    · exact hv
    · exact h.2 kv m

theorem odWf_odSet {t : Tab Val} {i j : Nat} {v : Int} (h : odWf t) : odWf (odSet t i j v) := odWf_odPut h
theorem odWf_odSetFlag {t : Tab Val} {i j k : Nat} (h : odWf t) : odWf (odSetFlag t i j k) := odWf_odPut h
theorem odWf_odCount {t : Tab Val} {i j a b k l n : Nat} (h : odWf t) : odWf (odCount t i j a b k l n) := by
  simp only [odCount]; split
  · exact odWf_odPut h
  · exact odWf_odPut (odWf_odPut h)
theorem odWf_odApply {t w : Tab Val} (h : odWf t) : odWf (odApply t w) := by
  unfold odApply
  induction w generalizing t with
  | nil => exact h
  | cons x r ih => exact ih (odWf_odPut h)
theorem odWf_filter {t : Tab Val} {p : Nat × Val → Bool} (h : odWf t) : odWf (t.filter p) :=
  ⟨tabWf_filter h.1, fun kv m => h.2 kv (List.mem_filter.1 m).1⟩

/-- The one operation on device memory, bytes left as power-on left them again, keeps its canonical form. -/
theorem Memory.wf_filter {t : Tab Byte} {p : Nat × Byte → Bool} (h : Memory.wf t) : Memory.wf (t.filter p) :=
  ⟨tabWf_filter h.1, fun kv m => h.2 kv (List.mem_filter.1 m).1⟩

theorem Memory.wf_nil : Memory.wf [] := by simp [Memory.wf, tabWf]

/-! The object dictionary -/

/-- The key of an object gives its index and subindex back. -/
theorem okey_div {i j : Nat} (h : j < 256) : okey i j / 256 = i := by unfold okey; omega
theorem okey_mod {i j : Nat} (h : j < 256) : okey i j % 256 = j := by unfold okey; omega
theorem okey_inj {i j a b : Nat} (h : j < 256) (k : b < 256) : okey i j = okey a b ↔ i = a ∧ j = b := by
  unfold okey; omega

/-- An object reads as it was last set. -/
theorem odGet_odPut_same (t : Tab Val) {i j : Nat} (v : Val) (h : j < 256) : odGet (odPut t i j v) i j = v := by
  unfold odGet odPut
  simp only [okey_div h, okey_mod h]
  split
  · next e => simp [e]
  · simp

/-- The other objects read as before. -/
theorem odGet_odPut_ne (t : Tab Val) {i j a b : Nat} (v : Val) (h : okey a b ≠ okey i j) :
    odGet (odPut t i j v) a b = odGet t a b := by
  unfold odGet odPut
  simp only
  split
  · rw [tget_tdel_ne _ h]
  · rw [tget_tset_ne _ _ h]

theorem odNat_odSet_same (t : Tab Val) {i j : Nat} (v : Int) (h : j < 256) : odNat (odSet t i j v) i j = v.toNat := by
  simp [odNat, odNum, odSet, odGet_odPut_same _ _ h, valInt]
theorem odNum_odSet_same (t : Tab Val) {i j : Nat} (v : Int) (h : j < 256) : odNum (odSet t i j v) i j = v := by
  simp [odNum, odSet, odGet_odPut_same _ _ h, valInt]
theorem odNum_odSet_ne (t : Tab Val) {i j a b : Nat} (v : Int) (h : okey a b ≠ okey i j) :
    odNum (odSet t i j v) a b = odNum t a b := by
  simp [odNum, odSet, odGet_odPut_ne _ _ h]
theorem odNat_odSet_ne (t : Tab Val) {i j a b : Nat} (v : Int) (h : okey a b ≠ okey i j) :
    odNat (odSet t i j v) a b = odNat t a b := by
  simp [odNat, odNum_odSet_ne _ _ h]

/-! The timetable -/

/-- An entry that goes before another is due no later, and one that does not is due no earlier (R283). -/
theorem ttBefore_le {e x : TtEntry} (h : ttBefore e x = true) : e.due ≤ x.due := by
  simp [ttBefore] at h; omega
theorem ttBefore_not {e x : TtEntry} (h : ttBefore e x = false) : x.due ≤ e.due := by
  simp [ttBefore] at h; omega

/-- An entry put in its place leaves the list in DUE order (R283). -/
theorem dueOrder_ttPlace (l : List TtEntry) (e : TtEntry) (h : dueOrder l) : dueOrder (ttPlace l e) := by
  induction l with
  | nil => simp [ttPlace, dueOrder]
  | cons x r ih =>
    unfold ttPlace
    split
    · next hx => exact ⟨ttBefore_le hx, h⟩
    · next hx =>
      have hx := ttBefore_not (by simpa using hx)
      cases r with
      | nil => exact ⟨hx, by simp [dueOrder]⟩
      | cons y r =>
        have h2 := ih h.2
        unfold ttPlace at h2 ⊢
        split
        · next hy => rw [if_pos hy] at h2; exact ⟨hx, h2⟩
        · next hy => rw [if_neg hy] at h2; exact ⟨h.1, h2⟩

end Sys2Proof.Machine
end

