-- ==== Sys2Proof/Laws/Requests.lean ====
section
/-! SUPPORT. Laws/Requests.lean: what a request does once the Gatehouse has accepted it, and what an answer leaves as it is
(R100–R106). -/

namespace Sys2Proof.Machine

@[simp] theorem leBytes_length (n v : Nat) : (leBytes n v).length = n := by
  induction n generalizing v with
  | zero => rfl
  | succ n ih => simp [leBytes, ih]
@[simp] theorem time80_length (n : Nat) : (time80 n).length = 10 := by simp [time80]
@[simp] theorem zeros_length (n : Nat) : (zeros n).length = n := by simp [zeros]
@[simp] theorem shake256_length (n : Nat) (b : List Byte) : (Config.shake256 n b).length = n := by simp [Config.shake256]

/-! Sessions -/

theorem onSession_some {s : State} {id : Nat} {x : Session} (f : Session → Session) (h : tget s.ctl.sessions id = some x) :
    s.onSession id f = { s with ctl := { s.ctl with sessions := tset s.ctl.sessions id (f x) } } := by
  simp [State.onSession, h]

theorem onSession_frame (s : State) (id : Nat) (f : Session → Session) :
    ∃ l, s.onSession id f = { s with ctl := { s.ctl with sessions := l } } := by
  unfold State.onSession
  split
  · exact ⟨_, rfl⟩
  · exact ⟨s.ctl.sessions, rfl⟩

/-- A session that is not the one changed is as it was. -/
theorem onSession_other (s : State) {id k : Nat} (f : Session → Session) (h : k ≠ id) :
    tget (s.onSession id f).ctl.sessions k = tget s.ctl.sessions k := by
  unfold State.onSession
  split
  · exact tget_tset_ne _ _ h
  · rfl

/-- The session as an accepted request finds it. -/
def Session.taken (x : Session) (h : ReqHdr) (v : Service) (now : Nat) : Session :=
  { x with rx := h.counter, lastUse := now, udp := h.udp, slots := x.slots ++ [{ ask := askOf h v }],
           kept := ((⟨askOf h v, none⟩ : Kept) :: x.kept.filter (fun k => k.ask.txid != h.txid)).take 16 }

/-- What going by a path leaves as it is. -/
@[simp] theorem going_sessions (s : State) (p : Nat) : (s.going p).ctl.sessions = s.ctl.sessions := by
  unfold State.going; split <;> rfl
@[simp] theorem going_now (s : State) (p : Nat) : (s.going p).now = s.now := by unfold State.going; split <;> rfl

/-- A session changed twice. -/
theorem onSession_twice {s : State} {id : Nat} {x : Session} (f g : Session → Session) (h : tget s.ctl.sessions id = some x) :
    (s.onSession id f).onSession id g = { s with ctl := { s.ctl with sessions := tset s.ctl.sessions id (g (f x)) } } := by
  rw [onSession_some f h, onSession_some (x := f x) g (by simp)]
  simp

theorem taken_eq {s : State} {h : ReqHdr} {v : Service} {x : Session} (hx : tget s.ctl.sessions h.session = some x) :
    s.taken h v x = { s.going h.path with ctl := { (s.going h.path).ctl with
      sessions := tset s.ctl.sessions h.session (x.taken h v s.now) } } := by
  unfold State.taken
  rw [onSession_twice _ _ (by simpa using hx), going_sessions]
  rfl

theorem taken_session {s : State} {h : ReqHdr} {v : Service} {x : Session} (hx : tget s.ctl.sessions h.session = some x) :
    tget (s.taken h v x).ctl.sessions h.session = some (x.taken h v s.now) := by rw [taken_eq hx]; simp

theorem taken_who {s : State} {h : ReqHdr} {v : Service} {x : Session} (hx : tget s.ctl.sessions h.session = some x) :
    (s.taken h v x).who h.session = ⟨x.cls, x.cred, x.perms, none⟩ := by
  unfold State.who; rw [taken_session hx]; rfl

/-- An accepted request runs its service on the machine as `State.taken` leaves it; the answer goes out at once, later if
the service gives none yet, and as TOOBIG where the path does not carry it (R103–R106). -/
theorem Accepts.run {s : State} {h : ReqHdr} {v : Service} {x : Session} (H : Accepts s h v x) (run : Nat → State → Answer) :
    s.request h v run =
      match run h.session (s.taken h v x) with
      | (some (c, b), u) =>
        if pathBody h.path < 4 + b.length then (s.taken h v x).answer (askOf h v) .toobig [] else u.answer (askOf h v) c b
      | (none, u) => u := by
  have hp : h.path ≠ 3 := by have := H.path; omega
  have hk : sessionKey h = h.session := by simp [sessionKey, hp]
  have hask : (⟨h.session, h.txid, h.node, v.code, h.path, v.req, h.udp, h.prio⟩ : Ask) = askOf h v := by simp [askOf, hk]
  have hs := taken_eq (v := v) H.session
  have hnode : (s.taken h v x).nodeCode h v = .ok := by
    rw [hs, ← H.node]; unfold State.going; split <;> rfl
  have hrel : (s.taken h v x).relays h v = false := by
    rw [hs, ← H.here]; unfold State.going; split <;> rfl
  have e1 : ¬(s.mode = .dormant ∨ s.lodge.held = true ∨ (!s.hears h) = true) := by
    simp [H.awake, H.unheld, H.heard]
  have e2 : ¬(h.version ≠ 1 ∨ pathBody h.path < h.length) := by simp [H.version, H.size]
  have e3 : ¬(h.session = 0 ∧ v.open_ = true) := fun c => H.number c.1
  have e4 : ¬((!h.auth) = true ∨ (!h.tagOk) = true) := by simp [H.auth, H.tag]
  have e5 : ¬(h.counter ≤ x.rx) := by have := H.counter; omega
  have hid : (askOf h v).session = h.session := hk
  have htx : (askOf h v).txid = h.txid := rfl
  have hserve : (s.taken h v x).serve h (askOf h v) v run =
      match run h.session (s.taken h v x) with
      | (some (c, b), u) => if pathBody h.path < 4 + b.length then (some (.toobig, []), s.taken h v x) else (some (c, b), u)
      | (none, u) => (none, u) := by
    unfold State.serve
    simp only [hnode, hrel, H.body, hid, ne_eq, not_true_eq_false, if_false, Bool.false_eq_true, Bool.not_true]
    rcases run h.session (s.taken h v x) with ⟨_ | ⟨c, b⟩, u⟩ <;> rfl
  have key : (s.going h.path).take h v run = match ((s.taken h v x).serve h (askOf h v) v run).1 with
        | some (c, b) => ((s.taken h v x).serve h (askOf h v) v run).2.answer (askOf h v) c b
        | none => ((s.taken h v x).serve h (askOf h v) v run).2 := by
    have hx0 : tget (s.going h.path).ctl.sessions h.session = some x := by simpa using H.session
    unfold State.take
    simp only [hk, hask, e2, e3, if_false, hx0, e4, e5]
    unfold State.accept
    simp only [H.fresh, H.idle, hid, htx, List.filter_nil, List.length_nil, Nat.not_le_of_lt (Nat.zero_lt_succ 7), if_false,
      going_now]
    rfl
  have e : s.request h v run = (s.going h.path).take h v run := by
    unfold State.request State.going
    rw [if_neg e1]
    by_cases h2 : h.path = 2
    · have hm := H.mailbox h2
      simp [h2, State.mailGo, hm.1, hm.2]
    · simp [h2]
  rw [e, key, hserve]
  rcases run h.session (s.taken h v x) with ⟨_ | ⟨c, b⟩, u⟩
  · rfl
  · by_cases hb : pathBody h.path < 4 + b.length <;> simp [hb]

/-! Answers -/

/-- The response to a request as it leaves. -/
def Ask.resp (a : Ask) (n : Nat) (c : Code) (b : List Byte) (auth : Bool) : Resp :=
  { service := a.service, node := a.node, txid := a.txid, session := a.session % 4294967296, counter := n,
    status := c, body := b, auth := auth, udp := replyTo a.udp, prio := a.prio }

/-- The machine after an answer has left: the session's record, the mailbox with its interrupt, and the response with the bytes
and frames that carry it. -/
def State.answered (u : State) (l : Tab Session) (k : Control) (i : Nat) (r : Resp) : State :=
  { u with msix := i, ctl := { u.ctl with sessions := l, mbx := k.mbx, wire := k.wire, frames := k.frames, sent := some r } }

/-- A response that leaves by a host's path changes the mailbox and its interrupt, and what the path last carried, only. -/
theorem send_frame (s : State) (a : Ask) (n : Nat) (c : Code) (b : List Byte) (auth : Bool) (hp : a.path ≠ 3) :
    ∃ k i, s.send a n c b auth = s.answered s.ctl.sessions k i (a.resp n c b auth) := by
  unfold State.send
  simp only [hp, if_false]
  split
  · unfold State.mailResponse State.transmit
    simp only
    split
    · exact ⟨{ mbx := _, wire := _, frames := _ }, _, rfl⟩
    · split
      · exact ⟨{ mbx := _, wire := _, frames := _ }, _, rfl⟩
      · exact ⟨{ mbx := _, wire := _, frames := _ }, _, rfl⟩
  · exact ⟨{ mbx := _, wire := _, frames := _ }, _, rfl⟩

/-- One answer that may leave, with none behind it, leaves at once (R104). -/
theorem drain_one {u : State} {id : Nat} {a : Ask} {y : Session} {ninth : Bool} (c : Code) (b : List Byte) (hp : a.path ≠ 3)
    (hy : tget u.ctl.sessions id = some y) (h2 : ¬(a.service = 2 ∧ c = .ok)) :
    ∃ m i, u.drain id [⟨a, some (c, b), ninth⟩] =
      u.answered (tset u.ctl.sessions id { y with tx := y.tx + 1, slots := [] }) m i (a.resp (y.tx + 1) c b true) := by
  simp only [State.drain, hy, Option.map_some, Option.getD_some, h2, if_false, onSession_some _ hy]
  let w : Tab Session := tset u.ctl.sessions id { y with tx := y.tx + 1 }
  obtain ⟨m, i, e⟩ := send_frame { u with ctl := { u.ctl with sessions := w } } a (y.tx + 1) c b true hp
  rw [e, onSession_some (x := { y with tx := y.tx + 1 }) _ (by exact tget_tset_same _ _ _)]
  refine ⟨m, i, ?_⟩
  simp only [State.answered, w, tset_tset]

/-- An answer to the only request of a session that is unanswered leaves at once, and changes the session, the mailbox and
its interrupt only (R104, R105). CLOSE has its own rule. -/
theorem answer_alone {u : State} {a : Ask} {x : Session} {ninth : Bool} (c : Code) (b : List Byte) (hp : a.path ≠ 3)
    (h0 : a.session ≠ 0) (hx : tget u.ctl.sessions a.session = some x) (hs : x.slots = [⟨a, none, ninth⟩]) (h2 : ¬(a.service = 2 ∧ c = .ok)) :
    ∃ m i k, u.answer a c b = u.answered (tset u.ctl.sessions a.session { x with kept := k, tx := x.tx + 1, slots := [] }) m i
      (a.resp (x.tx + 1) c b true) := by
  have hsame : a.same a = true := by simp [Ask.same]
  have hm : x.slots.map (fun w => if (w.ask.same a && w.resp.isNone) = true then { w with resp := some (c, b) } else w) =
      [⟨a, some (c, b), ninth⟩] := by simp [hs, hsame]
  unfold State.answer
  simp only [h0, if_false, hx, hm, onSession_some _ hx]
  let y : Session :=
    { x with kept := x.kept.map (fun k => if (k.ask.same a && k.resp.isNone) = true then { k with resp := some (c, b) } else k) }
  obtain ⟨m, i, e⟩ := drain_one (u := { u with ctl := { u.ctl with sessions := tset u.ctl.sessions a.session y } }) (y := y)
    (ninth := ninth) c b hp (tget_tset_same _ _ _) h2
  refine ⟨m, i, y.kept, e.trans ?_⟩
  simp only [State.answered, tset_tset]
  rfl

/-- An accepted request whose service answers and leaves the session's record with that request unanswered has its response
sent, and otherwise leaves the machine as the service did (R104–R106). -/
theorem Accepts.reply {s R : State} {h : ReqHdr} {v : Service} {x y : Session} {run : Nat → State → Answer} (H : Accepts s h v x)
    (hR : s.request h v run = R) (c : Code) (b : List Byte) (u : State)
    (hr : run h.session (s.taken h v x) = (some (c, b), u)) (hb : 4 + b.length ≤ pathBody h.path)
    (hy : tget u.ctl.sessions h.session = some y) (ht : y.tx = x.tx) (hs : y.slots = [{ ask := askOf h v }])
    (h2 : ¬(v.code = 2 ∧ c = .ok)) :
    ∃ m i k r, R = u.answered (tset u.ctl.sessions h.session { y with kept := k, tx := x.tx + 1, slots := [] }) m i r ∧
      Replies R h x v.code c b := by
  have hp : h.path ≠ 3 := by have := H.path; omega
  have hid : (askOf h v).session = h.session := by simp [askOf, sessionKey, hp]
  rw [H.run run, hr] at hR
  simp only [Nat.not_lt.2 hb, if_false] at hR
  obtain ⟨m, i, k, e⟩ := answer_alone (a := askOf h v) c b hp (by rw [hid]; exact H.number) (by rw [hid]; exact hy) hs h2
  rw [hR, hid, ht] at e
  exact ⟨m, i, k, _, e, by rw [e]; simp [Replies, State.answered, Ask.resp, askOf, sessionKey, hp]⟩

/-- Where a service leaves the sessions as it found them. -/
theorem Accepts.replySame {s R : State} {h : ReqHdr} {v : Service} {x : Session} {run : Nat → State → Answer} (H : Accepts s h v x)
    (hR : s.request h v run = R) (c : Code) (b : List Byte) (u : State)
    (hr : run h.session (s.taken h v x) = (some (c, b), u)) (hb : 4 + b.length ≤ pathBody h.path)
    (hy : u.ctl.sessions = (s.taken h v x).ctl.sessions) (h2 : ¬(v.code = 2 ∧ c = .ok)) :
    ∃ m i l r, R = u.answered l m i r ∧ Replies R h x v.code c b := by
  obtain ⟨m, i, k, r, e, q⟩ := H.reply (y := x.taken h v s.now) hR c b u hr hb (by rw [hy]; exact taken_session H.session) rfl
    (by simp [Session.taken, H.idle]) h2
  exact ⟨m, i, _, r, e, q⟩

/-- Every host path carries a body of 1,000 bytes (R103). -/
theorem Accepts.small {s : State} {h : ReqHdr} {v : Service} {x : Session} (H : Accepts s h v x) (b : List Byte)
    (hb : b.length ≤ 1000) : 4 + b.length ≤ pathBody h.path := by
  have := H.path
  rcases hh : h.path with _ | _ | _ | n <;> simp [pathBody, hh] at * <;> omega

end Sys2Proof.Machine
end

