-- ==== Sys2Proof/Laws/State.lean ====
section
/-! SUPPORT. Laws/State.lean: what each update of the machine leaves of each field: one lemma per field per update, so that no
proof unfolds an update. -/

namespace Sys2Proof.Machine


/-! put -/

@[simp] theorem put_pending (s : State) (i j : Nat) (v : Int) : (s.put i j v).pending = s.pending := rfl
@[simp] theorem put_free (s : State) (i j : Nat) (v : Int) : (s.put i j v).free = s.free := rfl
@[simp] theorem put_mode (s : State) (i j : Nat) (v : Int) : (s.put i j v).mode = s.mode := rfl
@[simp] theorem put_moving (s : State) (i j : Nat) (v : Int) : (s.put i j v).moving = s.moving := rfl
@[simp] theorem put_held (s : State) (i j : Nat) (v : Int) : (s.put i j v).held = s.held := rfl
@[simp] theorem put_od (s : State) (i j : Nat) (v : Int) : (s.put i j v).od = odSet s.od i j v := rfl
@[simp] theorem put_ctl (s : State) (i j : Nat) (v : Int) : (s.put i j v).ctl = s.ctl := rfl
@[simp] theorem put_sets (s : State) (i j : Nat) (v : Int) : (s.put i j v).sets = s.sets := rfl
@[simp] theorem put_armings (s : State) (i j : Nat) (v : Int) : (s.put i j v).armings = s.armings := rfl
@[simp] theorem put_soon (s : State) (i j : Nat) (v : Int) : (s.put i j v).soon = s.soon := rfl
@[simp] theorem put_undo (s : State) (i j : Nat) (v : Int) : (s.put i j v).undo = s.undo := rfl
@[simp] theorem put_acted (s : State) (i j : Nat) (v : Int) : (s.put i j v).acted = s.acted := rfl
@[simp] theorem put_meas (s : State) (i j : Nat) (v : Int) : (s.put i j v).meas = s.meas := rfl
@[simp] theorem put_tt (s : State) (i j : Nat) (v : Int) : (s.put i j v).tt = s.tt := rfl
@[simp] theorem put_chan (s : State) (i j : Nat) (v : Int) : (s.put i j v).chan = s.chan := rfl
@[simp] theorem put_lane (s : State) (i j : Nat) (v : Int) : (s.put i j v).lane = s.lane := rfl
@[simp] theorem put_cw (s : State) (i j : Nat) (v : Int) : (s.put i j v).cw = s.cw := rfl
@[simp] theorem put_flow (s : State) (i j : Nat) (v : Int) : (s.put i j v).flow = s.flow := rfl
@[simp] theorem put_net (s : State) (i j : Nat) (v : Int) : (s.put i j v).net = s.net := rfl
@[simp] theorem put_ring (s : State) (i j : Nat) (v : Int) : (s.put i j v).ring = s.ring := rfl
@[simp] theorem put_msix (s : State) (i j : Nat) (v : Int) : (s.put i j v).msix = s.msix := rfl
@[simp] theorem put_tb (s : State) (i j : Nat) (v : Int) : (s.put i j v).tb = s.tb := rfl
@[simp] theorem put_bb (s : State) (i j : Nat) (v : Int) : (s.put i j v).bb = s.bb := rfl
@[simp] theorem put_mews (s : State) (i j : Nat) (v : Int) : (s.put i j v).mews = s.mews := rfl
@[simp] theorem put_lodge (s : State) (i j : Nat) (v : Int) : (s.put i j v).lodge = s.lodge := rfl
@[simp] theorem put_sec (s : State) (i j : Nat) (v : Int) : (s.put i j v).sec = s.sec := rfl
@[simp] theorem put_ret (s : State) (i j : Nat) (v : Int) : (s.put i j v).ret = s.ret := rfl
@[simp] theorem put_dec (s : State) (i j : Nat) (v : Int) : (s.put i j v).dec = s.dec := rfl
@[simp] theorem put_audio (s : State) (i j : Nat) (v : Int) : (s.put i j v).audio = s.audio := rfl
@[simp] theorem put_cluster (s : State) (i j : Nat) (v : Int) : (s.put i j v).cluster = s.cluster := rfl
@[simp] theorem put_pair (s : State) (i j : Nat) (v : Int) : (s.put i j v).pair = s.pair := rfl
@[simp] theorem put_dram (s : State) (i j : Nat) (v : Int) : (s.put i j v).dram = s.dram := rfl
@[simp] theorem put_dramCfg (s : State) (i j : Nat) (v : Int) : (s.put i j v).dramCfg = s.dramCfg := rfl
@[simp] theorem put_board (s : State) (i j : Nat) (v : Int) : (s.put i j v).board = s.board := rfl
@[simp] theorem put_dramMem (s : State) (i j : Nat) (v : Int) : (s.put i j v).dramMem = s.dramMem := rfl
@[simp] theorem put_clk (s : State) (i j : Nat) (v : Int) : (s.put i j v).clk = s.clk := rfl
@[simp] theorem put_ptp (s : State) (i j : Nat) (v : Int) : (s.put i j v).ptp = s.ptp := rfl
@[simp] theorem put_cap (s : State) (i j : Nat) (v : Int) : (s.put i j v).cap = s.cap := rfl
@[simp] theorem put_trig (s : State) (i j : Nat) (v : Int) : (s.put i j v).trig = s.trig := rfl
@[simp] theorem put_cs (s : State) (i j : Nat) (v : Int) : (s.put i j v).cs = s.cs := rfl
@[simp] theorem put_perf (s : State) (i j : Nat) (v : Int) : (s.put i j v).perf = s.perf := rfl
@[simp] theorem put_jtag (s : State) (i j : Nat) (v : Int) : (s.put i j v).jtag = s.jtag := rfl

/-! putVal -/

@[simp] theorem putVal_pending (s : State) (i j : Nat) (v : Val) : (s.putVal i j v).pending = s.pending := rfl
@[simp] theorem putVal_free (s : State) (i j : Nat) (v : Val) : (s.putVal i j v).free = s.free := rfl
@[simp] theorem putVal_mode (s : State) (i j : Nat) (v : Val) : (s.putVal i j v).mode = s.mode := rfl
@[simp] theorem putVal_moving (s : State) (i j : Nat) (v : Val) : (s.putVal i j v).moving = s.moving := rfl
@[simp] theorem putVal_held (s : State) (i j : Nat) (v : Val) : (s.putVal i j v).held = s.held := rfl
@[simp] theorem putVal_od (s : State) (i j : Nat) (v : Val) : (s.putVal i j v).od = odPut s.od i j v := rfl
@[simp] theorem putVal_ctl (s : State) (i j : Nat) (v : Val) : (s.putVal i j v).ctl = s.ctl := rfl
@[simp] theorem putVal_sets (s : State) (i j : Nat) (v : Val) : (s.putVal i j v).sets = s.sets := rfl
@[simp] theorem putVal_armings (s : State) (i j : Nat) (v : Val) : (s.putVal i j v).armings = s.armings := rfl
@[simp] theorem putVal_soon (s : State) (i j : Nat) (v : Val) : (s.putVal i j v).soon = s.soon := rfl
@[simp] theorem putVal_undo (s : State) (i j : Nat) (v : Val) : (s.putVal i j v).undo = s.undo := rfl
@[simp] theorem putVal_acted (s : State) (i j : Nat) (v : Val) : (s.putVal i j v).acted = s.acted := rfl
@[simp] theorem putVal_meas (s : State) (i j : Nat) (v : Val) : (s.putVal i j v).meas = s.meas := rfl
@[simp] theorem putVal_tt (s : State) (i j : Nat) (v : Val) : (s.putVal i j v).tt = s.tt := rfl
@[simp] theorem putVal_chan (s : State) (i j : Nat) (v : Val) : (s.putVal i j v).chan = s.chan := rfl
@[simp] theorem putVal_lane (s : State) (i j : Nat) (v : Val) : (s.putVal i j v).lane = s.lane := rfl
@[simp] theorem putVal_cw (s : State) (i j : Nat) (v : Val) : (s.putVal i j v).cw = s.cw := rfl
@[simp] theorem putVal_flow (s : State) (i j : Nat) (v : Val) : (s.putVal i j v).flow = s.flow := rfl
@[simp] theorem putVal_net (s : State) (i j : Nat) (v : Val) : (s.putVal i j v).net = s.net := rfl
@[simp] theorem putVal_ring (s : State) (i j : Nat) (v : Val) : (s.putVal i j v).ring = s.ring := rfl
@[simp] theorem putVal_msix (s : State) (i j : Nat) (v : Val) : (s.putVal i j v).msix = s.msix := rfl
@[simp] theorem putVal_tb (s : State) (i j : Nat) (v : Val) : (s.putVal i j v).tb = s.tb := rfl
@[simp] theorem putVal_bb (s : State) (i j : Nat) (v : Val) : (s.putVal i j v).bb = s.bb := rfl
@[simp] theorem putVal_mews (s : State) (i j : Nat) (v : Val) : (s.putVal i j v).mews = s.mews := rfl
@[simp] theorem putVal_lodge (s : State) (i j : Nat) (v : Val) : (s.putVal i j v).lodge = s.lodge := rfl
@[simp] theorem putVal_sec (s : State) (i j : Nat) (v : Val) : (s.putVal i j v).sec = s.sec := rfl
@[simp] theorem putVal_ret (s : State) (i j : Nat) (v : Val) : (s.putVal i j v).ret = s.ret := rfl
@[simp] theorem putVal_dec (s : State) (i j : Nat) (v : Val) : (s.putVal i j v).dec = s.dec := rfl
@[simp] theorem putVal_audio (s : State) (i j : Nat) (v : Val) : (s.putVal i j v).audio = s.audio := rfl
@[simp] theorem putVal_cluster (s : State) (i j : Nat) (v : Val) : (s.putVal i j v).cluster = s.cluster := rfl
@[simp] theorem putVal_pair (s : State) (i j : Nat) (v : Val) : (s.putVal i j v).pair = s.pair := rfl
@[simp] theorem putVal_dram (s : State) (i j : Nat) (v : Val) : (s.putVal i j v).dram = s.dram := rfl
@[simp] theorem putVal_dramCfg (s : State) (i j : Nat) (v : Val) : (s.putVal i j v).dramCfg = s.dramCfg := rfl
@[simp] theorem putVal_board (s : State) (i j : Nat) (v : Val) : (s.putVal i j v).board = s.board := rfl
@[simp] theorem putVal_dramMem (s : State) (i j : Nat) (v : Val) : (s.putVal i j v).dramMem = s.dramMem := rfl
@[simp] theorem putVal_clk (s : State) (i j : Nat) (v : Val) : (s.putVal i j v).clk = s.clk := rfl
@[simp] theorem putVal_ptp (s : State) (i j : Nat) (v : Val) : (s.putVal i j v).ptp = s.ptp := rfl
@[simp] theorem putVal_cap (s : State) (i j : Nat) (v : Val) : (s.putVal i j v).cap = s.cap := rfl
@[simp] theorem putVal_trig (s : State) (i j : Nat) (v : Val) : (s.putVal i j v).trig = s.trig := rfl
@[simp] theorem putVal_cs (s : State) (i j : Nat) (v : Val) : (s.putVal i j v).cs = s.cs := rfl
@[simp] theorem putVal_perf (s : State) (i j : Nat) (v : Val) : (s.putVal i j v).perf = s.perf := rfl
@[simp] theorem putVal_jtag (s : State) (i j : Nat) (v : Val) : (s.putVal i j v).jtag = s.jtag := rfl

/-! bump -/

@[simp] theorem bump_pending (s : State) (i j fi fj : Nat) : (s.bump i j fi fj).pending = s.pending := rfl
@[simp] theorem bump_free (s : State) (i j fi fj : Nat) : (s.bump i j fi fj).free = s.free := rfl
@[simp] theorem bump_mode (s : State) (i j fi fj : Nat) : (s.bump i j fi fj).mode = s.mode := rfl
@[simp] theorem bump_moving (s : State) (i j fi fj : Nat) : (s.bump i j fi fj).moving = s.moving := rfl
@[simp] theorem bump_held (s : State) (i j fi fj : Nat) : (s.bump i j fi fj).held = s.held := rfl
@[simp] theorem bump_od (s : State) (i j fi fj : Nat) : (s.bump i j fi fj).od = odBump s.od i j fi fj := rfl
@[simp] theorem bump_ctl (s : State) (i j fi fj : Nat) : (s.bump i j fi fj).ctl = s.ctl := rfl
@[simp] theorem bump_sets (s : State) (i j fi fj : Nat) : (s.bump i j fi fj).sets = s.sets := rfl
@[simp] theorem bump_armings (s : State) (i j fi fj : Nat) : (s.bump i j fi fj).armings = s.armings := rfl
@[simp] theorem bump_soon (s : State) (i j fi fj : Nat) : (s.bump i j fi fj).soon = s.soon := rfl
@[simp] theorem bump_undo (s : State) (i j fi fj : Nat) : (s.bump i j fi fj).undo = s.undo := rfl
@[simp] theorem bump_acted (s : State) (i j fi fj : Nat) : (s.bump i j fi fj).acted = s.acted := rfl
@[simp] theorem bump_meas (s : State) (i j fi fj : Nat) : (s.bump i j fi fj).meas = s.meas := rfl
@[simp] theorem bump_tt (s : State) (i j fi fj : Nat) : (s.bump i j fi fj).tt = s.tt := rfl
@[simp] theorem bump_chan (s : State) (i j fi fj : Nat) : (s.bump i j fi fj).chan = s.chan := rfl
@[simp] theorem bump_lane (s : State) (i j fi fj : Nat) : (s.bump i j fi fj).lane = s.lane := rfl
@[simp] theorem bump_cw (s : State) (i j fi fj : Nat) : (s.bump i j fi fj).cw = s.cw := rfl
@[simp] theorem bump_flow (s : State) (i j fi fj : Nat) : (s.bump i j fi fj).flow = s.flow := rfl
@[simp] theorem bump_net (s : State) (i j fi fj : Nat) : (s.bump i j fi fj).net = s.net := rfl
@[simp] theorem bump_ring (s : State) (i j fi fj : Nat) : (s.bump i j fi fj).ring = s.ring := rfl
@[simp] theorem bump_msix (s : State) (i j fi fj : Nat) : (s.bump i j fi fj).msix = s.msix := rfl
@[simp] theorem bump_tb (s : State) (i j fi fj : Nat) : (s.bump i j fi fj).tb = s.tb := rfl
@[simp] theorem bump_bb (s : State) (i j fi fj : Nat) : (s.bump i j fi fj).bb = s.bb := rfl
@[simp] theorem bump_mews (s : State) (i j fi fj : Nat) : (s.bump i j fi fj).mews = s.mews := rfl
@[simp] theorem bump_lodge (s : State) (i j fi fj : Nat) : (s.bump i j fi fj).lodge = s.lodge := rfl
@[simp] theorem bump_sec (s : State) (i j fi fj : Nat) : (s.bump i j fi fj).sec = s.sec := rfl
@[simp] theorem bump_ret (s : State) (i j fi fj : Nat) : (s.bump i j fi fj).ret = s.ret := rfl
@[simp] theorem bump_dec (s : State) (i j fi fj : Nat) : (s.bump i j fi fj).dec = s.dec := rfl
@[simp] theorem bump_audio (s : State) (i j fi fj : Nat) : (s.bump i j fi fj).audio = s.audio := rfl
@[simp] theorem bump_cluster (s : State) (i j fi fj : Nat) : (s.bump i j fi fj).cluster = s.cluster := rfl
@[simp] theorem bump_pair (s : State) (i j fi fj : Nat) : (s.bump i j fi fj).pair = s.pair := rfl
@[simp] theorem bump_dram (s : State) (i j fi fj : Nat) : (s.bump i j fi fj).dram = s.dram := rfl
@[simp] theorem bump_dramCfg (s : State) (i j fi fj : Nat) : (s.bump i j fi fj).dramCfg = s.dramCfg := rfl
@[simp] theorem bump_board (s : State) (i j fi fj : Nat) : (s.bump i j fi fj).board = s.board := rfl
@[simp] theorem bump_dramMem (s : State) (i j fi fj : Nat) : (s.bump i j fi fj).dramMem = s.dramMem := rfl
@[simp] theorem bump_clk (s : State) (i j fi fj : Nat) : (s.bump i j fi fj).clk = s.clk := rfl
@[simp] theorem bump_ptp (s : State) (i j fi fj : Nat) : (s.bump i j fi fj).ptp = s.ptp := rfl
@[simp] theorem bump_cap (s : State) (i j fi fj : Nat) : (s.bump i j fi fj).cap = s.cap := rfl
@[simp] theorem bump_trig (s : State) (i j fi fj : Nat) : (s.bump i j fi fj).trig = s.trig := rfl
@[simp] theorem bump_cs (s : State) (i j fi fj : Nat) : (s.bump i j fi fj).cs = s.cs := rfl
@[simp] theorem bump_perf (s : State) (i j fi fj : Nat) : (s.bump i j fi fj).perf = s.perf := rfl
@[simp] theorem bump_jtag (s : State) (i j fi fj : Nat) : (s.bump i j fi fj).jtag = s.jtag := rfl

/-! bumpBy -/

@[simp] theorem bumpBy_pending (s : State) (i j fi fj n : Nat) : (s.bumpBy i j fi fj n).pending = s.pending := rfl
@[simp] theorem bumpBy_free (s : State) (i j fi fj n : Nat) : (s.bumpBy i j fi fj n).free = s.free := rfl
@[simp] theorem bumpBy_mode (s : State) (i j fi fj n : Nat) : (s.bumpBy i j fi fj n).mode = s.mode := rfl
@[simp] theorem bumpBy_moving (s : State) (i j fi fj n : Nat) : (s.bumpBy i j fi fj n).moving = s.moving := rfl
@[simp] theorem bumpBy_held (s : State) (i j fi fj n : Nat) : (s.bumpBy i j fi fj n).held = s.held := rfl
@[simp] theorem bumpBy_od (s : State) (i j fi fj n : Nat) : (s.bumpBy i j fi fj n).od = odCount s.od i j fi fj j 4294967296 n := rfl
@[simp] theorem bumpBy_ctl (s : State) (i j fi fj n : Nat) : (s.bumpBy i j fi fj n).ctl = s.ctl := rfl
@[simp] theorem bumpBy_sets (s : State) (i j fi fj n : Nat) : (s.bumpBy i j fi fj n).sets = s.sets := rfl
@[simp] theorem bumpBy_armings (s : State) (i j fi fj n : Nat) : (s.bumpBy i j fi fj n).armings = s.armings := rfl
@[simp] theorem bumpBy_soon (s : State) (i j fi fj n : Nat) : (s.bumpBy i j fi fj n).soon = s.soon := rfl
@[simp] theorem bumpBy_undo (s : State) (i j fi fj n : Nat) : (s.bumpBy i j fi fj n).undo = s.undo := rfl
@[simp] theorem bumpBy_acted (s : State) (i j fi fj n : Nat) : (s.bumpBy i j fi fj n).acted = s.acted := rfl
@[simp] theorem bumpBy_meas (s : State) (i j fi fj n : Nat) : (s.bumpBy i j fi fj n).meas = s.meas := rfl
@[simp] theorem bumpBy_tt (s : State) (i j fi fj n : Nat) : (s.bumpBy i j fi fj n).tt = s.tt := rfl
@[simp] theorem bumpBy_chan (s : State) (i j fi fj n : Nat) : (s.bumpBy i j fi fj n).chan = s.chan := rfl
@[simp] theorem bumpBy_lane (s : State) (i j fi fj n : Nat) : (s.bumpBy i j fi fj n).lane = s.lane := rfl
@[simp] theorem bumpBy_cw (s : State) (i j fi fj n : Nat) : (s.bumpBy i j fi fj n).cw = s.cw := rfl
@[simp] theorem bumpBy_flow (s : State) (i j fi fj n : Nat) : (s.bumpBy i j fi fj n).flow = s.flow := rfl
@[simp] theorem bumpBy_net (s : State) (i j fi fj n : Nat) : (s.bumpBy i j fi fj n).net = s.net := rfl
@[simp] theorem bumpBy_ring (s : State) (i j fi fj n : Nat) : (s.bumpBy i j fi fj n).ring = s.ring := rfl
@[simp] theorem bumpBy_msix (s : State) (i j fi fj n : Nat) : (s.bumpBy i j fi fj n).msix = s.msix := rfl
@[simp] theorem bumpBy_tb (s : State) (i j fi fj n : Nat) : (s.bumpBy i j fi fj n).tb = s.tb := rfl
@[simp] theorem bumpBy_bb (s : State) (i j fi fj n : Nat) : (s.bumpBy i j fi fj n).bb = s.bb := rfl
@[simp] theorem bumpBy_mews (s : State) (i j fi fj n : Nat) : (s.bumpBy i j fi fj n).mews = s.mews := rfl
@[simp] theorem bumpBy_lodge (s : State) (i j fi fj n : Nat) : (s.bumpBy i j fi fj n).lodge = s.lodge := rfl
@[simp] theorem bumpBy_sec (s : State) (i j fi fj n : Nat) : (s.bumpBy i j fi fj n).sec = s.sec := rfl
@[simp] theorem bumpBy_ret (s : State) (i j fi fj n : Nat) : (s.bumpBy i j fi fj n).ret = s.ret := rfl
@[simp] theorem bumpBy_dec (s : State) (i j fi fj n : Nat) : (s.bumpBy i j fi fj n).dec = s.dec := rfl
@[simp] theorem bumpBy_audio (s : State) (i j fi fj n : Nat) : (s.bumpBy i j fi fj n).audio = s.audio := rfl
@[simp] theorem bumpBy_cluster (s : State) (i j fi fj n : Nat) : (s.bumpBy i j fi fj n).cluster = s.cluster := rfl
@[simp] theorem bumpBy_pair (s : State) (i j fi fj n : Nat) : (s.bumpBy i j fi fj n).pair = s.pair := rfl
@[simp] theorem bumpBy_dram (s : State) (i j fi fj n : Nat) : (s.bumpBy i j fi fj n).dram = s.dram := rfl
@[simp] theorem bumpBy_dramCfg (s : State) (i j fi fj n : Nat) : (s.bumpBy i j fi fj n).dramCfg = s.dramCfg := rfl
@[simp] theorem bumpBy_board (s : State) (i j fi fj n : Nat) : (s.bumpBy i j fi fj n).board = s.board := rfl
@[simp] theorem bumpBy_dramMem (s : State) (i j fi fj n : Nat) : (s.bumpBy i j fi fj n).dramMem = s.dramMem := rfl
@[simp] theorem bumpBy_clk (s : State) (i j fi fj n : Nat) : (s.bumpBy i j fi fj n).clk = s.clk := rfl
@[simp] theorem bumpBy_ptp (s : State) (i j fi fj n : Nat) : (s.bumpBy i j fi fj n).ptp = s.ptp := rfl
@[simp] theorem bumpBy_cap (s : State) (i j fi fj n : Nat) : (s.bumpBy i j fi fj n).cap = s.cap := rfl
@[simp] theorem bumpBy_trig (s : State) (i j fi fj n : Nat) : (s.bumpBy i j fi fj n).trig = s.trig := rfl
@[simp] theorem bumpBy_cs (s : State) (i j fi fj n : Nat) : (s.bumpBy i j fi fj n).cs = s.cs := rfl
@[simp] theorem bumpBy_perf (s : State) (i j fi fj n : Nat) : (s.bumpBy i j fi fj n).perf = s.perf := rfl
@[simp] theorem bumpBy_jtag (s : State) (i j fi fj n : Nat) : (s.bumpBy i j fi fj n).jtag = s.jtag := rfl

/-! setSet -/

@[simp] theorem setSet_pending (s : State) (k : Nat) (x : StageSet) : (s.setSet k x).pending = s.pending := rfl
@[simp] theorem setSet_free (s : State) (k : Nat) (x : StageSet) : (s.setSet k x).free = s.free := rfl
@[simp] theorem setSet_mode (s : State) (k : Nat) (x : StageSet) : (s.setSet k x).mode = s.mode := rfl
@[simp] theorem setSet_moving (s : State) (k : Nat) (x : StageSet) : (s.setSet k x).moving = s.moving := rfl
@[simp] theorem setSet_held (s : State) (k : Nat) (x : StageSet) : (s.setSet k x).held = s.held := rfl
@[simp] theorem setSet_od (s : State) (k : Nat) (x : StageSet) : (s.setSet k x).od = s.od := rfl
@[simp] theorem setSet_ctl (s : State) (k : Nat) (x : StageSet) : (s.setSet k x).ctl = s.ctl := rfl
@[simp] theorem setSet_sets (s : State) (k : Nat) (x : StageSet) : (s.setSet k x).sets = tset s.sets k x := rfl
@[simp] theorem setSet_armings (s : State) (k : Nat) (x : StageSet) : (s.setSet k x).armings = s.armings := rfl
@[simp] theorem setSet_soon (s : State) (k : Nat) (x : StageSet) : (s.setSet k x).soon = s.soon := rfl
@[simp] theorem setSet_undo (s : State) (k : Nat) (x : StageSet) : (s.setSet k x).undo = s.undo := rfl
@[simp] theorem setSet_acted (s : State) (k : Nat) (x : StageSet) : (s.setSet k x).acted = s.acted := rfl
@[simp] theorem setSet_meas (s : State) (k : Nat) (x : StageSet) : (s.setSet k x).meas = s.meas := rfl
@[simp] theorem setSet_tt (s : State) (k : Nat) (x : StageSet) : (s.setSet k x).tt = s.tt := rfl
@[simp] theorem setSet_chan (s : State) (k : Nat) (x : StageSet) : (s.setSet k x).chan = s.chan := rfl
@[simp] theorem setSet_lane (s : State) (k : Nat) (x : StageSet) : (s.setSet k x).lane = s.lane := rfl
@[simp] theorem setSet_cw (s : State) (k : Nat) (x : StageSet) : (s.setSet k x).cw = s.cw := rfl
@[simp] theorem setSet_flow (s : State) (k : Nat) (x : StageSet) : (s.setSet k x).flow = s.flow := rfl
@[simp] theorem setSet_net (s : State) (k : Nat) (x : StageSet) : (s.setSet k x).net = s.net := rfl
@[simp] theorem setSet_ring (s : State) (k : Nat) (x : StageSet) : (s.setSet k x).ring = s.ring := rfl
@[simp] theorem setSet_msix (s : State) (k : Nat) (x : StageSet) : (s.setSet k x).msix = s.msix := rfl
@[simp] theorem setSet_tb (s : State) (k : Nat) (x : StageSet) : (s.setSet k x).tb = s.tb := rfl
@[simp] theorem setSet_bb (s : State) (k : Nat) (x : StageSet) : (s.setSet k x).bb = s.bb := rfl
@[simp] theorem setSet_mews (s : State) (k : Nat) (x : StageSet) : (s.setSet k x).mews = s.mews := rfl
@[simp] theorem setSet_lodge (s : State) (k : Nat) (x : StageSet) : (s.setSet k x).lodge = s.lodge := rfl
@[simp] theorem setSet_sec (s : State) (k : Nat) (x : StageSet) : (s.setSet k x).sec = s.sec := rfl
@[simp] theorem setSet_ret (s : State) (k : Nat) (x : StageSet) : (s.setSet k x).ret = s.ret := rfl
@[simp] theorem setSet_dec (s : State) (k : Nat) (x : StageSet) : (s.setSet k x).dec = s.dec := rfl
@[simp] theorem setSet_audio (s : State) (k : Nat) (x : StageSet) : (s.setSet k x).audio = s.audio := rfl
@[simp] theorem setSet_cluster (s : State) (k : Nat) (x : StageSet) : (s.setSet k x).cluster = s.cluster := rfl
@[simp] theorem setSet_pair (s : State) (k : Nat) (x : StageSet) : (s.setSet k x).pair = s.pair := rfl
@[simp] theorem setSet_dram (s : State) (k : Nat) (x : StageSet) : (s.setSet k x).dram = s.dram := rfl
@[simp] theorem setSet_dramCfg (s : State) (k : Nat) (x : StageSet) : (s.setSet k x).dramCfg = s.dramCfg := rfl
@[simp] theorem setSet_board (s : State) (k : Nat) (x : StageSet) : (s.setSet k x).board = s.board := rfl
@[simp] theorem setSet_dramMem (s : State) (k : Nat) (x : StageSet) : (s.setSet k x).dramMem = s.dramMem := rfl
@[simp] theorem setSet_clk (s : State) (k : Nat) (x : StageSet) : (s.setSet k x).clk = s.clk := rfl
@[simp] theorem setSet_ptp (s : State) (k : Nat) (x : StageSet) : (s.setSet k x).ptp = s.ptp := rfl
@[simp] theorem setSet_cap (s : State) (k : Nat) (x : StageSet) : (s.setSet k x).cap = s.cap := rfl
@[simp] theorem setSet_trig (s : State) (k : Nat) (x : StageSet) : (s.setSet k x).trig = s.trig := rfl
@[simp] theorem setSet_cs (s : State) (k : Nat) (x : StageSet) : (s.setSet k x).cs = s.cs := rfl
@[simp] theorem setSet_perf (s : State) (k : Nat) (x : StageSet) : (s.setSet k x).perf = s.perf := rfl
@[simp] theorem setSet_jtag (s : State) (k : Nat) (x : StageSet) : (s.setSet k x).jtag = s.jtag := rfl

/-! freeSet -/

@[simp] theorem freeSet_pending (s : State) (k : Nat) : (s.freeSet k).pending = s.pending := rfl
@[simp] theorem freeSet_free (s : State) (k : Nat) : (s.freeSet k).free = s.free := rfl
@[simp] theorem freeSet_mode (s : State) (k : Nat) : (s.freeSet k).mode = s.mode := rfl
@[simp] theorem freeSet_moving (s : State) (k : Nat) : (s.freeSet k).moving = s.moving := rfl
@[simp] theorem freeSet_held (s : State) (k : Nat) : (s.freeSet k).held = s.held := rfl
@[simp] theorem freeSet_od (s : State) (k : Nat) : (s.freeSet k).od = s.od := rfl
@[simp] theorem freeSet_ctl (s : State) (k : Nat) : (s.freeSet k).ctl = s.ctl := rfl
@[simp] theorem freeSet_sets (s : State) (k : Nat) : (s.freeSet k).sets = tdel s.sets k := rfl
@[simp] theorem freeSet_armings (s : State) (k : Nat) : (s.freeSet k).armings = s.armings := rfl
@[simp] theorem freeSet_soon (s : State) (k : Nat) : (s.freeSet k).soon = s.soon := rfl
@[simp] theorem freeSet_undo (s : State) (k : Nat) : (s.freeSet k).undo = s.undo := rfl
@[simp] theorem freeSet_acted (s : State) (k : Nat) : (s.freeSet k).acted = s.acted := rfl
@[simp] theorem freeSet_meas (s : State) (k : Nat) : (s.freeSet k).meas = s.meas := rfl
@[simp] theorem freeSet_tt (s : State) (k : Nat) : (s.freeSet k).tt = s.tt := rfl
@[simp] theorem freeSet_chan (s : State) (k : Nat) : (s.freeSet k).chan = s.chan := rfl
@[simp] theorem freeSet_lane (s : State) (k : Nat) : (s.freeSet k).lane = s.lane := rfl
@[simp] theorem freeSet_cw (s : State) (k : Nat) : (s.freeSet k).cw = s.cw := rfl
@[simp] theorem freeSet_flow (s : State) (k : Nat) : (s.freeSet k).flow = s.flow := rfl
@[simp] theorem freeSet_net (s : State) (k : Nat) : (s.freeSet k).net = s.net := rfl
@[simp] theorem freeSet_ring (s : State) (k : Nat) : (s.freeSet k).ring = s.ring := rfl
@[simp] theorem freeSet_msix (s : State) (k : Nat) : (s.freeSet k).msix = s.msix := rfl
@[simp] theorem freeSet_tb (s : State) (k : Nat) : (s.freeSet k).tb = s.tb := rfl
@[simp] theorem freeSet_bb (s : State) (k : Nat) : (s.freeSet k).bb = s.bb := rfl
@[simp] theorem freeSet_mews (s : State) (k : Nat) : (s.freeSet k).mews = s.mews := rfl
@[simp] theorem freeSet_lodge (s : State) (k : Nat) : (s.freeSet k).lodge = s.lodge := rfl
@[simp] theorem freeSet_sec (s : State) (k : Nat) : (s.freeSet k).sec = s.sec := rfl
@[simp] theorem freeSet_ret (s : State) (k : Nat) : (s.freeSet k).ret = s.ret := rfl
@[simp] theorem freeSet_dec (s : State) (k : Nat) : (s.freeSet k).dec = s.dec := rfl
@[simp] theorem freeSet_audio (s : State) (k : Nat) : (s.freeSet k).audio = s.audio := rfl
@[simp] theorem freeSet_cluster (s : State) (k : Nat) : (s.freeSet k).cluster = s.cluster := rfl
@[simp] theorem freeSet_pair (s : State) (k : Nat) : (s.freeSet k).pair = s.pair := rfl
@[simp] theorem freeSet_dram (s : State) (k : Nat) : (s.freeSet k).dram = s.dram := rfl
@[simp] theorem freeSet_dramCfg (s : State) (k : Nat) : (s.freeSet k).dramCfg = s.dramCfg := rfl
@[simp] theorem freeSet_board (s : State) (k : Nat) : (s.freeSet k).board = s.board := rfl
@[simp] theorem freeSet_dramMem (s : State) (k : Nat) : (s.freeSet k).dramMem = s.dramMem := rfl
@[simp] theorem freeSet_clk (s : State) (k : Nat) : (s.freeSet k).clk = s.clk := rfl
@[simp] theorem freeSet_ptp (s : State) (k : Nat) : (s.freeSet k).ptp = s.ptp := rfl
@[simp] theorem freeSet_cap (s : State) (k : Nat) : (s.freeSet k).cap = s.cap := rfl
@[simp] theorem freeSet_trig (s : State) (k : Nat) : (s.freeSet k).trig = s.trig := rfl
@[simp] theorem freeSet_cs (s : State) (k : Nat) : (s.freeSet k).cs = s.cs := rfl
@[simp] theorem freeSet_perf (s : State) (k : Nat) : (s.freeSet k).perf = s.perf := rfl
@[simp] theorem freeSet_jtag (s : State) (k : Nat) : (s.freeSet k).jtag = s.jtag := rfl

/-! setRg -/

@[simp] theorem setRg_pending (s : State) (k : Nat) (x : Ring) : (s.setRg k x).pending = s.pending := rfl
@[simp] theorem setRg_free (s : State) (k : Nat) (x : Ring) : (s.setRg k x).free = s.free := rfl
@[simp] theorem setRg_mode (s : State) (k : Nat) (x : Ring) : (s.setRg k x).mode = s.mode := rfl
@[simp] theorem setRg_moving (s : State) (k : Nat) (x : Ring) : (s.setRg k x).moving = s.moving := rfl
@[simp] theorem setRg_held (s : State) (k : Nat) (x : Ring) : (s.setRg k x).held = s.held := rfl
@[simp] theorem setRg_od (s : State) (k : Nat) (x : Ring) : (s.setRg k x).od = s.od := rfl
@[simp] theorem setRg_ctl (s : State) (k : Nat) (x : Ring) : (s.setRg k x).ctl = s.ctl := rfl
@[simp] theorem setRg_sets (s : State) (k : Nat) (x : Ring) : (s.setRg k x).sets = s.sets := rfl
@[simp] theorem setRg_armings (s : State) (k : Nat) (x : Ring) : (s.setRg k x).armings = s.armings := rfl
@[simp] theorem setRg_soon (s : State) (k : Nat) (x : Ring) : (s.setRg k x).soon = s.soon := rfl
@[simp] theorem setRg_undo (s : State) (k : Nat) (x : Ring) : (s.setRg k x).undo = s.undo := rfl
@[simp] theorem setRg_acted (s : State) (k : Nat) (x : Ring) : (s.setRg k x).acted = s.acted := rfl
@[simp] theorem setRg_meas (s : State) (k : Nat) (x : Ring) : (s.setRg k x).meas = s.meas := rfl
@[simp] theorem setRg_tt (s : State) (k : Nat) (x : Ring) : (s.setRg k x).tt = s.tt := rfl
@[simp] theorem setRg_chan (s : State) (k : Nat) (x : Ring) : (s.setRg k x).chan = s.chan := rfl
@[simp] theorem setRg_lane (s : State) (k : Nat) (x : Ring) : (s.setRg k x).lane = s.lane := rfl
@[simp] theorem setRg_cw (s : State) (k : Nat) (x : Ring) : (s.setRg k x).cw = s.cw := rfl
@[simp] theorem setRg_flow (s : State) (k : Nat) (x : Ring) : (s.setRg k x).flow = s.flow := rfl
@[simp] theorem setRg_net (s : State) (k : Nat) (x : Ring) : (s.setRg k x).net = s.net := rfl
@[simp] theorem setRg_ring (s : State) (k : Nat) (x : Ring) : (s.setRg k x).ring = tset s.ring k x := rfl
@[simp] theorem setRg_msix (s : State) (k : Nat) (x : Ring) : (s.setRg k x).msix = s.msix := rfl
@[simp] theorem setRg_tb (s : State) (k : Nat) (x : Ring) : (s.setRg k x).tb = s.tb := rfl
@[simp] theorem setRg_bb (s : State) (k : Nat) (x : Ring) : (s.setRg k x).bb = s.bb := rfl
@[simp] theorem setRg_mews (s : State) (k : Nat) (x : Ring) : (s.setRg k x).mews = s.mews := rfl
@[simp] theorem setRg_lodge (s : State) (k : Nat) (x : Ring) : (s.setRg k x).lodge = s.lodge := rfl
@[simp] theorem setRg_sec (s : State) (k : Nat) (x : Ring) : (s.setRg k x).sec = s.sec := rfl
@[simp] theorem setRg_ret (s : State) (k : Nat) (x : Ring) : (s.setRg k x).ret = s.ret := rfl
@[simp] theorem setRg_dec (s : State) (k : Nat) (x : Ring) : (s.setRg k x).dec = s.dec := rfl
@[simp] theorem setRg_audio (s : State) (k : Nat) (x : Ring) : (s.setRg k x).audio = s.audio := rfl
@[simp] theorem setRg_cluster (s : State) (k : Nat) (x : Ring) : (s.setRg k x).cluster = s.cluster := rfl
@[simp] theorem setRg_pair (s : State) (k : Nat) (x : Ring) : (s.setRg k x).pair = s.pair := rfl
@[simp] theorem setRg_dram (s : State) (k : Nat) (x : Ring) : (s.setRg k x).dram = s.dram := rfl
@[simp] theorem setRg_dramCfg (s : State) (k : Nat) (x : Ring) : (s.setRg k x).dramCfg = s.dramCfg := rfl
@[simp] theorem setRg_board (s : State) (k : Nat) (x : Ring) : (s.setRg k x).board = s.board := rfl
@[simp] theorem setRg_dramMem (s : State) (k : Nat) (x : Ring) : (s.setRg k x).dramMem = s.dramMem := rfl
@[simp] theorem setRg_clk (s : State) (k : Nat) (x : Ring) : (s.setRg k x).clk = s.clk := rfl
@[simp] theorem setRg_ptp (s : State) (k : Nat) (x : Ring) : (s.setRg k x).ptp = s.ptp := rfl
@[simp] theorem setRg_cap (s : State) (k : Nat) (x : Ring) : (s.setRg k x).cap = s.cap := rfl
@[simp] theorem setRg_trig (s : State) (k : Nat) (x : Ring) : (s.setRg k x).trig = s.trig := rfl
@[simp] theorem setRg_cs (s : State) (k : Nat) (x : Ring) : (s.setRg k x).cs = s.cs := rfl
@[simp] theorem setRg_perf (s : State) (k : Nat) (x : Ring) : (s.setRg k x).perf = s.perf := rfl
@[simp] theorem setRg_jtag (s : State) (k : Nat) (x : Ring) : (s.setRg k x).jtag = s.jtag := rfl

/-! setLane -/

@[simp] theorem setLane_pending (s : State) (k : Nat) (x : Lane) : (s.setLane k x).pending = s.pending := rfl
@[simp] theorem setLane_free (s : State) (k : Nat) (x : Lane) : (s.setLane k x).free = s.free := rfl
@[simp] theorem setLane_mode (s : State) (k : Nat) (x : Lane) : (s.setLane k x).mode = s.mode := rfl
@[simp] theorem setLane_moving (s : State) (k : Nat) (x : Lane) : (s.setLane k x).moving = s.moving := rfl
@[simp] theorem setLane_held (s : State) (k : Nat) (x : Lane) : (s.setLane k x).held = s.held := rfl
@[simp] theorem setLane_od (s : State) (k : Nat) (x : Lane) : (s.setLane k x).od = s.od := rfl
@[simp] theorem setLane_ctl (s : State) (k : Nat) (x : Lane) : (s.setLane k x).ctl = s.ctl := rfl
@[simp] theorem setLane_sets (s : State) (k : Nat) (x : Lane) : (s.setLane k x).sets = s.sets := rfl
@[simp] theorem setLane_armings (s : State) (k : Nat) (x : Lane) : (s.setLane k x).armings = s.armings := rfl
@[simp] theorem setLane_soon (s : State) (k : Nat) (x : Lane) : (s.setLane k x).soon = s.soon := rfl
@[simp] theorem setLane_undo (s : State) (k : Nat) (x : Lane) : (s.setLane k x).undo = s.undo := rfl
@[simp] theorem setLane_acted (s : State) (k : Nat) (x : Lane) : (s.setLane k x).acted = s.acted := rfl
@[simp] theorem setLane_meas (s : State) (k : Nat) (x : Lane) : (s.setLane k x).meas = s.meas := rfl
@[simp] theorem setLane_tt (s : State) (k : Nat) (x : Lane) : (s.setLane k x).tt = s.tt := rfl
@[simp] theorem setLane_chan (s : State) (k : Nat) (x : Lane) : (s.setLane k x).chan = s.chan := rfl
@[simp] theorem setLane_lane (s : State) (k : Nat) (x : Lane) : (s.setLane k x).lane = tset s.lane k x := rfl
@[simp] theorem setLane_cw (s : State) (k : Nat) (x : Lane) : (s.setLane k x).cw = s.cw := rfl
@[simp] theorem setLane_flow (s : State) (k : Nat) (x : Lane) : (s.setLane k x).flow = s.flow := rfl
@[simp] theorem setLane_net (s : State) (k : Nat) (x : Lane) : (s.setLane k x).net = s.net := rfl
@[simp] theorem setLane_ring (s : State) (k : Nat) (x : Lane) : (s.setLane k x).ring = s.ring := rfl
@[simp] theorem setLane_msix (s : State) (k : Nat) (x : Lane) : (s.setLane k x).msix = s.msix := rfl
@[simp] theorem setLane_tb (s : State) (k : Nat) (x : Lane) : (s.setLane k x).tb = s.tb := rfl
@[simp] theorem setLane_bb (s : State) (k : Nat) (x : Lane) : (s.setLane k x).bb = s.bb := rfl
@[simp] theorem setLane_mews (s : State) (k : Nat) (x : Lane) : (s.setLane k x).mews = s.mews := rfl
@[simp] theorem setLane_lodge (s : State) (k : Nat) (x : Lane) : (s.setLane k x).lodge = s.lodge := rfl
@[simp] theorem setLane_sec (s : State) (k : Nat) (x : Lane) : (s.setLane k x).sec = s.sec := rfl
@[simp] theorem setLane_ret (s : State) (k : Nat) (x : Lane) : (s.setLane k x).ret = s.ret := rfl
@[simp] theorem setLane_dec (s : State) (k : Nat) (x : Lane) : (s.setLane k x).dec = s.dec := rfl
@[simp] theorem setLane_audio (s : State) (k : Nat) (x : Lane) : (s.setLane k x).audio = s.audio := rfl
@[simp] theorem setLane_cluster (s : State) (k : Nat) (x : Lane) : (s.setLane k x).cluster = s.cluster := rfl
@[simp] theorem setLane_pair (s : State) (k : Nat) (x : Lane) : (s.setLane k x).pair = s.pair := rfl
@[simp] theorem setLane_dram (s : State) (k : Nat) (x : Lane) : (s.setLane k x).dram = s.dram := rfl
@[simp] theorem setLane_dramCfg (s : State) (k : Nat) (x : Lane) : (s.setLane k x).dramCfg = s.dramCfg := rfl
@[simp] theorem setLane_board (s : State) (k : Nat) (x : Lane) : (s.setLane k x).board = s.board := rfl
@[simp] theorem setLane_dramMem (s : State) (k : Nat) (x : Lane) : (s.setLane k x).dramMem = s.dramMem := rfl
@[simp] theorem setLane_clk (s : State) (k : Nat) (x : Lane) : (s.setLane k x).clk = s.clk := rfl
@[simp] theorem setLane_ptp (s : State) (k : Nat) (x : Lane) : (s.setLane k x).ptp = s.ptp := rfl
@[simp] theorem setLane_cap (s : State) (k : Nat) (x : Lane) : (s.setLane k x).cap = s.cap := rfl
@[simp] theorem setLane_trig (s : State) (k : Nat) (x : Lane) : (s.setLane k x).trig = s.trig := rfl
@[simp] theorem setLane_cs (s : State) (k : Nat) (x : Lane) : (s.setLane k x).cs = s.cs := rfl
@[simp] theorem setLane_perf (s : State) (k : Nat) (x : Lane) : (s.setLane k x).perf = s.perf := rfl
@[simp] theorem setLane_jtag (s : State) (k : Nat) (x : Lane) : (s.setLane k x).jtag = s.jtag := rfl

/-! setCw -/

@[simp] theorem setCw_pending (s : State) (k : Nat) (x : CwPort) : (s.setCw k x).pending = s.pending := rfl
@[simp] theorem setCw_free (s : State) (k : Nat) (x : CwPort) : (s.setCw k x).free = s.free := rfl
@[simp] theorem setCw_mode (s : State) (k : Nat) (x : CwPort) : (s.setCw k x).mode = s.mode := rfl
@[simp] theorem setCw_moving (s : State) (k : Nat) (x : CwPort) : (s.setCw k x).moving = s.moving := rfl
@[simp] theorem setCw_held (s : State) (k : Nat) (x : CwPort) : (s.setCw k x).held = s.held := rfl
@[simp] theorem setCw_od (s : State) (k : Nat) (x : CwPort) : (s.setCw k x).od = s.od := rfl
@[simp] theorem setCw_ctl (s : State) (k : Nat) (x : CwPort) : (s.setCw k x).ctl = s.ctl := rfl
@[simp] theorem setCw_sets (s : State) (k : Nat) (x : CwPort) : (s.setCw k x).sets = s.sets := rfl
@[simp] theorem setCw_armings (s : State) (k : Nat) (x : CwPort) : (s.setCw k x).armings = s.armings := rfl
@[simp] theorem setCw_soon (s : State) (k : Nat) (x : CwPort) : (s.setCw k x).soon = s.soon := rfl
@[simp] theorem setCw_undo (s : State) (k : Nat) (x : CwPort) : (s.setCw k x).undo = s.undo := rfl
@[simp] theorem setCw_acted (s : State) (k : Nat) (x : CwPort) : (s.setCw k x).acted = s.acted := rfl
@[simp] theorem setCw_meas (s : State) (k : Nat) (x : CwPort) : (s.setCw k x).meas = s.meas := rfl
@[simp] theorem setCw_tt (s : State) (k : Nat) (x : CwPort) : (s.setCw k x).tt = s.tt := rfl
@[simp] theorem setCw_chan (s : State) (k : Nat) (x : CwPort) : (s.setCw k x).chan = s.chan := rfl
@[simp] theorem setCw_lane (s : State) (k : Nat) (x : CwPort) : (s.setCw k x).lane = s.lane := rfl
@[simp] theorem setCw_cw (s : State) (k : Nat) (x : CwPort) : (s.setCw k x).cw = tset s.cw k x := rfl
@[simp] theorem setCw_flow (s : State) (k : Nat) (x : CwPort) : (s.setCw k x).flow = s.flow := rfl
@[simp] theorem setCw_net (s : State) (k : Nat) (x : CwPort) : (s.setCw k x).net = s.net := rfl
@[simp] theorem setCw_ring (s : State) (k : Nat) (x : CwPort) : (s.setCw k x).ring = s.ring := rfl
@[simp] theorem setCw_msix (s : State) (k : Nat) (x : CwPort) : (s.setCw k x).msix = s.msix := rfl
@[simp] theorem setCw_tb (s : State) (k : Nat) (x : CwPort) : (s.setCw k x).tb = s.tb := rfl
@[simp] theorem setCw_bb (s : State) (k : Nat) (x : CwPort) : (s.setCw k x).bb = s.bb := rfl
@[simp] theorem setCw_mews (s : State) (k : Nat) (x : CwPort) : (s.setCw k x).mews = s.mews := rfl
@[simp] theorem setCw_lodge (s : State) (k : Nat) (x : CwPort) : (s.setCw k x).lodge = s.lodge := rfl
@[simp] theorem setCw_sec (s : State) (k : Nat) (x : CwPort) : (s.setCw k x).sec = s.sec := rfl
@[simp] theorem setCw_ret (s : State) (k : Nat) (x : CwPort) : (s.setCw k x).ret = s.ret := rfl
@[simp] theorem setCw_dec (s : State) (k : Nat) (x : CwPort) : (s.setCw k x).dec = s.dec := rfl
@[simp] theorem setCw_audio (s : State) (k : Nat) (x : CwPort) : (s.setCw k x).audio = s.audio := rfl
@[simp] theorem setCw_cluster (s : State) (k : Nat) (x : CwPort) : (s.setCw k x).cluster = s.cluster := rfl
@[simp] theorem setCw_pair (s : State) (k : Nat) (x : CwPort) : (s.setCw k x).pair = s.pair := rfl
@[simp] theorem setCw_dram (s : State) (k : Nat) (x : CwPort) : (s.setCw k x).dram = s.dram := rfl
@[simp] theorem setCw_dramCfg (s : State) (k : Nat) (x : CwPort) : (s.setCw k x).dramCfg = s.dramCfg := rfl
@[simp] theorem setCw_board (s : State) (k : Nat) (x : CwPort) : (s.setCw k x).board = s.board := rfl
@[simp] theorem setCw_dramMem (s : State) (k : Nat) (x : CwPort) : (s.setCw k x).dramMem = s.dramMem := rfl
@[simp] theorem setCw_clk (s : State) (k : Nat) (x : CwPort) : (s.setCw k x).clk = s.clk := rfl
@[simp] theorem setCw_ptp (s : State) (k : Nat) (x : CwPort) : (s.setCw k x).ptp = s.ptp := rfl
@[simp] theorem setCw_cap (s : State) (k : Nat) (x : CwPort) : (s.setCw k x).cap = s.cap := rfl
@[simp] theorem setCw_trig (s : State) (k : Nat) (x : CwPort) : (s.setCw k x).trig = s.trig := rfl
@[simp] theorem setCw_cs (s : State) (k : Nat) (x : CwPort) : (s.setCw k x).cs = s.cs := rfl
@[simp] theorem setCw_perf (s : State) (k : Nat) (x : CwPort) : (s.setCw k x).perf = s.perf := rfl
@[simp] theorem setCw_jtag (s : State) (k : Nat) (x : CwPort) : (s.setCw k x).jtag = s.jtag := rfl

/-! setPort -/

@[simp] theorem setPort_pending (s : State) (k : Nat) (x : Port) : (s.setPort k x).pending = s.pending := rfl
@[simp] theorem setPort_free (s : State) (k : Nat) (x : Port) : (s.setPort k x).free = s.free := rfl
@[simp] theorem setPort_mode (s : State) (k : Nat) (x : Port) : (s.setPort k x).mode = s.mode := rfl
@[simp] theorem setPort_moving (s : State) (k : Nat) (x : Port) : (s.setPort k x).moving = s.moving := rfl
@[simp] theorem setPort_held (s : State) (k : Nat) (x : Port) : (s.setPort k x).held = s.held := rfl
@[simp] theorem setPort_od (s : State) (k : Nat) (x : Port) : (s.setPort k x).od = s.od := rfl
@[simp] theorem setPort_ctl (s : State) (k : Nat) (x : Port) : (s.setPort k x).ctl = s.ctl := rfl
@[simp] theorem setPort_sets (s : State) (k : Nat) (x : Port) : (s.setPort k x).sets = s.sets := rfl
@[simp] theorem setPort_armings (s : State) (k : Nat) (x : Port) : (s.setPort k x).armings = s.armings := rfl
@[simp] theorem setPort_soon (s : State) (k : Nat) (x : Port) : (s.setPort k x).soon = s.soon := rfl
@[simp] theorem setPort_undo (s : State) (k : Nat) (x : Port) : (s.setPort k x).undo = s.undo := rfl
@[simp] theorem setPort_acted (s : State) (k : Nat) (x : Port) : (s.setPort k x).acted = s.acted := rfl
@[simp] theorem setPort_meas (s : State) (k : Nat) (x : Port) : (s.setPort k x).meas = s.meas := rfl
@[simp] theorem setPort_tt (s : State) (k : Nat) (x : Port) : (s.setPort k x).tt = s.tt := rfl
@[simp] theorem setPort_chan (s : State) (k : Nat) (x : Port) : (s.setPort k x).chan = s.chan := rfl
@[simp] theorem setPort_lane (s : State) (k : Nat) (x : Port) : (s.setPort k x).lane = s.lane := rfl
@[simp] theorem setPort_cw (s : State) (k : Nat) (x : Port) : (s.setPort k x).cw = s.cw := rfl
@[simp] theorem setPort_flow (s : State) (k : Nat) (x : Port) : (s.setPort k x).flow = s.flow := rfl
@[simp] theorem setPort_net (s : State) (k : Nat) (x : Port) : (s.setPort k x).net = tset s.net k x := rfl
@[simp] theorem setPort_ring (s : State) (k : Nat) (x : Port) : (s.setPort k x).ring = s.ring := rfl
@[simp] theorem setPort_msix (s : State) (k : Nat) (x : Port) : (s.setPort k x).msix = s.msix := rfl
@[simp] theorem setPort_tb (s : State) (k : Nat) (x : Port) : (s.setPort k x).tb = s.tb := rfl
@[simp] theorem setPort_bb (s : State) (k : Nat) (x : Port) : (s.setPort k x).bb = s.bb := rfl
@[simp] theorem setPort_mews (s : State) (k : Nat) (x : Port) : (s.setPort k x).mews = s.mews := rfl
@[simp] theorem setPort_lodge (s : State) (k : Nat) (x : Port) : (s.setPort k x).lodge = s.lodge := rfl
@[simp] theorem setPort_sec (s : State) (k : Nat) (x : Port) : (s.setPort k x).sec = s.sec := rfl
@[simp] theorem setPort_ret (s : State) (k : Nat) (x : Port) : (s.setPort k x).ret = s.ret := rfl
@[simp] theorem setPort_dec (s : State) (k : Nat) (x : Port) : (s.setPort k x).dec = s.dec := rfl
@[simp] theorem setPort_audio (s : State) (k : Nat) (x : Port) : (s.setPort k x).audio = s.audio := rfl
@[simp] theorem setPort_cluster (s : State) (k : Nat) (x : Port) : (s.setPort k x).cluster = s.cluster := rfl
@[simp] theorem setPort_pair (s : State) (k : Nat) (x : Port) : (s.setPort k x).pair = s.pair := rfl
@[simp] theorem setPort_dram (s : State) (k : Nat) (x : Port) : (s.setPort k x).dram = s.dram := rfl
@[simp] theorem setPort_dramCfg (s : State) (k : Nat) (x : Port) : (s.setPort k x).dramCfg = s.dramCfg := rfl
@[simp] theorem setPort_board (s : State) (k : Nat) (x : Port) : (s.setPort k x).board = s.board := rfl
@[simp] theorem setPort_dramMem (s : State) (k : Nat) (x : Port) : (s.setPort k x).dramMem = s.dramMem := rfl
@[simp] theorem setPort_clk (s : State) (k : Nat) (x : Port) : (s.setPort k x).clk = s.clk := rfl
@[simp] theorem setPort_ptp (s : State) (k : Nat) (x : Port) : (s.setPort k x).ptp = s.ptp := rfl
@[simp] theorem setPort_cap (s : State) (k : Nat) (x : Port) : (s.setPort k x).cap = s.cap := rfl
@[simp] theorem setPort_trig (s : State) (k : Nat) (x : Port) : (s.setPort k x).trig = s.trig := rfl
@[simp] theorem setPort_cs (s : State) (k : Nat) (x : Port) : (s.setPort k x).cs = s.cs := rfl
@[simp] theorem setPort_perf (s : State) (k : Nat) (x : Port) : (s.setPort k x).perf = s.perf := rfl
@[simp] theorem setPort_jtag (s : State) (k : Nat) (x : Port) : (s.setPort k x).jtag = s.jtag := rfl

/-! setFl -/

@[simp] theorem setFl_pending (s : State) (k : Nat) (x : Flow) : (s.setFl k x).pending = s.pending := rfl
@[simp] theorem setFl_free (s : State) (k : Nat) (x : Flow) : (s.setFl k x).free = s.free := rfl
@[simp] theorem setFl_mode (s : State) (k : Nat) (x : Flow) : (s.setFl k x).mode = s.mode := rfl
@[simp] theorem setFl_moving (s : State) (k : Nat) (x : Flow) : (s.setFl k x).moving = s.moving := rfl
@[simp] theorem setFl_held (s : State) (k : Nat) (x : Flow) : (s.setFl k x).held = s.held := rfl
@[simp] theorem setFl_od (s : State) (k : Nat) (x : Flow) : (s.setFl k x).od = s.od := rfl
@[simp] theorem setFl_ctl (s : State) (k : Nat) (x : Flow) : (s.setFl k x).ctl = s.ctl := rfl
@[simp] theorem setFl_sets (s : State) (k : Nat) (x : Flow) : (s.setFl k x).sets = s.sets := rfl
@[simp] theorem setFl_armings (s : State) (k : Nat) (x : Flow) : (s.setFl k x).armings = s.armings := rfl
@[simp] theorem setFl_soon (s : State) (k : Nat) (x : Flow) : (s.setFl k x).soon = s.soon := rfl
@[simp] theorem setFl_undo (s : State) (k : Nat) (x : Flow) : (s.setFl k x).undo = s.undo := rfl
@[simp] theorem setFl_acted (s : State) (k : Nat) (x : Flow) : (s.setFl k x).acted = s.acted := rfl
@[simp] theorem setFl_meas (s : State) (k : Nat) (x : Flow) : (s.setFl k x).meas = s.meas := rfl
@[simp] theorem setFl_tt (s : State) (k : Nat) (x : Flow) : (s.setFl k x).tt = s.tt := rfl
@[simp] theorem setFl_chan (s : State) (k : Nat) (x : Flow) : (s.setFl k x).chan = s.chan := rfl
@[simp] theorem setFl_lane (s : State) (k : Nat) (x : Flow) : (s.setFl k x).lane = s.lane := rfl
@[simp] theorem setFl_cw (s : State) (k : Nat) (x : Flow) : (s.setFl k x).cw = s.cw := rfl
@[simp] theorem setFl_flow (s : State) (k : Nat) (x : Flow) : (s.setFl k x).flow = tset s.flow k x := rfl
@[simp] theorem setFl_net (s : State) (k : Nat) (x : Flow) : (s.setFl k x).net = s.net := rfl
@[simp] theorem setFl_ring (s : State) (k : Nat) (x : Flow) : (s.setFl k x).ring = s.ring := rfl
@[simp] theorem setFl_msix (s : State) (k : Nat) (x : Flow) : (s.setFl k x).msix = s.msix := rfl
@[simp] theorem setFl_tb (s : State) (k : Nat) (x : Flow) : (s.setFl k x).tb = s.tb := rfl
@[simp] theorem setFl_bb (s : State) (k : Nat) (x : Flow) : (s.setFl k x).bb = s.bb := rfl
@[simp] theorem setFl_mews (s : State) (k : Nat) (x : Flow) : (s.setFl k x).mews = s.mews := rfl
@[simp] theorem setFl_lodge (s : State) (k : Nat) (x : Flow) : (s.setFl k x).lodge = s.lodge := rfl
@[simp] theorem setFl_sec (s : State) (k : Nat) (x : Flow) : (s.setFl k x).sec = s.sec := rfl
@[simp] theorem setFl_ret (s : State) (k : Nat) (x : Flow) : (s.setFl k x).ret = s.ret := rfl
@[simp] theorem setFl_dec (s : State) (k : Nat) (x : Flow) : (s.setFl k x).dec = s.dec := rfl
@[simp] theorem setFl_audio (s : State) (k : Nat) (x : Flow) : (s.setFl k x).audio = s.audio := rfl
@[simp] theorem setFl_cluster (s : State) (k : Nat) (x : Flow) : (s.setFl k x).cluster = s.cluster := rfl
@[simp] theorem setFl_pair (s : State) (k : Nat) (x : Flow) : (s.setFl k x).pair = s.pair := rfl
@[simp] theorem setFl_dram (s : State) (k : Nat) (x : Flow) : (s.setFl k x).dram = s.dram := rfl
@[simp] theorem setFl_dramCfg (s : State) (k : Nat) (x : Flow) : (s.setFl k x).dramCfg = s.dramCfg := rfl
@[simp] theorem setFl_board (s : State) (k : Nat) (x : Flow) : (s.setFl k x).board = s.board := rfl
@[simp] theorem setFl_dramMem (s : State) (k : Nat) (x : Flow) : (s.setFl k x).dramMem = s.dramMem := rfl
@[simp] theorem setFl_clk (s : State) (k : Nat) (x : Flow) : (s.setFl k x).clk = s.clk := rfl
@[simp] theorem setFl_ptp (s : State) (k : Nat) (x : Flow) : (s.setFl k x).ptp = s.ptp := rfl
@[simp] theorem setFl_cap (s : State) (k : Nat) (x : Flow) : (s.setFl k x).cap = s.cap := rfl
@[simp] theorem setFl_trig (s : State) (k : Nat) (x : Flow) : (s.setFl k x).trig = s.trig := rfl
@[simp] theorem setFl_cs (s : State) (k : Nat) (x : Flow) : (s.setFl k x).cs = s.cs := rfl
@[simp] theorem setFl_perf (s : State) (k : Nat) (x : Flow) : (s.setFl k x).perf = s.perf := rfl
@[simp] theorem setFl_jtag (s : State) (k : Nat) (x : Flow) : (s.setFl k x).jtag = s.jtag := rfl

/-! setCh -/

@[simp] theorem setCh_pending (s : State) (k : Nat) (x : Chan) : (s.setCh k x).pending = s.pending := rfl
@[simp] theorem setCh_free (s : State) (k : Nat) (x : Chan) : (s.setCh k x).free = s.free := rfl
@[simp] theorem setCh_mode (s : State) (k : Nat) (x : Chan) : (s.setCh k x).mode = s.mode := rfl
@[simp] theorem setCh_moving (s : State) (k : Nat) (x : Chan) : (s.setCh k x).moving = s.moving := rfl
@[simp] theorem setCh_held (s : State) (k : Nat) (x : Chan) : (s.setCh k x).held = s.held := rfl
@[simp] theorem setCh_od (s : State) (k : Nat) (x : Chan) : (s.setCh k x).od = s.od := rfl
@[simp] theorem setCh_ctl (s : State) (k : Nat) (x : Chan) : (s.setCh k x).ctl = s.ctl := rfl
@[simp] theorem setCh_sets (s : State) (k : Nat) (x : Chan) : (s.setCh k x).sets = s.sets := rfl
@[simp] theorem setCh_armings (s : State) (k : Nat) (x : Chan) : (s.setCh k x).armings = s.armings := rfl
@[simp] theorem setCh_soon (s : State) (k : Nat) (x : Chan) : (s.setCh k x).soon = s.soon := rfl
@[simp] theorem setCh_undo (s : State) (k : Nat) (x : Chan) : (s.setCh k x).undo = s.undo := rfl
@[simp] theorem setCh_acted (s : State) (k : Nat) (x : Chan) : (s.setCh k x).acted = s.acted := rfl
@[simp] theorem setCh_meas (s : State) (k : Nat) (x : Chan) : (s.setCh k x).meas = s.meas := rfl
@[simp] theorem setCh_tt (s : State) (k : Nat) (x : Chan) : (s.setCh k x).tt = s.tt := rfl
@[simp] theorem setCh_chan (s : State) (k : Nat) (x : Chan) : (s.setCh k x).chan = tset s.chan k x := rfl
@[simp] theorem setCh_lane (s : State) (k : Nat) (x : Chan) : (s.setCh k x).lane = s.lane := rfl
@[simp] theorem setCh_cw (s : State) (k : Nat) (x : Chan) : (s.setCh k x).cw = s.cw := rfl
@[simp] theorem setCh_flow (s : State) (k : Nat) (x : Chan) : (s.setCh k x).flow = s.flow := rfl
@[simp] theorem setCh_net (s : State) (k : Nat) (x : Chan) : (s.setCh k x).net = s.net := rfl
@[simp] theorem setCh_ring (s : State) (k : Nat) (x : Chan) : (s.setCh k x).ring = s.ring := rfl
@[simp] theorem setCh_msix (s : State) (k : Nat) (x : Chan) : (s.setCh k x).msix = s.msix := rfl
@[simp] theorem setCh_tb (s : State) (k : Nat) (x : Chan) : (s.setCh k x).tb = s.tb := rfl
@[simp] theorem setCh_bb (s : State) (k : Nat) (x : Chan) : (s.setCh k x).bb = s.bb := rfl
@[simp] theorem setCh_mews (s : State) (k : Nat) (x : Chan) : (s.setCh k x).mews = s.mews := rfl
@[simp] theorem setCh_lodge (s : State) (k : Nat) (x : Chan) : (s.setCh k x).lodge = s.lodge := rfl
@[simp] theorem setCh_sec (s : State) (k : Nat) (x : Chan) : (s.setCh k x).sec = s.sec := rfl
@[simp] theorem setCh_ret (s : State) (k : Nat) (x : Chan) : (s.setCh k x).ret = s.ret := rfl
@[simp] theorem setCh_dec (s : State) (k : Nat) (x : Chan) : (s.setCh k x).dec = s.dec := rfl
@[simp] theorem setCh_audio (s : State) (k : Nat) (x : Chan) : (s.setCh k x).audio = s.audio := rfl
@[simp] theorem setCh_cluster (s : State) (k : Nat) (x : Chan) : (s.setCh k x).cluster = s.cluster := rfl
@[simp] theorem setCh_pair (s : State) (k : Nat) (x : Chan) : (s.setCh k x).pair = s.pair := rfl
@[simp] theorem setCh_dram (s : State) (k : Nat) (x : Chan) : (s.setCh k x).dram = s.dram := rfl
@[simp] theorem setCh_dramCfg (s : State) (k : Nat) (x : Chan) : (s.setCh k x).dramCfg = s.dramCfg := rfl
@[simp] theorem setCh_board (s : State) (k : Nat) (x : Chan) : (s.setCh k x).board = s.board := rfl
@[simp] theorem setCh_dramMem (s : State) (k : Nat) (x : Chan) : (s.setCh k x).dramMem = s.dramMem := rfl
@[simp] theorem setCh_clk (s : State) (k : Nat) (x : Chan) : (s.setCh k x).clk = s.clk := rfl
@[simp] theorem setCh_ptp (s : State) (k : Nat) (x : Chan) : (s.setCh k x).ptp = s.ptp := rfl
@[simp] theorem setCh_cap (s : State) (k : Nat) (x : Chan) : (s.setCh k x).cap = s.cap := rfl
@[simp] theorem setCh_trig (s : State) (k : Nat) (x : Chan) : (s.setCh k x).trig = s.trig := rfl
@[simp] theorem setCh_cs (s : State) (k : Nat) (x : Chan) : (s.setCh k x).cs = s.cs := rfl
@[simp] theorem setCh_perf (s : State) (k : Nat) (x : Chan) : (s.setCh k x).perf = s.perf := rfl
@[simp] theorem setCh_jtag (s : State) (k : Nat) (x : Chan) : (s.setCh k x).jtag = s.jtag := rfl

/-! setDc -/

@[simp] theorem setDc_pending (s : State) (k : Nat) (x : Decoder) : (s.setDc k x).pending = s.pending := rfl
@[simp] theorem setDc_free (s : State) (k : Nat) (x : Decoder) : (s.setDc k x).free = s.free := rfl
@[simp] theorem setDc_mode (s : State) (k : Nat) (x : Decoder) : (s.setDc k x).mode = s.mode := rfl
@[simp] theorem setDc_moving (s : State) (k : Nat) (x : Decoder) : (s.setDc k x).moving = s.moving := rfl
@[simp] theorem setDc_held (s : State) (k : Nat) (x : Decoder) : (s.setDc k x).held = s.held := rfl
@[simp] theorem setDc_od (s : State) (k : Nat) (x : Decoder) : (s.setDc k x).od = s.od := rfl
@[simp] theorem setDc_ctl (s : State) (k : Nat) (x : Decoder) : (s.setDc k x).ctl = s.ctl := rfl
@[simp] theorem setDc_sets (s : State) (k : Nat) (x : Decoder) : (s.setDc k x).sets = s.sets := rfl
@[simp] theorem setDc_armings (s : State) (k : Nat) (x : Decoder) : (s.setDc k x).armings = s.armings := rfl
@[simp] theorem setDc_soon (s : State) (k : Nat) (x : Decoder) : (s.setDc k x).soon = s.soon := rfl
@[simp] theorem setDc_undo (s : State) (k : Nat) (x : Decoder) : (s.setDc k x).undo = s.undo := rfl
@[simp] theorem setDc_acted (s : State) (k : Nat) (x : Decoder) : (s.setDc k x).acted = s.acted := rfl
@[simp] theorem setDc_meas (s : State) (k : Nat) (x : Decoder) : (s.setDc k x).meas = s.meas := rfl
@[simp] theorem setDc_tt (s : State) (k : Nat) (x : Decoder) : (s.setDc k x).tt = s.tt := rfl
@[simp] theorem setDc_chan (s : State) (k : Nat) (x : Decoder) : (s.setDc k x).chan = s.chan := rfl
@[simp] theorem setDc_lane (s : State) (k : Nat) (x : Decoder) : (s.setDc k x).lane = s.lane := rfl
@[simp] theorem setDc_cw (s : State) (k : Nat) (x : Decoder) : (s.setDc k x).cw = s.cw := rfl
@[simp] theorem setDc_flow (s : State) (k : Nat) (x : Decoder) : (s.setDc k x).flow = s.flow := rfl
@[simp] theorem setDc_net (s : State) (k : Nat) (x : Decoder) : (s.setDc k x).net = s.net := rfl
@[simp] theorem setDc_ring (s : State) (k : Nat) (x : Decoder) : (s.setDc k x).ring = s.ring := rfl
@[simp] theorem setDc_msix (s : State) (k : Nat) (x : Decoder) : (s.setDc k x).msix = s.msix := rfl
@[simp] theorem setDc_tb (s : State) (k : Nat) (x : Decoder) : (s.setDc k x).tb = s.tb := rfl
@[simp] theorem setDc_bb (s : State) (k : Nat) (x : Decoder) : (s.setDc k x).bb = s.bb := rfl
@[simp] theorem setDc_mews (s : State) (k : Nat) (x : Decoder) : (s.setDc k x).mews = s.mews := rfl
@[simp] theorem setDc_lodge (s : State) (k : Nat) (x : Decoder) : (s.setDc k x).lodge = s.lodge := rfl
@[simp] theorem setDc_sec (s : State) (k : Nat) (x : Decoder) : (s.setDc k x).sec = s.sec := rfl
@[simp] theorem setDc_ret (s : State) (k : Nat) (x : Decoder) : (s.setDc k x).ret = s.ret := rfl
@[simp] theorem setDc_dec (s : State) (k : Nat) (x : Decoder) : (s.setDc k x).dec = tset s.dec k x := rfl
@[simp] theorem setDc_audio (s : State) (k : Nat) (x : Decoder) : (s.setDc k x).audio = s.audio := rfl
@[simp] theorem setDc_cluster (s : State) (k : Nat) (x : Decoder) : (s.setDc k x).cluster = s.cluster := rfl
@[simp] theorem setDc_pair (s : State) (k : Nat) (x : Decoder) : (s.setDc k x).pair = s.pair := rfl
@[simp] theorem setDc_dram (s : State) (k : Nat) (x : Decoder) : (s.setDc k x).dram = s.dram := rfl
@[simp] theorem setDc_dramCfg (s : State) (k : Nat) (x : Decoder) : (s.setDc k x).dramCfg = s.dramCfg := rfl
@[simp] theorem setDc_board (s : State) (k : Nat) (x : Decoder) : (s.setDc k x).board = s.board := rfl
@[simp] theorem setDc_dramMem (s : State) (k : Nat) (x : Decoder) : (s.setDc k x).dramMem = s.dramMem := rfl
@[simp] theorem setDc_clk (s : State) (k : Nat) (x : Decoder) : (s.setDc k x).clk = s.clk := rfl
@[simp] theorem setDc_ptp (s : State) (k : Nat) (x : Decoder) : (s.setDc k x).ptp = s.ptp := rfl
@[simp] theorem setDc_cap (s : State) (k : Nat) (x : Decoder) : (s.setDc k x).cap = s.cap := rfl
@[simp] theorem setDc_trig (s : State) (k : Nat) (x : Decoder) : (s.setDc k x).trig = s.trig := rfl
@[simp] theorem setDc_cs (s : State) (k : Nat) (x : Decoder) : (s.setDc k x).cs = s.cs := rfl
@[simp] theorem setDc_perf (s : State) (k : Nat) (x : Decoder) : (s.setDc k x).perf = s.perf := rfl
@[simp] theorem setDc_jtag (s : State) (k : Nat) (x : Decoder) : (s.setDc k x).jtag = s.jtag := rfl

/-! setCs -/

@[simp] theorem setCs_pending (s : State) (k : Nat) (x : Turnstile) : (s.setCs k x).pending = s.pending := rfl
@[simp] theorem setCs_free (s : State) (k : Nat) (x : Turnstile) : (s.setCs k x).free = s.free := rfl
@[simp] theorem setCs_mode (s : State) (k : Nat) (x : Turnstile) : (s.setCs k x).mode = s.mode := rfl
@[simp] theorem setCs_moving (s : State) (k : Nat) (x : Turnstile) : (s.setCs k x).moving = s.moving := rfl
@[simp] theorem setCs_held (s : State) (k : Nat) (x : Turnstile) : (s.setCs k x).held = s.held := rfl
@[simp] theorem setCs_od (s : State) (k : Nat) (x : Turnstile) : (s.setCs k x).od = s.od := rfl
@[simp] theorem setCs_ctl (s : State) (k : Nat) (x : Turnstile) : (s.setCs k x).ctl = s.ctl := rfl
@[simp] theorem setCs_sets (s : State) (k : Nat) (x : Turnstile) : (s.setCs k x).sets = s.sets := rfl
@[simp] theorem setCs_armings (s : State) (k : Nat) (x : Turnstile) : (s.setCs k x).armings = s.armings := rfl
@[simp] theorem setCs_soon (s : State) (k : Nat) (x : Turnstile) : (s.setCs k x).soon = s.soon := rfl
@[simp] theorem setCs_undo (s : State) (k : Nat) (x : Turnstile) : (s.setCs k x).undo = s.undo := rfl
@[simp] theorem setCs_acted (s : State) (k : Nat) (x : Turnstile) : (s.setCs k x).acted = s.acted := rfl
@[simp] theorem setCs_meas (s : State) (k : Nat) (x : Turnstile) : (s.setCs k x).meas = s.meas := rfl
@[simp] theorem setCs_tt (s : State) (k : Nat) (x : Turnstile) : (s.setCs k x).tt = s.tt := rfl
@[simp] theorem setCs_chan (s : State) (k : Nat) (x : Turnstile) : (s.setCs k x).chan = s.chan := rfl
@[simp] theorem setCs_lane (s : State) (k : Nat) (x : Turnstile) : (s.setCs k x).lane = s.lane := rfl
@[simp] theorem setCs_cw (s : State) (k : Nat) (x : Turnstile) : (s.setCs k x).cw = s.cw := rfl
@[simp] theorem setCs_flow (s : State) (k : Nat) (x : Turnstile) : (s.setCs k x).flow = s.flow := rfl
@[simp] theorem setCs_net (s : State) (k : Nat) (x : Turnstile) : (s.setCs k x).net = s.net := rfl
@[simp] theorem setCs_ring (s : State) (k : Nat) (x : Turnstile) : (s.setCs k x).ring = s.ring := rfl
@[simp] theorem setCs_msix (s : State) (k : Nat) (x : Turnstile) : (s.setCs k x).msix = s.msix := rfl
@[simp] theorem setCs_tb (s : State) (k : Nat) (x : Turnstile) : (s.setCs k x).tb = s.tb := rfl
@[simp] theorem setCs_bb (s : State) (k : Nat) (x : Turnstile) : (s.setCs k x).bb = s.bb := rfl
@[simp] theorem setCs_mews (s : State) (k : Nat) (x : Turnstile) : (s.setCs k x).mews = s.mews := rfl
@[simp] theorem setCs_lodge (s : State) (k : Nat) (x : Turnstile) : (s.setCs k x).lodge = s.lodge := rfl
@[simp] theorem setCs_sec (s : State) (k : Nat) (x : Turnstile) : (s.setCs k x).sec = s.sec := rfl
@[simp] theorem setCs_ret (s : State) (k : Nat) (x : Turnstile) : (s.setCs k x).ret = s.ret := rfl
@[simp] theorem setCs_dec (s : State) (k : Nat) (x : Turnstile) : (s.setCs k x).dec = s.dec := rfl
@[simp] theorem setCs_audio (s : State) (k : Nat) (x : Turnstile) : (s.setCs k x).audio = s.audio := rfl
@[simp] theorem setCs_cluster (s : State) (k : Nat) (x : Turnstile) : (s.setCs k x).cluster = s.cluster := rfl
@[simp] theorem setCs_pair (s : State) (k : Nat) (x : Turnstile) : (s.setCs k x).pair = s.pair := rfl
@[simp] theorem setCs_dram (s : State) (k : Nat) (x : Turnstile) : (s.setCs k x).dram = s.dram := rfl
@[simp] theorem setCs_dramCfg (s : State) (k : Nat) (x : Turnstile) : (s.setCs k x).dramCfg = s.dramCfg := rfl
@[simp] theorem setCs_board (s : State) (k : Nat) (x : Turnstile) : (s.setCs k x).board = s.board := rfl
@[simp] theorem setCs_dramMem (s : State) (k : Nat) (x : Turnstile) : (s.setCs k x).dramMem = s.dramMem := rfl
@[simp] theorem setCs_clk (s : State) (k : Nat) (x : Turnstile) : (s.setCs k x).clk = s.clk := rfl
@[simp] theorem setCs_ptp (s : State) (k : Nat) (x : Turnstile) : (s.setCs k x).ptp = s.ptp := rfl
@[simp] theorem setCs_cap (s : State) (k : Nat) (x : Turnstile) : (s.setCs k x).cap = s.cap := rfl
@[simp] theorem setCs_trig (s : State) (k : Nat) (x : Turnstile) : (s.setCs k x).trig = s.trig := rfl
@[simp] theorem setCs_cs (s : State) (k : Nat) (x : Turnstile) : (s.setCs k x).cs = tset s.cs k x := rfl
@[simp] theorem setCs_perf (s : State) (k : Nat) (x : Turnstile) : (s.setCs k x).perf = s.perf := rfl
@[simp] theorem setCs_jtag (s : State) (k : Nat) (x : Turnstile) : (s.setCs k x).jtag = s.jtag := rfl

/-! setClk -/

@[simp] theorem setClk_pending (s : State) (x : Clock) : (s.setClk x).pending = s.pending := rfl
@[simp] theorem setClk_free (s : State) (x : Clock) : (s.setClk x).free = s.free := rfl
@[simp] theorem setClk_mode (s : State) (x : Clock) : (s.setClk x).mode = s.mode := rfl
@[simp] theorem setClk_moving (s : State) (x : Clock) : (s.setClk x).moving = s.moving := rfl
@[simp] theorem setClk_held (s : State) (x : Clock) : (s.setClk x).held = s.held := rfl
@[simp] theorem setClk_od (s : State) (x : Clock) : (s.setClk x).od = s.od := rfl
@[simp] theorem setClk_ctl (s : State) (x : Clock) : (s.setClk x).ctl = s.ctl := rfl
@[simp] theorem setClk_sets (s : State) (x : Clock) : (s.setClk x).sets = s.sets := rfl
@[simp] theorem setClk_armings (s : State) (x : Clock) : (s.setClk x).armings = s.armings := rfl
@[simp] theorem setClk_soon (s : State) (x : Clock) : (s.setClk x).soon = s.soon := rfl
@[simp] theorem setClk_undo (s : State) (x : Clock) : (s.setClk x).undo = s.undo := rfl
@[simp] theorem setClk_acted (s : State) (x : Clock) : (s.setClk x).acted = s.acted := rfl
@[simp] theorem setClk_meas (s : State) (x : Clock) : (s.setClk x).meas = s.meas := rfl
@[simp] theorem setClk_tt (s : State) (x : Clock) : (s.setClk x).tt = s.tt := rfl
@[simp] theorem setClk_chan (s : State) (x : Clock) : (s.setClk x).chan = s.chan := rfl
@[simp] theorem setClk_lane (s : State) (x : Clock) : (s.setClk x).lane = s.lane := rfl
@[simp] theorem setClk_cw (s : State) (x : Clock) : (s.setClk x).cw = s.cw := rfl
@[simp] theorem setClk_flow (s : State) (x : Clock) : (s.setClk x).flow = s.flow := rfl
@[simp] theorem setClk_net (s : State) (x : Clock) : (s.setClk x).net = s.net := rfl
@[simp] theorem setClk_ring (s : State) (x : Clock) : (s.setClk x).ring = s.ring := rfl
@[simp] theorem setClk_msix (s : State) (x : Clock) : (s.setClk x).msix = s.msix := rfl
@[simp] theorem setClk_tb (s : State) (x : Clock) : (s.setClk x).tb = s.tb := rfl
@[simp] theorem setClk_bb (s : State) (x : Clock) : (s.setClk x).bb = s.bb := rfl
@[simp] theorem setClk_mews (s : State) (x : Clock) : (s.setClk x).mews = s.mews := rfl
@[simp] theorem setClk_lodge (s : State) (x : Clock) : (s.setClk x).lodge = s.lodge := rfl
@[simp] theorem setClk_sec (s : State) (x : Clock) : (s.setClk x).sec = s.sec := rfl
@[simp] theorem setClk_ret (s : State) (x : Clock) : (s.setClk x).ret = s.ret := rfl
@[simp] theorem setClk_dec (s : State) (x : Clock) : (s.setClk x).dec = s.dec := rfl
@[simp] theorem setClk_audio (s : State) (x : Clock) : (s.setClk x).audio = s.audio := rfl
@[simp] theorem setClk_cluster (s : State) (x : Clock) : (s.setClk x).cluster = s.cluster := rfl
@[simp] theorem setClk_pair (s : State) (x : Clock) : (s.setClk x).pair = s.pair := rfl
@[simp] theorem setClk_dram (s : State) (x : Clock) : (s.setClk x).dram = s.dram := rfl
@[simp] theorem setClk_dramCfg (s : State) (x : Clock) : (s.setClk x).dramCfg = s.dramCfg := rfl
@[simp] theorem setClk_board (s : State) (x : Clock) : (s.setClk x).board = s.board := rfl
@[simp] theorem setClk_dramMem (s : State) (x : Clock) : (s.setClk x).dramMem = s.dramMem := rfl
@[simp] theorem setClk_clk (s : State) (x : Clock) : (s.setClk x).clk = x := rfl
@[simp] theorem setClk_ptp (s : State) (x : Clock) : (s.setClk x).ptp = s.ptp := rfl
@[simp] theorem setClk_cap (s : State) (x : Clock) : (s.setClk x).cap = s.cap := rfl
@[simp] theorem setClk_trig (s : State) (x : Clock) : (s.setClk x).trig = s.trig := rfl
@[simp] theorem setClk_cs (s : State) (x : Clock) : (s.setClk x).cs = s.cs := rfl
@[simp] theorem setClk_perf (s : State) (x : Clock) : (s.setClk x).perf = s.perf := rfl
@[simp] theorem setClk_jtag (s : State) (x : Clock) : (s.setClk x).jtag = s.jtag := rfl

/-! setLodge -/

@[simp] theorem setLodge_pending (s : State) (x : Lodge) : (s.setLodge x).pending = s.pending := rfl
@[simp] theorem setLodge_free (s : State) (x : Lodge) : (s.setLodge x).free = s.free := rfl
@[simp] theorem setLodge_mode (s : State) (x : Lodge) : (s.setLodge x).mode = s.mode := rfl
@[simp] theorem setLodge_moving (s : State) (x : Lodge) : (s.setLodge x).moving = s.moving := rfl
@[simp] theorem setLodge_held (s : State) (x : Lodge) : (s.setLodge x).held = s.held := rfl
@[simp] theorem setLodge_od (s : State) (x : Lodge) : (s.setLodge x).od = s.od := rfl
@[simp] theorem setLodge_ctl (s : State) (x : Lodge) : (s.setLodge x).ctl = s.ctl := rfl
@[simp] theorem setLodge_sets (s : State) (x : Lodge) : (s.setLodge x).sets = s.sets := rfl
@[simp] theorem setLodge_armings (s : State) (x : Lodge) : (s.setLodge x).armings = s.armings := rfl
@[simp] theorem setLodge_soon (s : State) (x : Lodge) : (s.setLodge x).soon = s.soon := rfl
@[simp] theorem setLodge_undo (s : State) (x : Lodge) : (s.setLodge x).undo = s.undo := rfl
@[simp] theorem setLodge_acted (s : State) (x : Lodge) : (s.setLodge x).acted = s.acted := rfl
@[simp] theorem setLodge_meas (s : State) (x : Lodge) : (s.setLodge x).meas = s.meas := rfl
@[simp] theorem setLodge_tt (s : State) (x : Lodge) : (s.setLodge x).tt = s.tt := rfl
@[simp] theorem setLodge_chan (s : State) (x : Lodge) : (s.setLodge x).chan = s.chan := rfl
@[simp] theorem setLodge_lane (s : State) (x : Lodge) : (s.setLodge x).lane = s.lane := rfl
@[simp] theorem setLodge_cw (s : State) (x : Lodge) : (s.setLodge x).cw = s.cw := rfl
@[simp] theorem setLodge_flow (s : State) (x : Lodge) : (s.setLodge x).flow = s.flow := rfl
@[simp] theorem setLodge_net (s : State) (x : Lodge) : (s.setLodge x).net = s.net := rfl
@[simp] theorem setLodge_ring (s : State) (x : Lodge) : (s.setLodge x).ring = s.ring := rfl
@[simp] theorem setLodge_msix (s : State) (x : Lodge) : (s.setLodge x).msix = s.msix := rfl
@[simp] theorem setLodge_tb (s : State) (x : Lodge) : (s.setLodge x).tb = s.tb := rfl
@[simp] theorem setLodge_bb (s : State) (x : Lodge) : (s.setLodge x).bb = s.bb := rfl
@[simp] theorem setLodge_mews (s : State) (x : Lodge) : (s.setLodge x).mews = s.mews := rfl
@[simp] theorem setLodge_lodge (s : State) (x : Lodge) : (s.setLodge x).lodge = x := rfl
@[simp] theorem setLodge_sec (s : State) (x : Lodge) : (s.setLodge x).sec = s.sec := rfl
@[simp] theorem setLodge_ret (s : State) (x : Lodge) : (s.setLodge x).ret = s.ret := rfl
@[simp] theorem setLodge_dec (s : State) (x : Lodge) : (s.setLodge x).dec = s.dec := rfl
@[simp] theorem setLodge_audio (s : State) (x : Lodge) : (s.setLodge x).audio = s.audio := rfl
@[simp] theorem setLodge_cluster (s : State) (x : Lodge) : (s.setLodge x).cluster = s.cluster := rfl
@[simp] theorem setLodge_pair (s : State) (x : Lodge) : (s.setLodge x).pair = s.pair := rfl
@[simp] theorem setLodge_dram (s : State) (x : Lodge) : (s.setLodge x).dram = s.dram := rfl
@[simp] theorem setLodge_dramCfg (s : State) (x : Lodge) : (s.setLodge x).dramCfg = s.dramCfg := rfl
@[simp] theorem setLodge_board (s : State) (x : Lodge) : (s.setLodge x).board = s.board := rfl
@[simp] theorem setLodge_dramMem (s : State) (x : Lodge) : (s.setLodge x).dramMem = s.dramMem := rfl
@[simp] theorem setLodge_clk (s : State) (x : Lodge) : (s.setLodge x).clk = s.clk := rfl
@[simp] theorem setLodge_ptp (s : State) (x : Lodge) : (s.setLodge x).ptp = s.ptp := rfl
@[simp] theorem setLodge_cap (s : State) (x : Lodge) : (s.setLodge x).cap = s.cap := rfl
@[simp] theorem setLodge_trig (s : State) (x : Lodge) : (s.setLodge x).trig = s.trig := rfl
@[simp] theorem setLodge_cs (s : State) (x : Lodge) : (s.setLodge x).cs = s.cs := rfl
@[simp] theorem setLodge_perf (s : State) (x : Lodge) : (s.setLodge x).perf = s.perf := rfl
@[simp] theorem setLodge_jtag (s : State) (x : Lodge) : (s.setLodge x).jtag = s.jtag := rfl

/-! setStall -/

@[simp] theorem setStall_pending (s : State) (k : Nat) (x : Stall) : (s.setStall k x).pending = s.pending := rfl
@[simp] theorem setStall_free (s : State) (k : Nat) (x : Stall) : (s.setStall k x).free = s.free := rfl
@[simp] theorem setStall_mode (s : State) (k : Nat) (x : Stall) : (s.setStall k x).mode = s.mode := rfl
@[simp] theorem setStall_moving (s : State) (k : Nat) (x : Stall) : (s.setStall k x).moving = s.moving := rfl
@[simp] theorem setStall_held (s : State) (k : Nat) (x : Stall) : (s.setStall k x).held = s.held := rfl
@[simp] theorem setStall_od (s : State) (k : Nat) (x : Stall) : (s.setStall k x).od = s.od := rfl
@[simp] theorem setStall_ctl (s : State) (k : Nat) (x : Stall) : (s.setStall k x).ctl = s.ctl := rfl
@[simp] theorem setStall_sets (s : State) (k : Nat) (x : Stall) : (s.setStall k x).sets = s.sets := rfl
@[simp] theorem setStall_armings (s : State) (k : Nat) (x : Stall) : (s.setStall k x).armings = s.armings := rfl
@[simp] theorem setStall_soon (s : State) (k : Nat) (x : Stall) : (s.setStall k x).soon = s.soon := rfl
@[simp] theorem setStall_undo (s : State) (k : Nat) (x : Stall) : (s.setStall k x).undo = s.undo := rfl
@[simp] theorem setStall_acted (s : State) (k : Nat) (x : Stall) : (s.setStall k x).acted = s.acted := rfl
@[simp] theorem setStall_meas (s : State) (k : Nat) (x : Stall) : (s.setStall k x).meas = s.meas := rfl
@[simp] theorem setStall_tt (s : State) (k : Nat) (x : Stall) : (s.setStall k x).tt = s.tt := rfl
@[simp] theorem setStall_chan (s : State) (k : Nat) (x : Stall) : (s.setStall k x).chan = s.chan := rfl
@[simp] theorem setStall_lane (s : State) (k : Nat) (x : Stall) : (s.setStall k x).lane = s.lane := rfl
@[simp] theorem setStall_cw (s : State) (k : Nat) (x : Stall) : (s.setStall k x).cw = s.cw := rfl
@[simp] theorem setStall_flow (s : State) (k : Nat) (x : Stall) : (s.setStall k x).flow = s.flow := rfl
@[simp] theorem setStall_net (s : State) (k : Nat) (x : Stall) : (s.setStall k x).net = s.net := rfl
@[simp] theorem setStall_ring (s : State) (k : Nat) (x : Stall) : (s.setStall k x).ring = s.ring := rfl
@[simp] theorem setStall_msix (s : State) (k : Nat) (x : Stall) : (s.setStall k x).msix = s.msix := rfl
@[simp] theorem setStall_tb (s : State) (k : Nat) (x : Stall) : (s.setStall k x).tb = s.tb := rfl
@[simp] theorem setStall_bb (s : State) (k : Nat) (x : Stall) : (s.setStall k x).bb = s.bb := rfl
@[simp] theorem setStall_mews (s : State) (k : Nat) (x : Stall) : (s.setStall k x).mews = { s.mews with stalls := tset s.mews.stalls k x } := rfl
@[simp] theorem setStall_lodge (s : State) (k : Nat) (x : Stall) : (s.setStall k x).lodge = s.lodge := rfl
@[simp] theorem setStall_sec (s : State) (k : Nat) (x : Stall) : (s.setStall k x).sec = s.sec := rfl
@[simp] theorem setStall_ret (s : State) (k : Nat) (x : Stall) : (s.setStall k x).ret = s.ret := rfl
@[simp] theorem setStall_dec (s : State) (k : Nat) (x : Stall) : (s.setStall k x).dec = s.dec := rfl
@[simp] theorem setStall_audio (s : State) (k : Nat) (x : Stall) : (s.setStall k x).audio = s.audio := rfl
@[simp] theorem setStall_cluster (s : State) (k : Nat) (x : Stall) : (s.setStall k x).cluster = s.cluster := rfl
@[simp] theorem setStall_pair (s : State) (k : Nat) (x : Stall) : (s.setStall k x).pair = s.pair := rfl
@[simp] theorem setStall_dram (s : State) (k : Nat) (x : Stall) : (s.setStall k x).dram = s.dram := rfl
@[simp] theorem setStall_dramCfg (s : State) (k : Nat) (x : Stall) : (s.setStall k x).dramCfg = s.dramCfg := rfl
@[simp] theorem setStall_board (s : State) (k : Nat) (x : Stall) : (s.setStall k x).board = s.board := rfl
@[simp] theorem setStall_dramMem (s : State) (k : Nat) (x : Stall) : (s.setStall k x).dramMem = s.dramMem := rfl
@[simp] theorem setStall_clk (s : State) (k : Nat) (x : Stall) : (s.setStall k x).clk = s.clk := rfl
@[simp] theorem setStall_ptp (s : State) (k : Nat) (x : Stall) : (s.setStall k x).ptp = s.ptp := rfl
@[simp] theorem setStall_cap (s : State) (k : Nat) (x : Stall) : (s.setStall k x).cap = s.cap := rfl
@[simp] theorem setStall_trig (s : State) (k : Nat) (x : Stall) : (s.setStall k x).trig = s.trig := rfl
@[simp] theorem setStall_cs (s : State) (k : Nat) (x : Stall) : (s.setStall k x).cs = s.cs := rfl
@[simp] theorem setStall_perf (s : State) (k : Nat) (x : Stall) : (s.setStall k x).perf = s.perf := rfl
@[simp] theorem setStall_jtag (s : State) (k : Nat) (x : Stall) : (s.setStall k x).jtag = s.jtag := rfl

/-! setPav -/

@[simp] theorem setPav_pending (s : State) (k : Nat) (x : Engine) : (s.setPav k x).pending = s.pending := rfl
@[simp] theorem setPav_free (s : State) (k : Nat) (x : Engine) : (s.setPav k x).free = s.free := rfl
@[simp] theorem setPav_mode (s : State) (k : Nat) (x : Engine) : (s.setPav k x).mode = s.mode := rfl
@[simp] theorem setPav_moving (s : State) (k : Nat) (x : Engine) : (s.setPav k x).moving = s.moving := rfl
@[simp] theorem setPav_held (s : State) (k : Nat) (x : Engine) : (s.setPav k x).held = s.held := rfl
@[simp] theorem setPav_od (s : State) (k : Nat) (x : Engine) : (s.setPav k x).od = s.od := rfl
@[simp] theorem setPav_ctl (s : State) (k : Nat) (x : Engine) : (s.setPav k x).ctl = s.ctl := rfl
@[simp] theorem setPav_sets (s : State) (k : Nat) (x : Engine) : (s.setPav k x).sets = s.sets := rfl
@[simp] theorem setPav_armings (s : State) (k : Nat) (x : Engine) : (s.setPav k x).armings = s.armings := rfl
@[simp] theorem setPav_soon (s : State) (k : Nat) (x : Engine) : (s.setPav k x).soon = s.soon := rfl
@[simp] theorem setPav_undo (s : State) (k : Nat) (x : Engine) : (s.setPav k x).undo = s.undo := rfl
@[simp] theorem setPav_acted (s : State) (k : Nat) (x : Engine) : (s.setPav k x).acted = s.acted := rfl
@[simp] theorem setPav_meas (s : State) (k : Nat) (x : Engine) : (s.setPav k x).meas = s.meas := rfl
@[simp] theorem setPav_tt (s : State) (k : Nat) (x : Engine) : (s.setPav k x).tt = s.tt := rfl
@[simp] theorem setPav_chan (s : State) (k : Nat) (x : Engine) : (s.setPav k x).chan = s.chan := rfl
@[simp] theorem setPav_lane (s : State) (k : Nat) (x : Engine) : (s.setPav k x).lane = s.lane := rfl
@[simp] theorem setPav_cw (s : State) (k : Nat) (x : Engine) : (s.setPav k x).cw = s.cw := rfl
@[simp] theorem setPav_flow (s : State) (k : Nat) (x : Engine) : (s.setPav k x).flow = s.flow := rfl
@[simp] theorem setPav_net (s : State) (k : Nat) (x : Engine) : (s.setPav k x).net = s.net := rfl
@[simp] theorem setPav_ring (s : State) (k : Nat) (x : Engine) : (s.setPav k x).ring = s.ring := rfl
@[simp] theorem setPav_msix (s : State) (k : Nat) (x : Engine) : (s.setPav k x).msix = s.msix := rfl
@[simp] theorem setPav_tb (s : State) (k : Nat) (x : Engine) : (s.setPav k x).tb = s.tb := rfl
@[simp] theorem setPav_bb (s : State) (k : Nat) (x : Engine) : (s.setPav k x).bb = s.bb := rfl
@[simp] theorem setPav_mews (s : State) (k : Nat) (x : Engine) : (s.setPav k x).mews = { s.mews with pavs := tset s.mews.pavs k x } := rfl
@[simp] theorem setPav_lodge (s : State) (k : Nat) (x : Engine) : (s.setPav k x).lodge = s.lodge := rfl
@[simp] theorem setPav_sec (s : State) (k : Nat) (x : Engine) : (s.setPav k x).sec = s.sec := rfl
@[simp] theorem setPav_ret (s : State) (k : Nat) (x : Engine) : (s.setPav k x).ret = s.ret := rfl
@[simp] theorem setPav_dec (s : State) (k : Nat) (x : Engine) : (s.setPav k x).dec = s.dec := rfl
@[simp] theorem setPav_audio (s : State) (k : Nat) (x : Engine) : (s.setPav k x).audio = s.audio := rfl
@[simp] theorem setPav_cluster (s : State) (k : Nat) (x : Engine) : (s.setPav k x).cluster = s.cluster := rfl
@[simp] theorem setPav_pair (s : State) (k : Nat) (x : Engine) : (s.setPav k x).pair = s.pair := rfl
@[simp] theorem setPav_dram (s : State) (k : Nat) (x : Engine) : (s.setPav k x).dram = s.dram := rfl
@[simp] theorem setPav_dramCfg (s : State) (k : Nat) (x : Engine) : (s.setPav k x).dramCfg = s.dramCfg := rfl
@[simp] theorem setPav_board (s : State) (k : Nat) (x : Engine) : (s.setPav k x).board = s.board := rfl
@[simp] theorem setPav_dramMem (s : State) (k : Nat) (x : Engine) : (s.setPav k x).dramMem = s.dramMem := rfl
@[simp] theorem setPav_clk (s : State) (k : Nat) (x : Engine) : (s.setPav k x).clk = s.clk := rfl
@[simp] theorem setPav_ptp (s : State) (k : Nat) (x : Engine) : (s.setPav k x).ptp = s.ptp := rfl
@[simp] theorem setPav_cap (s : State) (k : Nat) (x : Engine) : (s.setPav k x).cap = s.cap := rfl
@[simp] theorem setPav_trig (s : State) (k : Nat) (x : Engine) : (s.setPav k x).trig = s.trig := rfl
@[simp] theorem setPav_cs (s : State) (k : Nat) (x : Engine) : (s.setPav k x).cs = s.cs := rfl
@[simp] theorem setPav_perf (s : State) (k : Nat) (x : Engine) : (s.setPav k x).perf = s.perf := rfl
@[simp] theorem setPav_jtag (s : State) (k : Nat) (x : Engine) : (s.setPav k x).jtag = s.jtag := rfl

/-! setEu -/

@[simp] theorem setEu_pending (s : State) (k : Nat) (x : Engine) : (s.setEu k x).pending = s.pending := rfl
@[simp] theorem setEu_free (s : State) (k : Nat) (x : Engine) : (s.setEu k x).free = s.free := rfl
@[simp] theorem setEu_mode (s : State) (k : Nat) (x : Engine) : (s.setEu k x).mode = s.mode := rfl
@[simp] theorem setEu_moving (s : State) (k : Nat) (x : Engine) : (s.setEu k x).moving = s.moving := rfl
@[simp] theorem setEu_held (s : State) (k : Nat) (x : Engine) : (s.setEu k x).held = s.held := rfl
@[simp] theorem setEu_od (s : State) (k : Nat) (x : Engine) : (s.setEu k x).od = s.od := rfl
@[simp] theorem setEu_ctl (s : State) (k : Nat) (x : Engine) : (s.setEu k x).ctl = s.ctl := rfl
@[simp] theorem setEu_sets (s : State) (k : Nat) (x : Engine) : (s.setEu k x).sets = s.sets := rfl
@[simp] theorem setEu_armings (s : State) (k : Nat) (x : Engine) : (s.setEu k x).armings = s.armings := rfl
@[simp] theorem setEu_soon (s : State) (k : Nat) (x : Engine) : (s.setEu k x).soon = s.soon := rfl
@[simp] theorem setEu_undo (s : State) (k : Nat) (x : Engine) : (s.setEu k x).undo = s.undo := rfl
@[simp] theorem setEu_acted (s : State) (k : Nat) (x : Engine) : (s.setEu k x).acted = s.acted := rfl
@[simp] theorem setEu_meas (s : State) (k : Nat) (x : Engine) : (s.setEu k x).meas = s.meas := rfl
@[simp] theorem setEu_tt (s : State) (k : Nat) (x : Engine) : (s.setEu k x).tt = s.tt := rfl
@[simp] theorem setEu_chan (s : State) (k : Nat) (x : Engine) : (s.setEu k x).chan = s.chan := rfl
@[simp] theorem setEu_lane (s : State) (k : Nat) (x : Engine) : (s.setEu k x).lane = s.lane := rfl
@[simp] theorem setEu_cw (s : State) (k : Nat) (x : Engine) : (s.setEu k x).cw = s.cw := rfl
@[simp] theorem setEu_flow (s : State) (k : Nat) (x : Engine) : (s.setEu k x).flow = s.flow := rfl
@[simp] theorem setEu_net (s : State) (k : Nat) (x : Engine) : (s.setEu k x).net = s.net := rfl
@[simp] theorem setEu_ring (s : State) (k : Nat) (x : Engine) : (s.setEu k x).ring = s.ring := rfl
@[simp] theorem setEu_msix (s : State) (k : Nat) (x : Engine) : (s.setEu k x).msix = s.msix := rfl
@[simp] theorem setEu_tb (s : State) (k : Nat) (x : Engine) : (s.setEu k x).tb = s.tb := rfl
@[simp] theorem setEu_bb (s : State) (k : Nat) (x : Engine) : (s.setEu k x).bb = s.bb := rfl
@[simp] theorem setEu_mews (s : State) (k : Nat) (x : Engine) : (s.setEu k x).mews = { s.mews with eus := tset s.mews.eus k x } := rfl
@[simp] theorem setEu_lodge (s : State) (k : Nat) (x : Engine) : (s.setEu k x).lodge = s.lodge := rfl
@[simp] theorem setEu_sec (s : State) (k : Nat) (x : Engine) : (s.setEu k x).sec = s.sec := rfl
@[simp] theorem setEu_ret (s : State) (k : Nat) (x : Engine) : (s.setEu k x).ret = s.ret := rfl
@[simp] theorem setEu_dec (s : State) (k : Nat) (x : Engine) : (s.setEu k x).dec = s.dec := rfl
@[simp] theorem setEu_audio (s : State) (k : Nat) (x : Engine) : (s.setEu k x).audio = s.audio := rfl
@[simp] theorem setEu_cluster (s : State) (k : Nat) (x : Engine) : (s.setEu k x).cluster = s.cluster := rfl
@[simp] theorem setEu_pair (s : State) (k : Nat) (x : Engine) : (s.setEu k x).pair = s.pair := rfl
@[simp] theorem setEu_dram (s : State) (k : Nat) (x : Engine) : (s.setEu k x).dram = s.dram := rfl
@[simp] theorem setEu_dramCfg (s : State) (k : Nat) (x : Engine) : (s.setEu k x).dramCfg = s.dramCfg := rfl
@[simp] theorem setEu_board (s : State) (k : Nat) (x : Engine) : (s.setEu k x).board = s.board := rfl
@[simp] theorem setEu_dramMem (s : State) (k : Nat) (x : Engine) : (s.setEu k x).dramMem = s.dramMem := rfl
@[simp] theorem setEu_clk (s : State) (k : Nat) (x : Engine) : (s.setEu k x).clk = s.clk := rfl
@[simp] theorem setEu_ptp (s : State) (k : Nat) (x : Engine) : (s.setEu k x).ptp = s.ptp := rfl
@[simp] theorem setEu_cap (s : State) (k : Nat) (x : Engine) : (s.setEu k x).cap = s.cap := rfl
@[simp] theorem setEu_trig (s : State) (k : Nat) (x : Engine) : (s.setEu k x).trig = s.trig := rfl
@[simp] theorem setEu_cs (s : State) (k : Nat) (x : Engine) : (s.setEu k x).cs = s.cs := rfl
@[simp] theorem setEu_perf (s : State) (k : Nat) (x : Engine) : (s.setEu k x).perf = s.perf := rfl
@[simp] theorem setEu_jtag (s : State) (k : Nat) (x : Engine) : (s.setEu k x).jtag = s.jtag := rfl

/-! setAp -/

@[simp] theorem setAp_pending (s : State) (k : Nat) (x : AudioPort) : (s.setAp k x).pending = s.pending := rfl
@[simp] theorem setAp_free (s : State) (k : Nat) (x : AudioPort) : (s.setAp k x).free = s.free := rfl
@[simp] theorem setAp_mode (s : State) (k : Nat) (x : AudioPort) : (s.setAp k x).mode = s.mode := rfl
@[simp] theorem setAp_moving (s : State) (k : Nat) (x : AudioPort) : (s.setAp k x).moving = s.moving := rfl
@[simp] theorem setAp_held (s : State) (k : Nat) (x : AudioPort) : (s.setAp k x).held = s.held := rfl
@[simp] theorem setAp_od (s : State) (k : Nat) (x : AudioPort) : (s.setAp k x).od = s.od := rfl
@[simp] theorem setAp_ctl (s : State) (k : Nat) (x : AudioPort) : (s.setAp k x).ctl = s.ctl := rfl
@[simp] theorem setAp_sets (s : State) (k : Nat) (x : AudioPort) : (s.setAp k x).sets = s.sets := rfl
@[simp] theorem setAp_armings (s : State) (k : Nat) (x : AudioPort) : (s.setAp k x).armings = s.armings := rfl
@[simp] theorem setAp_soon (s : State) (k : Nat) (x : AudioPort) : (s.setAp k x).soon = s.soon := rfl
@[simp] theorem setAp_undo (s : State) (k : Nat) (x : AudioPort) : (s.setAp k x).undo = s.undo := rfl
@[simp] theorem setAp_acted (s : State) (k : Nat) (x : AudioPort) : (s.setAp k x).acted = s.acted := rfl
@[simp] theorem setAp_meas (s : State) (k : Nat) (x : AudioPort) : (s.setAp k x).meas = s.meas := rfl
@[simp] theorem setAp_tt (s : State) (k : Nat) (x : AudioPort) : (s.setAp k x).tt = s.tt := rfl
@[simp] theorem setAp_chan (s : State) (k : Nat) (x : AudioPort) : (s.setAp k x).chan = s.chan := rfl
@[simp] theorem setAp_lane (s : State) (k : Nat) (x : AudioPort) : (s.setAp k x).lane = s.lane := rfl
@[simp] theorem setAp_cw (s : State) (k : Nat) (x : AudioPort) : (s.setAp k x).cw = s.cw := rfl
@[simp] theorem setAp_flow (s : State) (k : Nat) (x : AudioPort) : (s.setAp k x).flow = s.flow := rfl
@[simp] theorem setAp_net (s : State) (k : Nat) (x : AudioPort) : (s.setAp k x).net = s.net := rfl
@[simp] theorem setAp_ring (s : State) (k : Nat) (x : AudioPort) : (s.setAp k x).ring = s.ring := rfl
@[simp] theorem setAp_msix (s : State) (k : Nat) (x : AudioPort) : (s.setAp k x).msix = s.msix := rfl
@[simp] theorem setAp_tb (s : State) (k : Nat) (x : AudioPort) : (s.setAp k x).tb = s.tb := rfl
@[simp] theorem setAp_bb (s : State) (k : Nat) (x : AudioPort) : (s.setAp k x).bb = s.bb := rfl
@[simp] theorem setAp_mews (s : State) (k : Nat) (x : AudioPort) : (s.setAp k x).mews = s.mews := rfl
@[simp] theorem setAp_lodge (s : State) (k : Nat) (x : AudioPort) : (s.setAp k x).lodge = s.lodge := rfl
@[simp] theorem setAp_sec (s : State) (k : Nat) (x : AudioPort) : (s.setAp k x).sec = s.sec := rfl
@[simp] theorem setAp_ret (s : State) (k : Nat) (x : AudioPort) : (s.setAp k x).ret = s.ret := rfl
@[simp] theorem setAp_dec (s : State) (k : Nat) (x : AudioPort) : (s.setAp k x).dec = s.dec := rfl
@[simp] theorem setAp_audio (s : State) (k : Nat) (x : AudioPort) : (s.setAp k x).audio = { s.audio with ports := tset s.audio.ports k x } := rfl
@[simp] theorem setAp_cluster (s : State) (k : Nat) (x : AudioPort) : (s.setAp k x).cluster = s.cluster := rfl
@[simp] theorem setAp_pair (s : State) (k : Nat) (x : AudioPort) : (s.setAp k x).pair = s.pair := rfl
@[simp] theorem setAp_dram (s : State) (k : Nat) (x : AudioPort) : (s.setAp k x).dram = s.dram := rfl
@[simp] theorem setAp_dramCfg (s : State) (k : Nat) (x : AudioPort) : (s.setAp k x).dramCfg = s.dramCfg := rfl
@[simp] theorem setAp_board (s : State) (k : Nat) (x : AudioPort) : (s.setAp k x).board = s.board := rfl
@[simp] theorem setAp_dramMem (s : State) (k : Nat) (x : AudioPort) : (s.setAp k x).dramMem = s.dramMem := rfl
@[simp] theorem setAp_clk (s : State) (k : Nat) (x : AudioPort) : (s.setAp k x).clk = s.clk := rfl
@[simp] theorem setAp_ptp (s : State) (k : Nat) (x : AudioPort) : (s.setAp k x).ptp = s.ptp := rfl
@[simp] theorem setAp_cap (s : State) (k : Nat) (x : AudioPort) : (s.setAp k x).cap = s.cap := rfl
@[simp] theorem setAp_trig (s : State) (k : Nat) (x : AudioPort) : (s.setAp k x).trig = s.trig := rfl
@[simp] theorem setAp_cs (s : State) (k : Nat) (x : AudioPort) : (s.setAp k x).cs = s.cs := rfl
@[simp] theorem setAp_perf (s : State) (k : Nat) (x : AudioPort) : (s.setAp k x).perf = s.perf := rfl
@[simp] theorem setAp_jtag (s : State) (k : Nat) (x : AudioPort) : (s.setAp k x).jtag = s.jtag := rfl

/-! setTtl -/

@[simp] theorem setTtl_pending (s : State) (k : Nat) (x : List TtEntry) : (s.setTtl k x).pending = s.pending := rfl
@[simp] theorem setTtl_free (s : State) (k : Nat) (x : List TtEntry) : (s.setTtl k x).free = s.free := rfl
@[simp] theorem setTtl_mode (s : State) (k : Nat) (x : List TtEntry) : (s.setTtl k x).mode = s.mode := rfl
@[simp] theorem setTtl_moving (s : State) (k : Nat) (x : List TtEntry) : (s.setTtl k x).moving = s.moving := rfl
@[simp] theorem setTtl_held (s : State) (k : Nat) (x : List TtEntry) : (s.setTtl k x).held = s.held := rfl
@[simp] theorem setTtl_ctl (s : State) (k : Nat) (x : List TtEntry) : (s.setTtl k x).ctl = s.ctl := rfl
@[simp] theorem setTtl_sets (s : State) (k : Nat) (x : List TtEntry) : (s.setTtl k x).sets = s.sets := rfl
@[simp] theorem setTtl_armings (s : State) (k : Nat) (x : List TtEntry) : (s.setTtl k x).armings = s.armings := rfl
@[simp] theorem setTtl_soon (s : State) (k : Nat) (x : List TtEntry) : (s.setTtl k x).soon = s.soon := rfl
@[simp] theorem setTtl_undo (s : State) (k : Nat) (x : List TtEntry) : (s.setTtl k x).undo = s.undo := rfl
@[simp] theorem setTtl_acted (s : State) (k : Nat) (x : List TtEntry) : (s.setTtl k x).acted = s.acted := rfl
@[simp] theorem setTtl_meas (s : State) (k : Nat) (x : List TtEntry) : (s.setTtl k x).meas = s.meas := rfl
@[simp] theorem setTtl_tt (s : State) (k : Nat) (x : List TtEntry) : (s.setTtl k x).tt = s.tt.set k x := rfl
@[simp] theorem setTtl_chan (s : State) (k : Nat) (x : List TtEntry) : (s.setTtl k x).chan = s.chan := rfl
@[simp] theorem setTtl_lane (s : State) (k : Nat) (x : List TtEntry) : (s.setTtl k x).lane = s.lane := rfl
@[simp] theorem setTtl_cw (s : State) (k : Nat) (x : List TtEntry) : (s.setTtl k x).cw = s.cw := rfl
@[simp] theorem setTtl_flow (s : State) (k : Nat) (x : List TtEntry) : (s.setTtl k x).flow = s.flow := rfl
@[simp] theorem setTtl_net (s : State) (k : Nat) (x : List TtEntry) : (s.setTtl k x).net = s.net := rfl
@[simp] theorem setTtl_ring (s : State) (k : Nat) (x : List TtEntry) : (s.setTtl k x).ring = s.ring := rfl
@[simp] theorem setTtl_msix (s : State) (k : Nat) (x : List TtEntry) : (s.setTtl k x).msix = s.msix := rfl
@[simp] theorem setTtl_tb (s : State) (k : Nat) (x : List TtEntry) : (s.setTtl k x).tb = s.tb := rfl
@[simp] theorem setTtl_bb (s : State) (k : Nat) (x : List TtEntry) : (s.setTtl k x).bb = s.bb := rfl
@[simp] theorem setTtl_mews (s : State) (k : Nat) (x : List TtEntry) : (s.setTtl k x).mews = s.mews := rfl
@[simp] theorem setTtl_lodge (s : State) (k : Nat) (x : List TtEntry) : (s.setTtl k x).lodge = s.lodge := rfl
@[simp] theorem setTtl_sec (s : State) (k : Nat) (x : List TtEntry) : (s.setTtl k x).sec = s.sec := rfl
@[simp] theorem setTtl_ret (s : State) (k : Nat) (x : List TtEntry) : (s.setTtl k x).ret = s.ret := rfl
@[simp] theorem setTtl_dec (s : State) (k : Nat) (x : List TtEntry) : (s.setTtl k x).dec = s.dec := rfl
@[simp] theorem setTtl_audio (s : State) (k : Nat) (x : List TtEntry) : (s.setTtl k x).audio = s.audio := rfl
@[simp] theorem setTtl_cluster (s : State) (k : Nat) (x : List TtEntry) : (s.setTtl k x).cluster = s.cluster := rfl
@[simp] theorem setTtl_pair (s : State) (k : Nat) (x : List TtEntry) : (s.setTtl k x).pair = s.pair := rfl
@[simp] theorem setTtl_dram (s : State) (k : Nat) (x : List TtEntry) : (s.setTtl k x).dram = s.dram := rfl
@[simp] theorem setTtl_dramCfg (s : State) (k : Nat) (x : List TtEntry) : (s.setTtl k x).dramCfg = s.dramCfg := rfl
@[simp] theorem setTtl_board (s : State) (k : Nat) (x : List TtEntry) : (s.setTtl k x).board = s.board := rfl
@[simp] theorem setTtl_dramMem (s : State) (k : Nat) (x : List TtEntry) : (s.setTtl k x).dramMem = s.dramMem := rfl
@[simp] theorem setTtl_clk (s : State) (k : Nat) (x : List TtEntry) : (s.setTtl k x).clk = s.clk := rfl
@[simp] theorem setTtl_ptp (s : State) (k : Nat) (x : List TtEntry) : (s.setTtl k x).ptp = s.ptp := rfl
@[simp] theorem setTtl_cap (s : State) (k : Nat) (x : List TtEntry) : (s.setTtl k x).cap = s.cap := rfl
@[simp] theorem setTtl_trig (s : State) (k : Nat) (x : List TtEntry) : (s.setTtl k x).trig = s.trig := rfl
@[simp] theorem setTtl_cs (s : State) (k : Nat) (x : List TtEntry) : (s.setTtl k x).cs = s.cs := rfl
@[simp] theorem setTtl_perf (s : State) (k : Nat) (x : List TtEntry) : (s.setTtl k x).perf = s.perf := rfl
@[simp] theorem setTtl_jtag (s : State) (k : Nat) (x : List TtEntry) : (s.setTtl k x).jtag = s.jtag := rfl

/-! setDch -/

@[simp] theorem setDch_pending (s : State) (k : Nat) (x : DramChan) : (s.setDch k x).pending = s.pending := rfl
@[simp] theorem setDch_free (s : State) (k : Nat) (x : DramChan) : (s.setDch k x).free = s.free := rfl
@[simp] theorem setDch_mode (s : State) (k : Nat) (x : DramChan) : (s.setDch k x).mode = s.mode := rfl
@[simp] theorem setDch_moving (s : State) (k : Nat) (x : DramChan) : (s.setDch k x).moving = s.moving := rfl
@[simp] theorem setDch_held (s : State) (k : Nat) (x : DramChan) : (s.setDch k x).held = s.held := rfl
@[simp] theorem setDch_ctl (s : State) (k : Nat) (x : DramChan) : (s.setDch k x).ctl = s.ctl := rfl
@[simp] theorem setDch_sets (s : State) (k : Nat) (x : DramChan) : (s.setDch k x).sets = s.sets := rfl
@[simp] theorem setDch_armings (s : State) (k : Nat) (x : DramChan) : (s.setDch k x).armings = s.armings := rfl
@[simp] theorem setDch_soon (s : State) (k : Nat) (x : DramChan) : (s.setDch k x).soon = s.soon := rfl
@[simp] theorem setDch_undo (s : State) (k : Nat) (x : DramChan) : (s.setDch k x).undo = s.undo := rfl
@[simp] theorem setDch_acted (s : State) (k : Nat) (x : DramChan) : (s.setDch k x).acted = s.acted := rfl
@[simp] theorem setDch_meas (s : State) (k : Nat) (x : DramChan) : (s.setDch k x).meas = s.meas := rfl
@[simp] theorem setDch_tt (s : State) (k : Nat) (x : DramChan) : (s.setDch k x).tt = s.tt := rfl
@[simp] theorem setDch_chan (s : State) (k : Nat) (x : DramChan) : (s.setDch k x).chan = s.chan := rfl
@[simp] theorem setDch_lane (s : State) (k : Nat) (x : DramChan) : (s.setDch k x).lane = s.lane := rfl
@[simp] theorem setDch_cw (s : State) (k : Nat) (x : DramChan) : (s.setDch k x).cw = s.cw := rfl
@[simp] theorem setDch_flow (s : State) (k : Nat) (x : DramChan) : (s.setDch k x).flow = s.flow := rfl
@[simp] theorem setDch_net (s : State) (k : Nat) (x : DramChan) : (s.setDch k x).net = s.net := rfl
@[simp] theorem setDch_ring (s : State) (k : Nat) (x : DramChan) : (s.setDch k x).ring = s.ring := rfl
@[simp] theorem setDch_msix (s : State) (k : Nat) (x : DramChan) : (s.setDch k x).msix = s.msix := rfl
@[simp] theorem setDch_tb (s : State) (k : Nat) (x : DramChan) : (s.setDch k x).tb = s.tb := rfl
@[simp] theorem setDch_bb (s : State) (k : Nat) (x : DramChan) : (s.setDch k x).bb = s.bb := rfl
@[simp] theorem setDch_mews (s : State) (k : Nat) (x : DramChan) : (s.setDch k x).mews = s.mews := rfl
@[simp] theorem setDch_lodge (s : State) (k : Nat) (x : DramChan) : (s.setDch k x).lodge = s.lodge := rfl
@[simp] theorem setDch_sec (s : State) (k : Nat) (x : DramChan) : (s.setDch k x).sec = s.sec := rfl
@[simp] theorem setDch_ret (s : State) (k : Nat) (x : DramChan) : (s.setDch k x).ret = s.ret := rfl
@[simp] theorem setDch_dec (s : State) (k : Nat) (x : DramChan) : (s.setDch k x).dec = s.dec := rfl
@[simp] theorem setDch_audio (s : State) (k : Nat) (x : DramChan) : (s.setDch k x).audio = s.audio := rfl
@[simp] theorem setDch_cluster (s : State) (k : Nat) (x : DramChan) : (s.setDch k x).cluster = s.cluster := rfl
@[simp] theorem setDch_pair (s : State) (k : Nat) (x : DramChan) : (s.setDch k x).pair = s.pair := rfl
@[simp] theorem setDch_dram (s : State) (k : Nat) (x : DramChan) : (s.setDch k x).dram = tset s.dram k x := rfl
@[simp] theorem setDch_dramCfg (s : State) (k : Nat) (x : DramChan) : (s.setDch k x).dramCfg = s.dramCfg := rfl
@[simp] theorem setDch_board (s : State) (k : Nat) (x : DramChan) : (s.setDch k x).board = s.board := rfl
@[simp] theorem setDch_dramMem (s : State) (k : Nat) (x : DramChan) : (s.setDch k x).dramMem = s.dramMem := rfl
@[simp] theorem setDch_clk (s : State) (k : Nat) (x : DramChan) : (s.setDch k x).clk = s.clk := rfl
@[simp] theorem setDch_ptp (s : State) (k : Nat) (x : DramChan) : (s.setDch k x).ptp = s.ptp := rfl
@[simp] theorem setDch_cap (s : State) (k : Nat) (x : DramChan) : (s.setDch k x).cap = s.cap := rfl
@[simp] theorem setDch_trig (s : State) (k : Nat) (x : DramChan) : (s.setDch k x).trig = s.trig := rfl
@[simp] theorem setDch_cs (s : State) (k : Nat) (x : DramChan) : (s.setDch k x).cs = s.cs := rfl
@[simp] theorem setDch_perf (s : State) (k : Nat) (x : DramChan) : (s.setDch k x).perf = s.perf := rfl
@[simp] theorem setDch_jtag (s : State) (k : Nat) (x : DramChan) : (s.setDch k x).jtag = s.jtag := rfl

/-! say -/

@[simp] theorem say_pending (s : State) (k n : Nat) (x : List Nat) : (s.say k n x).pending = s.pending := rfl
@[simp] theorem say_free (s : State) (k n : Nat) (x : List Nat) : (s.say k n x).free = s.free := rfl
@[simp] theorem say_mode (s : State) (k n : Nat) (x : List Nat) : (s.say k n x).mode = s.mode := rfl
@[simp] theorem say_moving (s : State) (k n : Nat) (x : List Nat) : (s.say k n x).moving = s.moving := rfl
@[simp] theorem say_held (s : State) (k n : Nat) (x : List Nat) : (s.say k n x).held = s.held := rfl
@[simp] theorem say_od (s : State) (k n : Nat) (x : List Nat) : (s.say k n x).od = s.od := rfl
@[simp] theorem say_ctl (s : State) (k n : Nat) (x : List Nat) : (s.say k n x).ctl = s.ctl := rfl
@[simp] theorem say_sets (s : State) (k n : Nat) (x : List Nat) : (s.say k n x).sets = s.sets := rfl
@[simp] theorem say_armings (s : State) (k n : Nat) (x : List Nat) : (s.say k n x).armings = s.armings := rfl
@[simp] theorem say_soon (s : State) (k n : Nat) (x : List Nat) : (s.say k n x).soon = s.soon := rfl
@[simp] theorem say_undo (s : State) (k n : Nat) (x : List Nat) : (s.say k n x).undo = s.undo := rfl
@[simp] theorem say_acted (s : State) (k n : Nat) (x : List Nat) : (s.say k n x).acted = s.acted := rfl
@[simp] theorem say_meas (s : State) (k n : Nat) (x : List Nat) : (s.say k n x).meas = s.meas := rfl
@[simp] theorem say_tt (s : State) (k n : Nat) (x : List Nat) : (s.say k n x).tt = s.tt := rfl
@[simp] theorem say_chan (s : State) (k n : Nat) (x : List Nat) : (s.say k n x).chan = s.chan := rfl
@[simp] theorem say_lane (s : State) (k n : Nat) (x : List Nat) : (s.say k n x).lane = s.lane := rfl
@[simp] theorem say_cw (s : State) (k n : Nat) (x : List Nat) : (s.say k n x).cw = s.cw := rfl
@[simp] theorem say_flow (s : State) (k n : Nat) (x : List Nat) : (s.say k n x).flow = s.flow := rfl
@[simp] theorem say_net (s : State) (k n : Nat) (x : List Nat) : (s.say k n x).net = s.net := rfl
@[simp] theorem say_ring (s : State) (k n : Nat) (x : List Nat) : (s.say k n x).ring = s.ring := rfl
@[simp] theorem say_msix (s : State) (k n : Nat) (x : List Nat) : (s.say k n x).msix = s.msix := rfl
@[simp] theorem say_tb (s : State) (k n : Nat) (x : List Nat) : (s.say k n x).tb = s.tb := rfl
@[simp] theorem say_bb (s : State) (k n : Nat) (x : List Nat) : (s.say k n x).bb = s.bb := rfl
@[simp] theorem say_mews (s : State) (k n : Nat) (x : List Nat) : (s.say k n x).mews = s.mews := rfl
@[simp] theorem say_lodge (s : State) (k n : Nat) (x : List Nat) : (s.say k n x).lodge = s.lodge := rfl
@[simp] theorem say_sec (s : State) (k n : Nat) (x : List Nat) : (s.say k n x).sec = s.sec := rfl
@[simp] theorem say_ret (s : State) (k n : Nat) (x : List Nat) : (s.say k n x).ret = s.ret := rfl
@[simp] theorem say_dec (s : State) (k n : Nat) (x : List Nat) : (s.say k n x).dec = s.dec := rfl
@[simp] theorem say_audio (s : State) (k n : Nat) (x : List Nat) : (s.say k n x).audio = s.audio := rfl
@[simp] theorem say_cluster (s : State) (k n : Nat) (x : List Nat) : (s.say k n x).cluster = { s.cluster with out := (⟨k, n, x⟩ :: s.cluster.out).take 64 } := rfl
@[simp] theorem say_pair (s : State) (k n : Nat) (x : List Nat) : (s.say k n x).pair = s.pair := rfl
@[simp] theorem say_dram (s : State) (k n : Nat) (x : List Nat) : (s.say k n x).dram = s.dram := rfl
@[simp] theorem say_dramCfg (s : State) (k n : Nat) (x : List Nat) : (s.say k n x).dramCfg = s.dramCfg := rfl
@[simp] theorem say_board (s : State) (k n : Nat) (x : List Nat) : (s.say k n x).board = s.board := rfl
@[simp] theorem say_dramMem (s : State) (k n : Nat) (x : List Nat) : (s.say k n x).dramMem = s.dramMem := rfl
@[simp] theorem say_clk (s : State) (k n : Nat) (x : List Nat) : (s.say k n x).clk = s.clk := rfl
@[simp] theorem say_ptp (s : State) (k n : Nat) (x : List Nat) : (s.say k n x).ptp = s.ptp := rfl
@[simp] theorem say_cap (s : State) (k n : Nat) (x : List Nat) : (s.say k n x).cap = s.cap := rfl
@[simp] theorem say_trig (s : State) (k n : Nat) (x : List Nat) : (s.say k n x).trig = s.trig := rfl
@[simp] theorem say_cs (s : State) (k n : Nat) (x : List Nat) : (s.say k n x).cs = s.cs := rfl
@[simp] theorem say_perf (s : State) (k n : Nat) (x : List Nat) : (s.say k n x).perf = s.perf := rfl
@[simp] theorem say_jtag (s : State) (k n : Nat) (x : List Nat) : (s.say k n x).jtag = s.jtag := rfl

/-! A unit that is read after one was changed -/

/-- What setSet leaves of every unit. -/
theorem set_setSet (s : State) (k j : Nat) (x : StageSet) : (s.setSet k x).set j = if j = k then x else s.set j := by
  simp only [State.set, tgetD, setSet_sets, tget_tset]; split <;> rfl
/-- What setRg leaves of every unit. -/
theorem rg_setRg (s : State) (k j : Nat) (x : Ring) : (s.setRg k x).rg j = if j = k then x else s.rg j := by
  simp only [State.rg, tgetD, setRg_ring, tget_tset]; split <;> rfl
/-- What setLane leaves of every unit. -/
theorem laneAt_setLane (s : State) (k j : Nat) (x : Lane) : (s.setLane k x).laneAt j = if j = k then x else s.laneAt j := by
  simp only [State.laneAt, tgetD, setLane_lane, tget_tset]; split <;> rfl
/-- What setCw leaves of every unit. -/
theorem cwAt_setCw (s : State) (k j : Nat) (x : CwPort) : (s.setCw k x).cwAt j = if j = k then x else s.cwAt j := by
  simp only [State.cwAt, tgetD, setCw_cw, tget_tset]; split <;> rfl
/-- What setPort leaves of every unit. -/
theorem port_setPort (s : State) (k j : Nat) (x : Port) : (s.setPort k x).port j = if j = k then x else s.port j := by
  simp only [State.port, tgetD, setPort_net, tget_tset]; split <;> rfl
/-- What setFl leaves of every unit. -/
theorem fl_setFl (s : State) (k j : Nat) (x : Flow) : (s.setFl k x).fl j = if j = k then x else s.fl j := by
  simp only [State.fl, tgetD, setFl_flow, tget_tset]; split <;> rfl
/-- What setCh leaves of every unit. -/
theorem ch_setCh (s : State) (k j : Nat) (x : Chan) : (s.setCh k x).ch j = if j = k then x else s.ch j := by
  simp only [State.ch, tgetD, setCh_chan, tget_tset]; split <;> rfl
/-- What setDc leaves of every unit. -/
theorem dc_setDc (s : State) (k j : Nat) (x : Decoder) : (s.setDc k x).dc j = if j = k then x else s.dc j := by
  simp only [State.dc, tgetD, setDc_dec, tget_tset]; split <;> rfl
/-- What setCs leaves of every unit. -/
theorem csu_setCs (s : State) (k j : Nat) (x : Turnstile) : (s.setCs k x).csu j = if j = k then x else s.csu j := by
  simp only [State.csu, tgetD, setCs_cs, tget_tset]; split <;> rfl
/-- What setPav leaves of every unit. -/
theorem pav_setPav (s : State) (k j : Nat) (x : Engine) : (s.setPav k x).pav j = if j = k then x else s.pav j := by
  simp only [State.pav, tgetD, setPav_mews, tget_tset]; split <;> rfl
/-- What setEu leaves of every unit. -/
theorem eu_setEu (s : State) (k j : Nat) (x : Engine) : (s.setEu k x).eu j = if j = k then x else s.eu j := by
  simp only [State.eu, tgetD, setEu_mews, tget_tset]; split <;> rfl
/-- What setAp leaves of every unit. -/
theorem ap_setAp (s : State) (k j : Nat) (x : AudioPort) : (s.setAp k x).ap j = if j = k then x else s.ap j := by
  simp only [State.ap, tgetD, setAp_audio, tget_tset]; split <;> rfl
/-- What setDch leaves of every unit. -/
theorem dch_setDch (s : State) (k j : Nat) (x : DramChan) : (s.setDch k x).dch j = if j = k then x else s.dch j := by
  simp only [State.dch, tgetD, setDch_dram, tget_tset]; split <;> rfl
/-- What setStall leaves of every stall. -/
theorem stall_setStall (s : State) (k j : Nat) (x : Stall) : (s.setStall k x).stall j = if j = k then some x else s.stall j := by
  simp only [State.stall, setStall_mews, tget_tset]


/-! Objects read after one was set -/

/-- An object reads as it was put. -/
theorem nat_put_same (s : State) {i j : Nat} (v : Int) (h : j < 256) : (s.put i j v).nat i j = v.toNat := odNat_odSet_same _ _ h
theorem num_put_same (s : State) {i j : Nat} (v : Int) (h : j < 256) : (s.put i j v).num i j = v := odNum_odSet_same _ _ h
/-- Another object reads as before. -/
theorem nat_put_ne (s : State) {i j a b : Nat} (v : Int) (h : okey a b ≠ okey i j) : (s.put i j v).nat a b = s.nat a b :=
  odNat_odSet_ne _ _ h
theorem num_put_ne (s : State) {i j a b : Nat} (v : Int) (h : okey a b ≠ okey i j) : (s.put i j v).num a b = s.num a b :=
  odNum_odSet_ne _ _ h

/-- A counter advances by one and wraps at 2^32; its wrap flag is another object. -/
theorem nat_bump_same (s : State) {i j fi fj : Nat} (hj : j < 256) (h : okey i j ≠ okey fi fj) :
    (s.bump i j fi fj).nat i j = (s.nat i j + 1) % 4294967296 := by
  unfold State.nat
  simp only [bump_od, odBump, odCount]
  split
  · next hl => rw [odNat_odSet_same _ _ hj]; omega
  · next hl => rw [odSetFlag, odNat_odSet_ne _ _ h, odNat_odSet_same _ _ hj]; omega
/-- Neither a counter nor its wrap flag: another object reads as before. -/
theorem nat_bump_ne (s : State) {i j fi fj a b : Nat} (h : okey a b ≠ okey i j) (k : okey a b ≠ okey fi fj) :
    (s.bump i j fi fj).nat a b = s.nat a b := by
  unfold State.nat
  simp only [bump_od, odBump, odCount]
  split
  · rw [odNat_odSet_ne _ _ h]
  · rw [odSetFlag, odNat_odSet_ne _ _ k, odNat_odSet_ne _ _ h]

/-- Objects are read from the dictionary alone. -/
theorem nat_of_od {s t : State} (h : t.od = s.od) (i j : Nat) : t.nat i j = s.nat i j := by unfold State.nat; rw [h]
theorem num_of_od {s t : State} (h : t.od = s.od) (i j : Nat) : t.num i j = s.num i j := by unfold State.num; rw [h]

end Sys2Proof.Machine
end

