-- ==== Sys2Proof/Laws/Commands.lean ====
section
/-! SUPPORT. Laws/Commands.lean: what a command object's WRITE does once it is taken (R45, R109), and what an answer and a
counted commit leave as they are. -/

namespace Sys2Proof.Machine

/-- What `f` reads is kept through a fold of steps that keep it. -/
theorem foldl_keeps {α β : Type} (f : State → β) (l : List α) (g : State → α → State) (s : State)
    (h : ∀ t a, f (g t a) = f t) : f (l.foldl g s) = f s := by
  induction l generalizing s with
  | nil => rfl
  | cons a r ih => exact (ih _).trans (h s a)

/-! A counted commit (R78, R84) -/

/-- A commit that is counted changes the dictionary and the trigger generators only. -/
theorem countCommit_frame (s : State) (t r : Nat) :
    ∃ od trig, s.countCommit t r = { s with od := od, trig := trig } := by
  unfold State.countCommit
  have key : ∀ (l : List Nat) (u : State), (∃ od trig, u = { s with od := od, trig := trig }) →
      ∃ od trig, l.foldl (fun (u : State) k => u.pulse k t) u = { s with od := od, trig := trig } := by
    intro l
    induction l with
    | nil => intro u h; exact h
    | cons k r ih =>
      rintro u ⟨od, trig, rfl⟩
      refine ih _ ?_
      unfold State.pulse
      simp only
      split
      · exact ⟨_, _, rfl⟩
      · exact ⟨_, _, rfl⟩
  exact key _ _ ⟨_, _, rfl⟩

/-- Other objects than its sequence, its time and the generators' counts read as before it. -/
theorem countCommit_num (s : State) (t r : Nat) {i j : Nat} (hj : j < 256) (h : i ≠ 0x1200) (h2 : i < 0x1520 ∨ 0x1530 ≤ i) :
    (s.countCommit t r).num i j = s.num i j := by
  have hp : ∀ (u : State) (k : Nat), k < 16 → (u.pulse k t).num i j = u.num i j := by
    intro u k hk
    unfold State.pulse
    simp only
    split
    · rfl
    · exact num_put_ne _ _ (by rw [Ne, okey_inj hj (by decide)]; omega)
  have key : ∀ (l : List Nat) (u : State), (∀ k ∈ l, k < 16) → (l.foldl (fun (u : State) k => u.pulse k t) u).num i j = u.num i j := by
    intro l
    induction l with
    | nil => intro u _; rfl
    | cons k r ih =>
      intro u hk
      exact (ih _ (fun q hq => hk q (List.mem_cons_of_mem _ hq))).trans (hp u k (hk k (List.mem_cons_self ..)))
  unfold State.countCommit
  rw [key]
  · show odNum (odSet (odSet _ _ _ _) _ _ _) _ _ = _
    rw [odNum_odSet_ne _ _ (by rw [Ne, okey_inj hj (by decide)]; omega),
      odNum_odSet_ne _ _ (by rw [Ne, okey_inj hj (by decide)]; omega)]
    rfl
  · intro k hk
    exact List.mem_range.1 (List.mem_filter.1 hk).1

theorem countCommit_nat (s : State) (t r : Nat) {i j : Nat} (hj : j < 256) (h : i ≠ 0x1200) (h2 : i < 0x1520 ∨ 0x1530 ≤ i) :
    (s.countCommit t r).nat i j = s.nat i j := congrArg Int.toNat (countCommit_num s t r hj h h2)

/-! A command object written -/

/-- The WRITE that carries one command object, as a service. -/
def commandService (h : ReqHdr) (i j len : Nat) (v : Val) : Service :=
  { code := 0x11, req := .write (bareHdr h) [⟨⟨i, j⟩, len, v⟩], objs := [⟨i, j⟩], writes := true }

/-- With nothing waiting, what waits for the tick changes nothing. -/
theorem runSoon_nil {s : State} (h : s.soon = []) : s.runSoon = s := by simp [State.runSoon, h]

/-- A taken command object whose verdict is OK waits for the tick, and the request is answered OK. -/
theorem Takes.waits {s R : State} {h : ReqHdr} {x : Session} {i j len : Nat} {v : Val} {bad : List Nat} (H : Takes s h x i j len v)
    (hi : i < 0xC000) (hc : commandObject i j = true) (hp : ∀ u : State, u.offPath i j (entryVal i j len v) = none)
    (hu : ((s.taken h (commandService h i j len v) x).obey ⟨x.cls, x.cred, x.perms, none⟩ i j (entryVal i j len v) bad).1 = .ok)
    (hR : s.writeCommand h i j len v bad = R) : Waits s R h x i j (entryVal i j len v) bad := by
  have hs := taken_eq (v := commandService h i j len v) H.accepts.session
  have hw := taken_who (v := commandService h i j len v) H.accepts.session
  let T := s.taken h (commandService h i j len v) x
  have hlab : T.labOpen ⟨x.cls, x.cred, x.perms, none⟩ i = false := by
    unfold State.labOpen; simp [Nat.not_le.2 hi]
  have hent : T.entryCode ⟨x.cls, x.cred, x.perms, none⟩ i j len v false false = .ok := by
    show (s.taken h (commandService h i j len v) x).entryCode ⟨x.cls, x.cred, x.perms, none⟩ i j len v false false = .ok
    rw [hs, ← H.checked]; unfold State.going; split <;> rfl
  have harm : T.armedSets.any (fun k => (tget (T.set k).writes (okey i j)).isSome) = false := by
    show (s.taken h (commandService h i j len v) x).armedSets.any
      (fun k => (tget ((s.taken h (commandService h i j len v) x).set k).writes (okey i j)).isSome) = false
    rw [hs, ← H.unarmed]; unfold State.going; split <;> rfl
  have hsoon : T.soon = [] := by
    show (s.taken h (commandService h i j len v) x).soon = []
    rw [hs, ← H.clear]; unfold State.going; split <;> rfl
  have hcut : T.cutsOff h.path i j (entryVal i j len v) = false := by
    unfold State.cutsOff; simp [hp]
  have hent' : T.writeEntry ⟨x.cls, x.cred, x.perms, none⟩ h.path ⟨⟨i, j⟩, len, v⟩ bad =
      ⟨.ok, none, T.later (okey i j) (entryVal i j len v) ⟨x.cls, x.cred, x.perms, none⟩ bad true⟩ := by
    unfold State.writeEntry State.writeValue
    simp only [hlab, hent, hcut, harm, hc, runSoon_nil hsoon, Bool.false_eq_true, if_false, if_true, ne_eq, not_true_eq_false]
    rw [show (T.obey ⟨x.cls, x.cred, x.perms, none⟩ i j (entryVal i j len v) bad).1 = .ok from hu]
    simp
  have H' : Accepts s h (commandService h i j len v) x := H.accepts
  have hb := H'.small (statusWords [.ok]) (by decide)
  have hrun := H'.reply (R := R) (y := x.taken h (commandService h i j len v) s.now)
    (run := fun id t => let r := t.writeEntry (t.who id) h.path ⟨⟨i, j⟩, len, v⟩ bad; (some (.ok, statusWords [r.code]), r.st))
    hR .ok (statusWords [.ok])
    (T.later (okey i j) (entryVal i j len v) ⟨x.cls, x.cred, x.perms, none⟩ bad true)
    (by
      show (some (Code.ok, statusWords [(T.writeEntry (T.who h.session) h.path ⟨⟨i, j⟩, len, v⟩ bad).code]),
        (T.writeEntry (T.who h.session) h.path ⟨⟨i, j⟩, len, v⟩ bad).st) = _
      rw [show T.who h.session = ⟨x.cls, x.cred, x.perms, none⟩ from hw, hent']) hb
    (by
      show tget T.ctl.sessions h.session = _
      exact taken_session H'.session) rfl
    (by simp [Session.taken, H'.idle]) (by simp [commandService])
  obtain ⟨m, q, k, r, e, hq⟩ := hrun
  refine ⟨?_, hq⟩
  rw [e]
  simp only [State.answered, State.later, hsoon, List.nil_append]
  show State.mk .. = State.mk ..
  have hT : ∀ {β : Type} (f : State → β), (∀ c, f { s with ctl := c } = f s) → f T = f s := by
    intro β f hf
    show f (s.taken h (commandService h i j len v) x) = f s
    rw [hs]; unfold State.going; split <;> exact hf _
  congr 1 <;> exact hT _ (fun _ => rfl)

/-! A tick that brings one commit (R45) -/

theorem Idle.set {u : State} (H : Idle u) (k : Nat) : u.set k = {} := by simp [State.set, H.sets, tgetD]
theorem Idle.ttl {u : State} (H : Idle u) {k : Nat} (hk : k < 4) : u.ttl k = [] := by
  have : k = 0 ∨ k = 1 ∨ k = 2 ∨ k = 3 := by omega
  unfold State.ttl; rw [H.entries]; rcases this with rfl | rfl | rfl | rfl <;> rfl

theorem Idle.runList {u : State} (H : Idle u) {k : Nat} (hk : k < 4) : u.runList k = u := by
  simp [State.runList, State.dueEntries, H.ttl hk]

theorem foldl_still {α : Type} (l : List α) (g : State → α → State) (u : State) (h : ∀ a ∈ l, g u a = u) : l.foldl g u = u := by
  induction l with
  | nil => rfl
  | cons a r ih =>
    rw [List.foldl_cons, h a (List.mem_cons_self ..)]
    exact ih (fun b hb => h b (List.mem_cons_of_mem _ hb))

/-- A session with nothing to hear hears nothing (R115–R117). -/
theorem Idle.inform {u : State} (H : Idle u) (id : Nat) : u.inform id = u := by
  unfold State.inform State.changeNotices State.deliver
  rcases hx : tget u.ctl.sessions id with _ | x
  · simp [hx]
  · obtain ⟨kv, hk, -, rfl⟩ := tget_find hx
    obtain ⟨h1, h2⟩ := H.ears kv hk
    simp [hx, h1, h2]

/-- A machine with nothing for the tick to look at is as the commits of the tick leave it. -/
theorem Idle.rest {s u : State} (H : Idle u) (hs : s.runSoon = u) : s.runTick = u := by
  have hset := H.set
  unfold State.runTick
  simp only [hs]
  have e1 : [0, 1, 2, 3].foldl State.runList u = u :=
    foldl_still _ _ _ (fun k hk => H.runList (by simp at hk; omega))
  have e2 : u.standbyDone = u := by simp [State.standbyDone, H.moving]
  have e3 : setNumbers.foldl State.splitView u = u := foldl_still _ _ _ (fun k _ => by simp [State.splitView, hset])
  have e4 : u.snapsNow = u := by simp [State.snapsNow, H.snaps]
  have e5 : setNumbers.foldl State.closeReply u = u := foldl_still _ _ _ (fun k _ => by
    unfold State.closeReply State.replySet; simp [hset])
  have e6 : u.dropSnaps = u := by simp [State.dropSnaps, H.snaps]
  have e7 : rwSets.foldl State.settleWrite u = u := foldl_still _ _ _ (fun k _ => by simp [State.settleWrite, hset])
  have e8 : (tkeys u.ctl.sessions).foldl State.inform u = u := foldl_still _ _ _ (fun k _ => H.inform k)
  simp only [e1, e2, e3, e4, e5, e6, e7, e8]

/-- A tick for which one commit waits carries it out, and brings nothing else where the commit leaves nothing else to bring. -/
theorem AtTick.run {s u : State} {w : Soon} (H : AtTick s w) (hu : ({ s.advance with soon := [] } : State).runSoon1 w = u)
    (hi : Idle u) : exec .timetableTick s = .next u := by
  have hc := H.clocked
  have hsoon : s.advance.soon = [w] := by
    rw [← H.waits]; unfold State.advance; simp only; split <;> split <;> rfl
  have hr : s.advance.runSoon = u := by
    unfold State.runSoon
    rw [hsoon]
    simp only [List.foldl_cons, List.foldl_nil, hsoon, List.isEmpty_cons, Bool.false_eq_true, if_false, List.tail_cons]
    exact hu
  simp only [exec, execTimetableTick, hc, if_true, hi.rest hr]

end Sys2Proof.Machine
end

