-- ==== Sys2Proof/Machine/TestPort.lean ====
section
/-! DEFINITION. TestPort.lean: the IEEE 1149.1 test port (R650). -/

namespace Sys2Proof.Machine

/-- Whether RESET_N is held low in a life-cycle state, BLANK or RETURN, that opens the whole port (R650). -/
def State.portOpen (s : State) : Bool := s.lodge.held && (s.sec.lcs == 0 || s.sec.lcs == 3)
/-- Whether the test port offers an instruction (R650): BYPASS and IDCODE always, SAMPLE/PRELOAD and EXTEST only while the
port is open. -/
def State.portOffers (s : State) : TestInstr → Bool
  | .bypass => true
  | .idcode => true
  | .samplePreload => s.portOpen
  | .extest => s.portOpen
/-- The instruction that the test port runs (R650): the one selected, or BYPASS once it is no longer offered.
[PRESUMED: log entry 105] -/
def State.portRuns (s : State) : TestInstr := if s.portOffers s.jtag then s.jtag else .bypass
/-- An instruction shifted into the port (R650): one that is not offered selects BYPASS. [PRESUMED: log entry 105] -/
def State.selectTest (i : TestInstr) (s : State) : State :=
  { s with jtag := if s.portOffers i then i else .bypass }

end Sys2Proof.Machine
end

