-- ==== Sys2Proof/Tests/Slice0.lean ====
section
/-! SUPPORT. Slice0.lean: tests of the model against the spec's own numbers, ill-formed commands that the check refuses, and
for every statement that has hypotheses a concrete case that meets them together. -/

set_option linter.all false
set_option Elab.async false
set_option maxRecDepth 20000

open Sys2Proof Sys2Proof.Machine

namespace Sys2Proof.Tests

/-! Helpers -/

/-- A session of Service class on the mailbox. -/
def ses : Session := { path := 2, cls := 2, cred := 1 }
/-- A request header on it. -/
def hd : ReqHdr :=
  { path := 2, version := 1, node := 0, txid := 7, session := 1, counter := 1, length := 64, auth := true, tagOk := true,
    bodyOk := true }
/-- The device in SERVICE with one session open. -/
def upAs (x : Session) : State := { State.reset with mode := .service, ctl := { sessions := [(1, x)] } }
/-- The device in SERVICE with the session of Service class open. -/
def up : State := upAs ses
/-- A row of the object dictionary. -/
def row_ (i j : Nat) : OdRow := (odRow i j).getD ⟨0, 0, 0, 0, 0, 0, 0, .num 0, 0, 0, 0, 0, 0⟩
/-- A handshake that began at 0. -/
def hs : State := { State.reset with ctl := { hands := [(1, { path := 2, began := 0 })] } }
/-- A machine at PTP time `n` ns. -/
def at_ (n : Nat) (s : State) : State := { s with tb := { s.tb with t0 := (n : Int) * q48, everLocked := true } }
/-- Objects at given values. -/
def ods (l : List (Nat × Nat × Int)) : Tab Val := l.foldl (fun m x => odSet m x.1 x.2.1 x.2.2) []
/-- The next state that a command answers. -/
def nx (c : Instr) (s : State) : State := match exec c s with | .next t => t | _ => s

theorem accepts_of {s : State} {h : ReqHdr} {v : Service} {x : Session}
    (a : s.mode ≠ .dormant ∧ s.lodge.held = false ∧ h.path ≤ 2 ∧ s.hears h = true ∧
      (h.path = 2 → s.ctl.mbx.busy = false ∧ s.ctl.mbx.rspValid = false) ∧ h.version = 1 ∧
      h.length ≤ pathBody h.path ∧ h.session ≠ 0 ∧ tget s.ctl.sessions h.session = some x ∧ h.auth = true ∧ h.tagOk = true ∧
      x.rx < h.counter ∧ x.kept.find? (fun k => k.ask.same (askOf h v)) = none ∧ x.slots = [] ∧ s.nodeCode h v = .ok ∧
      s.relays h v = false ∧ h.bodyOk = true) : Accepts s h v x := by
  obtain ⟨a, b, c, d, e, f, g, i, j, k, l, m, n, o, p, q, r⟩ := a
  exact ⟨a, b, c, d, e, f, g, i, j, k, l, m, n, o, p, q, r⟩

theorem takes_of {s : State} {h : ReqHdr} {x : Session} {i j len : Nat} {v : Val}
    (a : Accepts s h { code := 0x11, req := .write (bareHdr h) [⟨⟨i, j⟩, len, v⟩], objs := [⟨i, j⟩], writes := true } x)
    (b : s.entryCode ⟨x.cls, x.cred, x.perms, none⟩ i j len v false false = .ok ∧
      s.armedSets.any (fun k => (tget (s.set k).writes (okey i j)).isSome) = false ∧ s.soon = []) : Takes s h x i j len v :=
  ⟨a, b.1, b.2.1, b.2.2⟩

theorem atTick_of {s : State} {w : Soon}
    (a : s.clocked = true ∧ s.tt = [[], [], [], []] ∧ s.sets = [] ∧ s.moving = none ∧ s.ctl.snaps = [] ∧ s.soon = [w] ∧
      ∀ kv ∈ s.ctl.sessions, kv.2.subs = [] ∧ kv.2.queue = []) : AtTick s w :=
  ⟨a.1, ⟨a.2.1, a.2.2.1, a.2.2.2.1, a.2.2.2.2.1, a.2.2.2.2.2.2⟩, a.2.2.2.2.2.1⟩

theorem fires_of {s : State} {k : Nat} {v : Int} {r : LodgeRule}
    (a : k < 64 ∧ s.lodge.rules[k]? = some r ∧ s.lodge.powered = true ∧ r.active s.mode = true ∧ r.holds v = true ∧
      s.inputReads r.input v = true ∧ s.lodge.conds.contains k = false) : Fires s k v r := by
  obtain ⟨a, b, c, d, e, f, g⟩ := a
  exact ⟨a, b, c, d, e, f, g⟩

theorem quiet_of {s : State} {n : Nat}
    (a : s.sets = [] ∧ (s.ch n).pend = [] ∧ (s.ch n).stopping = none ∧ (s.cfg n).enable = true ∧ s.moving = none ∧
      s.pair.state = 0 ∧ s.pc n = {} ∧ tget s.cluster.spans n = none)
    (b : (List.range (s.cfg n).h).all (fun l => (tget (s.ch n).have_ l).isSome) = true ∨ (s.ch n).running = false) :
    Quiet s n := by
  obtain ⟨a1, a2, a3, a4, a5, a6, a7, a8⟩ := a
  refine ⟨a1, a2, a3, a4, a5, a6, a7, a8, fun h l k => ?_⟩
  rcases b with b | b
  · exact List.all_eq_true.1 b l (List.mem_range.2 k)
  · rw [b] at h; cases h

theorem no_some {α : Type} {o : Option α} {P : α → Prop} (h : o.isSome = false) : ∀ p, o = some p → P p := by
  intro p e; rw [e] at h; cases h

theorem stalls_of {s : State} {i k : Nat} {x : Stall}
    (a : ∀ kv ∈ s.mews.stalls, kv.1 ≠ i → kv.2.kind = 5 → kv.2.flow = x.flow → kv.2.chan = x.chan → kv.1 = k) :
    ∀ j z, s.stall j = some z → j ≠ i → z.kind = 5 → z.flow = x.flow → z.chan = x.chan → j = k := by
  intro j z h
  obtain ⟨kv, m, e, f⟩ := tget_find h
  subst e f
  exact a kv m

theorem below {P : Nat → Prop} (n : Nat) (h : ∀ j, j < n → 1 ≤ j → P j) : ∀ j, 1 ≤ j → j < n → P j :=
  fun j a b => h j b a

theorem upto {P : Nat → Prop} (n : Nat) (h : ∀ j, j < n + 1 → 1 ≤ j → P j) : ∀ j, 1 ≤ j → j ≤ n → P j :=
  fun j a b => h j (Nat.lt_succ_of_le b) a

theorem quarter {P : Nat → Prop} {q : Nat} (a : q < 4) (h : ∀ k, k < 16 → k / 4 = q → P k) : ∀ k, k / 4 = q → P k :=
  fun k b => h k (by omega) b

theorem exec_nx {c : Instr} {s : State} (h : (match exec c s with | .next _ => true | _ => false) = true) :
    exec c s = .next (nx c s) := by
  unfold nx
  generalize exec c s = o at h ⊢
  cases o <;> first | rfl | cases h

/-- A SNAPSHOT of the mode object. -/
def snapOfMode : Service :=
  { code := 0x30, req := .snapshot (bareHdr hd) ⟨0xFF, 0xFF, 0⟩ [⟨0x1001, 1⟩], objs := [⟨0x1001, 1⟩] }

theorem snapshot_fits : ∀ z : Snap, z.objs = [⟨0x1001, 1⟩] → z.parts = [] → z.epochs = [] → z.ask.session = hd.session →
    4 + (snapBody ((up.taken hd snapOfMode ses).captureSnap z).1).length ≤ pathBody hd.path := by
  intro ⟨a, o, t, r, y, p, e, q, m⟩ h1 h2 h3 h4
  simp only at h1 h2 h3 h4
  subst h1 h2 h3
  have k : namedChans [⟨0x1001, 1⟩] = [] := by decide +kernel
  simp only [snapBody, State.captureSnap, h4, k, List.length_append, List.flatMap_nil, List.length_nil, time80_length,
    leBytes_length, zeros_length]
  decide +kernel

theorem some_of {α : Type} {o : Option α} {d : α} (h : o.isSome = true) : o = some (o.getD d) := by
  cases o <;> first | rfl | cases h

namespace Sessions

/-- The machine with one write waiting for the tick. -/
def tk (s : State) (i j : Nat) (v : Val) (w : Who := ⟨2, 1, 0,
    none⟩) (bad : List Nat := []) (c : Bool := true) : State := {s with soon := [⟨okey i j, v, w, bad, c⟩]}
/-- Set 8 open, of session 1. -/
def st1 : State := {up with sets := [(8,{state:=1,owner:=1})]}
/-- Set 8 with one write staged. -/
def st2 : State := {up with sets := [(8,{state:=1,owner:=1, writes := [(okey 0x1200 1, .num 300)], bytes := 4})]}
/-- Set 1 armed for 100,001 ns. -/
def st3 : State := {up with sets := [(1,
    {state:=2,owner:=1, due := 100001, writes := [(okey 0x1200 1, .num 300)], bytes := 4})]}

theorem witness_HandshakesAreAbandonedAfterFiveSeconds :
    ∃ (s : State) (id : Nat) (x : Handshake), tget s.ctl.hands id = some x :=
  ⟨at_ 5000000000 hs, 1, { path := 2, began := 0 }, by decide +kernel⟩

theorem witness_SessionCommandsComplete :
    (∃ (s : State) (h : ReqHdr) (data : List Byte), s.mode ≠ .dormant ∧ s.lodge.held = false ∧ h.path ≤ 2 ∧ s.hears h
      = true ∧ (h.path = 2 → s.ctl.mbx.busy = false ∧ s.ctl.mbx.rspValid = false) ∧ h.version = 1 ∧ h.length ≤
      pathBody h.path ∧ h.session = 0 ∧ h.bodyOk = true ∧ s.nodeCode h
      { code := 1, req := .hello (bareHdr h) 1 0 1 data } = .ok ∧ data.length = 1220 ∧ data.headD 0 = 1 ∧
      s.ctl.hands.length < 4) ∧
    (∃ (s : State) (h : ReqHdr) (x : Session), Accepts s h { code := 2, req := .close (bareHdr h) } x) ∧
    (∃ (s : State) (id : Nat) (x : Session), tget s.ctl.sessions id = some x ∧ s.nat 0x1100 3 ≠ 0 ∧ x.lastUse + s.nat
      0x1100 3 * 1000000000 ≤ s.now) ∧
    (∃ (s : State) (id : Nat) (x : Session) (f : Xfer), tget s.ctl.sessions id = some x ∧ x.xfer = some f ∧ f.last +
      2000000000 ≤ s.now) :=
  ⟨⟨up, {hd with session := 0}, 1#8 :: zeros 1219, by decide +kernel⟩,
  ⟨up, hd, ses, accepts_of (by decide +kernel)⟩,
  ⟨at_ (1000000000000000) up, 1, ses, by decide +kernel⟩,
  ⟨at_ 2000000000 (upAs {ses with xfer := some ⟨1, ⟨0x1F30,1⟩, 0, true, 8, 4, [], 0, 0⟩}), 1,
    {ses with xfer := some ⟨1, ⟨0x1F30,1⟩, 0, true, 8, 4, [], 0, 0⟩}, ⟨1, ⟨0x1F30,1⟩, 0, true, 8, 4, [], 0, 0⟩,
    by decide +kernel⟩⟩

theorem witness_ObjectServicesComplete :
    (∃ (s : State) (h : ReqHdr) (x : Session) (refs : List ObjRef) (v : Service), v =
      { code := 0x10, req := .read (bareHdr h) refs, objs := refs, open_ := refs.all (fun o => decide (0x1000 ≤ o.idx) && decide (o.idx < 0x1100)) }
      ∧ Accepts s h v x ∧ refs ≠ [] ∧ 8 + ((s.taken h v x).readEntries ⟨x.cls, x.cred, x.perms, none⟩ (pathBody
      h.path - 8) refs).1.flatten.length ≤ pathBody h.path) ∧
    (∃ (s : State) (h : ReqHdr) (x : Session) (o : ObjRef) (r : OdRow), Accepts s h
      { code := 0x12, req := .describe (bareHdr h) o, objs := [o] } x ∧ odRow o.idx o.sub = some r ∧ s.may ⟨x.cls,
      x.cred, x.perms, none⟩ false o.idx o.sub = .ok) ∧
    (∃ (s : State) (h : ReqHdr) (x : Session) (n : Nat) (v : Service), v =
      { code := 0x11, req := .write (bareHdr h) [⟨⟨0x1200, 1⟩, 4, .num n⟩], objs := [⟨0x1200, 1⟩], writes := true } ∧
      Accepts s h v x ∧ 1 ≤ x.cls ∧ x.cls ≤ 2 ∧ (s.mode = .service ∨ s.mode = .standby) ∧ s.cluster.role = 0 ∧
      pairShared s.od = false ∧ s.armedSets = [] ∧ s.soon = [] ∧ 200 ≤ n ∧ n ≤ 1000000 ∧ (s.taken h v x).rwCode
      0x1200 1 (.num n) = .ok) ∧
    (∃ (s : State) (n : Nat) (w : Who), AtTick s ⟨okey 0x1200 1, .num n, w, [], true⟩ ∧ s.mode ≠ .starting ∧ n < 2 ^
      32) ∧
    (∃ (s : State) (h : ReqHdr) (x : Session), Accepts s h
      { code := 0x11, req := .write (bareHdr h) [], objs := [], writes := true } x) :=
  ⟨⟨up, hd, ses, [⟨0x1001,1⟩, ⟨0x1001,9⟩, ⟨0x1200,1⟩], _, rfl, accepts_of (by decide +kernel), by decide +kernel⟩,
  ⟨up, hd, ses, ⟨0x1001,1⟩, row_ 0x1001 1, accepts_of (by decide +kernel), by decide +kernel⟩,
  ⟨up, hd, ses, 200, _, rfl, accepts_of (by decide +kernel), by decide +kernel⟩,
  ⟨tk up 0x1200 1 (.num 1000000), 1000000, ⟨2, 1, 0, none⟩, atTick_of (by decide +kernel), by decide +kernel⟩,
  ⟨up, hd, ses, accepts_of (by decide +kernel)⟩⟩

theorem witness_StageSetServicesComplete :
    (∃ (s : State) (h : ReqHdr) (x : Session) (k : Nat), Accepts s h { code := 0x20, req := .openSet (bareHdr h) } x
      ∧ (∀ j, 1 ≤ j → j ≤ 8 → ¬(4 ≤ (s.set j).state ∧ (s.set j).owner = h.session)) ∧ (∀ j, 1 ≤ j → j < k → (s.set
      j).state ≠ 0) ∧ s.mayUse ⟨x.cls, x.cred, x.perms, none⟩ 1 0x1001 = true ∧ 1 ≤ k ∧ k ≤ 8 ∧ (s.set k).state = 0)
      ∧
    (∃ (s : State) (h : ReqHdr) (x : Session) (k : Nat) (e : WriteEnt), Accepts s h
      { code := 0x21, req := .stage (bareHdr h) k [e], objs := [e.obj], writes := true } x ∧ s.mayUse ⟨x.cls, x.cred,
      x.perms, none⟩ 1 0x1001 = true ∧ s.stageSet h.session k = .ok ∧ s.entryCode ⟨x.cls, x.cred, x.perms, none⟩
      e.obj.idx e.obj.sub e.len e.val true false = .ok ∧ e.obj.idx ≠ 0x1001 ∧ commandObject e.obj.idx e.obj.sub =
      false ∧ (s.set k).writes.length < 4096 ∧ (s.set k).bytes + e.len ≤ 262144) ∧
    (∃ (s : State) (h : ReqHdr) (x : Session) (k : Nat) (o : ObjRef) (r : OdRow) (v : Val), Accepts s h
      { code := 0x22, req := .readStaged (bareHdr h) k [o], objs := [o] } x ∧ s.mayUse ⟨x.cls, x.cred, x.perms, none⟩
      1 0x1001 = true ∧ s.holdsOpen h.session k = true ∧ (s.set k).staged o.idx o.sub = some v ∧ odRow o.idx o.sub =
      some r ∧ r.acc ≠ 2 ∧ s.may ⟨x.cls, x.cred, x.perms, none⟩ false o.idx o.sub = .ok ∧ 8 + (readEntry .ok s.now
      (r.bytes v)).length ≤ pathBody h.path) ∧
    (∃ (s : State) (h : ReqHdr) (x : Session) (k : Nat), Accepts s h { code := 0x25, req := .discard (bareHdr h) k }
      x ∧ s.mayUse ⟨x.cls, x.cred, x.perms, none⟩ 1 0x1001 = true ∧ s.holdsOpen h.session k = true) ∧
    (∃ (s : State) (h : ReqHdr) (x : Session) (k : Nat), Accepts s h { code := 0x24, req := .abort (bareHdr h) k } x
      ∧ s.mayUse ⟨x.cls, x.cred, x.perms, none⟩ 1 0x1001 = true ∧ s.holdsArmed h.session k = true ∧ (s.set
      k).readyPassed = false ∧ (s.set k).report = 0 ∧ s.now + 100000 < (s.set k).due ∧ (s.set k).reply = none) :=
  ⟨⟨{up with sets := [(1,{state:=1,owner:=9}),(2,{state:=2,owner:=9})]}, hd, ses, 3, accepts_of (by decide +kernel),
    upto 8 (by decide +kernel), below _ (by decide +kernel), by decide +kernel⟩,
  ⟨st1, hd, ses, 8, ⟨⟨0x1200,1⟩, 4, .num 300⟩, accepts_of (by decide +kernel), by decide +kernel⟩,
  ⟨st2, hd, ses, 8, ⟨0x1200,1⟩, row_ 0x1200 1, .num 300, accepts_of (by decide +kernel), by decide +kernel⟩,
  ⟨st2, hd, ses, 8, accepts_of (by decide +kernel), by decide +kernel⟩,
  ⟨st3, hd, ses, 1, accepts_of (by decide +kernel), by decide +kernel⟩⟩

theorem witness_AbortsBeforeTheReadyPoint :
    (∃ (s : State) (h : ReqHdr) (x : Session) (k : Nat), Accepts s h { code := 0x24, req := .abort (bareHdr h) k } x
      ∧ s.mayUse ⟨x.cls, x.cred, x.perms, none⟩ 1 0x1001 = true ∧ s.holdsArmed h.session k = true ∧ (s.set
      k).readyPassed = false ∧ (s.set k).report = 0 ∧ s.now + 100000 < (s.set k).due) ∧
    (∃ (s : State) (h : ReqHdr) (x : Session) (k : Nat), Accepts s h { code := 0x24, req := .abort (bareHdr h) k } x
      ∧ s.mayUse ⟨x.cls, x.cred, x.perms, none⟩ 1 0x1001 = true ∧ s.holdsArmed h.session k = true ∧ ((s.set
      k).readyPassed = true ∨ (s.set k).due ≤ s.now + 100000)) :=
  ⟨⟨st3, hd, ses, 1, accepts_of (by decide +kernel), by decide +kernel⟩,
  ⟨{st3 with sets := [(1,{state:=2,owner:=1, due := 100000})]}, hd, ses, 1, accepts_of (by decide +kernel),
    by decide +kernel⟩⟩

theorem witness_TransitionStateAndModeRequests :
    (∃ (s : State) (h : ReqHdr) (x : Session), Accepts s h
      { code := 0x10, req := .read (bareHdr h) [⟨0x1001, 6⟩], objs := [⟨0x1001, 6⟩], open_ := true } x ∧ s.may
      ⟨x.cls, x.cred, x.perms, none⟩ false 0x1001 6 = .ok) ∧
    (∃ (s : State) (h : ReqHdr) (x : Session) (k len : Nat) (v : Val), Accepts s h
      { code := 0x21, req := .stage (bareHdr h) k [⟨⟨0x1001, 2⟩, len, v⟩], objs := [⟨0x1001, 2⟩], writes := true } x
      ∧ s.mayUse ⟨x.cls, x.cred, x.perms, none⟩ 1 0x1001 = true ∧ s.stageSet h.session k = .ok ∧ s.entryCode ⟨x.cls,
      x.cred, x.perms, none⟩ 0x1001 2 len v true false = .ok ∧ 2 ≤ x.cls ∧ (s.moving.isSome = true ∨ (∃ j ∈
      setNumbers, (s.set j).armed = true ∧ (s.set j).modeWrite.isSome = true))) :=
  ⟨⟨up, hd, ses, accepts_of (by decide +kernel), by decide +kernel⟩,
  ⟨{st1 with moving := some (.standby, 0, [])}, hd, ses, 8, 1, .num 4, accepts_of (by decide +kernel),
    by decide +kernel⟩⟩

theorem witness_ClearStoreInvalidatesBothSlots :
    (∃ (s : State) (h : ReqHdr) (x : Session), Accepts s h { code := 0x61, req := .clearStore (bareHdr h) } x ∧
      s.mayUse ⟨x.cls, x.cred, x.perms, none⟩ 2 0x1104 = true ∧ s.ctl.storing = none) ∧
    (∃ (s : State), s.lodge.powered = true ∧ s.lodge.held = false ∧ s.ctl.slotA = none ∧ s.ctl.slotB = none) ∧
    (∃ (s t : State) (c : Instr), ((∃ p, c = .vinPowerOn p) ∨ (∃ p, c = .lodgeReset p) ∨ (∃ n, c = .watchdogExpiry n)
      ∨ ∃ h v, c = .warmReset h v) ∧ exec c s = .next t ∧ s.ctl.slotA = none ∧ s.ctl.slotB = none ∧ s.mode ≠
      .starting ∧ t.mode = .starting) :=
  ⟨⟨up, hd, ses, accepts_of (by decide +kernel), by decide +kernel⟩,
  ⟨{up with od := odSet up.od 0x1200 1 900}, by decide +kernel⟩,
  ⟨up, nx (.watchdogExpiry 3) up, .watchdogExpiry 3, .inr (.inr (.inl ⟨_, rfl⟩)), exec_nx (by decide +kernel),
    by decide +kernel⟩⟩

end Sessions

namespace Services

/-- Set 1 open with one write staged. -/
def opn : State := {up with sets := [(1,{state:=1,owner:=1, writes := [(okey 0x1200 1, .num 300)], bytes := 4})]}
/-- A snapshot of the mode object that waits for node 2's part. -/
def snp : Snap := { ask := ⟨1,1,0,0x30,2,.mbxRspClear,{},0⟩, objs := [⟨0x1001,1⟩], at_ := 0, missing := [2] }
/-- A block transfer to the device, half done. -/
def xf : Xfer := ⟨1, ⟨0x1F30,1⟩, 0, true, 8, 4, [], 0, 0⟩
/-- A block transfer from the device, its last segment to come. -/
def xr : Xfer := ⟨1, ⟨0x1E02,1⟩, 0, false, 8, 4052, zeros 8, 4, 0⟩
/-- A subscription to the mode object. -/
def sb : Subscription := ⟨1,2,1,0,⟨0x1001,1⟩,0,(0,[])⟩
/-- A settings image as STORE writes it. -/
def img : StoredImage := ⟨1, [], 0, true⟩
/-- A worker of a cluster. -/
def wk : State := {up with cluster := {role := 2, strap := 3, joined := true}}
/-- A request that a manager relayed. -/
def ak : Ask := ⟨1,7,3,0x10,2,.mbxRspClear,{},0⟩
/-- A manager with one relayed request waiting. -/
def rel : State := {upAs {ses with slots := [⟨ak,none,false⟩]} with
    cluster := {role := 1}, ctl := {sessions := [(1,{ses with slots := [⟨ak,none,false⟩]})], relays := [⟨ak,0⟩]}}
/-- A message that CAN frames carry. -/
def msg : List Byte := [1#8, 0, 0x10, 0] ++ leBytes 2 8 ++ leBytes 2 7 ++ zeros 4 ++ leBytes 8 3 ++ [1#8, 0, 0,
    0] ++ leBytes 2 0x1001 ++ [9#8, 0]
/-- The words of a mailbox request. -/
def words_ (l : List Byte) : Tab Nat := (List.range (l.length / 4)).map (fun k => (4 * k,
    leNat ((l.drop (4 * k)).take 4)))
/-- A mailbox that holds it. -/
def mbx_ (l : List Byte) (m : Mailbox := {}) : State := {up with ctl := {up.ctl with mbx := {m with
    req := words_ l, reqLen := l.length}}}
/-- The device with CAN on. -/
def canUp : State := {up with od := ods [(0x1101,1,1),(0x1101,2,5)]}
/-- A CAN frame of it. -/
def cfr : CanFrame := ⟨true,true,false,2,0,5,0,0x10,0,msg ++ zeros 4⟩
/-- A request too long for its path. -/
def big : List Byte := [1#8, 0, 0x11, 0] ++ leBytes 2 2028 ++ zeros 58
/-- The key of a message that CAN frames carry. -/
def cm : CanMsg := ⟨⟨0,5,0,0x10⟩, 1, [], 100, 0⟩
/-- The machine with one write waiting for the tick. -/
def tk (s : State) (i j : Nat) (v : Val) (w : Who := ⟨1, 0xFF, 0,
    none⟩) (bad : List Nat := []) (c : Bool := false) : State := {s with soon := [⟨okey i j, v, w, bad, c⟩]}
/-- A device locked to PTP. -/
def lk : State := {up with od := ods [(0x1500,6,2)]}
/-- The writer of a Service session. -/
def wo : Who := ⟨2, 1, 0, none⟩
/-- The machine with one counted write waiting for the tick. -/
def tk2 (s : State) (i j : Nat) (v : Val) : State := {s with soon := [⟨okey i j, v, ⟨2, 1, 0, none⟩, [], true⟩]}

theorem witness_CommitAndSnapshotComplete :
    (∃ (s u : State) (h : ReqHdr) (x : Session) (k : Nat) (g : Target) (v : Service) (a : Code × Nat × Nat) (w :
      View), v = { code := 0x23, req := .commit (bareHdr h) k g } ∧ Accepts s h v x ∧ u = (s.taken h v x).setSet k
      { s.set k with members := [] } ∧ a = u.aim g (u.effLead (s.set k)) ∧ w = u.viewOf k a.2.1 (s.set k).writes ∧
      s.mayUse ⟨x.cls, x.cred, x.perms, none⟩ 1 0x1001 = true ∧ s.holdsOpen h.session k = true ∧ s.cluster.role = 0 ∧
      pairShared s.od = false ∧ u.validate w (u.figures w) (u.modeBad k (u.set k) x.cls) = none ∧ (u.armSet k a
      g.refch x.cls).1 = .ok) ∧
    (∃ (s : State) (h : ReqHdr) (x : Session) (g : Target) (refs : List ObjRef) (v : Service), v =
      { code := 0x30, req := .snapshot (bareHdr h) g refs, objs := refs } ∧ Accepts s h v x ∧ (∀ z : Snap, z.objs =
      refs → z.parts = [] → z.epochs = [] → z.ask.session = h.session → 4 + (snapBody ((s.taken h v x).captureSnap
      z).1).length ≤ pathBody h.path) ∧ s.cluster.role = 0 ∧ g.kind = 0xFF ∧ refs ≠ [] ∧ refs.length ≤ 64 ∧ (s.taken
      h v x).snapBytes ⟨x.cls, x.cred, x.perms, none⟩ refs ≤ 4096) ∧
    (∃ (s : State) (ref : Nat) (e : TtEntry) (z : Snap), e ∈ s.ttl 0 ∧ e.kind = 4 ∧ e.ref = ref ∧ e.due ≤ s.tick ∧
      tget s.ctl.snaps ref = some z ∧ z.seq = none ∧ z.missing ≠ []) :=
  ⟨⟨opn, _, hd, ses, 1, ⟨0, 0xFF, 0⟩, _, _, _, rfl, accepts_of (by decide +kernel), rfl, rfl, rfl,
    by decide +kernel⟩,
  ⟨up, hd, ses, ⟨0xFF, 0xFF, 0⟩, [⟨0x1001,1⟩], _, rfl, accepts_of (by decide +kernel), snapshot_fits,
    by decide +kernel⟩,
  ⟨{up with tt := [[⟨0,4,0,5,0⟩],[],[],[]], ctl := {up.ctl with snaps := [(5,snp)]}}, 5, ⟨0,4,0,5,0⟩, snp,
    by decide +kernel⟩⟩

theorem witness_BlockTransfersComplete :
    (∃ (s : State) (h : ReqHdr) (x : Session) (o : ObjRef) (set size : Nat) (v : Service), v =
      { code := 0x40, req := .blockInit (bareHdr h) o set 1 size, objs := [o], writes := true } ∧ Accepts s h v x ∧
      x.xfer = none ∧ (s.taken h v x).blockWriteCode h.session ⟨x.cls, x.cred, x.perms, none⟩ o set size = .ok) ∧
    (∃ (s : State) (h : ReqHdr) (x : Session) (f : Xfer) (data : List Byte), Accepts s h
      { code := 0x41, req := .blockSeg (bareHdr h) f.id f.offset data } x ∧ x.xfer = some f ∧ f.write = true ∧
      data.length = min f.segment (f.size - f.offset)) ∧
    (∃ (s : State) (h : ReqHdr) (x : Session) (f : Xfer), Accepts s h
      { code := 0x41, req := .blockSeg (bareHdr h) f.id f.offset [] } x ∧ x.xfer = some f ∧ f.write = false ∧
      f.segment = pathBody h.path - 8) ∧
    (∃ (s : State) (h : ReqHdr) (x : Session) (f : Xfer) (digest : List Byte), Accepts s h
      { code := 0x42, req := .blockEnd (bareHdr h) f.id digest } x ∧ x.xfer = some f ∧ f.write = false) :=
  ⟨⟨up, hd, ses, ⟨0x1960,2⟩, 0, 3200, _, rfl, accepts_of (by decide +kernel), by decide +kernel⟩,
  ⟨upAs {ses with xfer := some xf}, hd, {ses with xfer := some xf}, xf, zeros 4, accepts_of (by decide +kernel),
    by decide +kernel⟩,
  ⟨upAs {ses with xfer := some xr}, hd, {ses with xfer := some xr}, xr, accepts_of (by decide +kernel),
    by decide +kernel⟩,
  ⟨upAs {ses with xfer := some xr}, hd, {ses with xfer := some xr}, xr, [], accepts_of (by decide +kernel),
    by decide +kernel⟩⟩

theorem witness_SubscriptionsAndStoresComplete :
    (∃ (s : State) (h : ReqHdr) (x : Session) (period mask n : Nat) (o : ObjRef), Accepts s h
      { code := 0x50, req := .subscribe (bareHdr h) 3 period mask o } x ∧ (∀ k, 1 ≤ k → k < n → ∃ u ∈ x.subs, u.id =
      k) ∧ x.subs.length < 255 ∧ 1 ≤ n ∧ n ≤ 255 ∧ (∀ u ∈ x.subs, u.id ≠ n)) ∧
    (∃ (s : State) (h : ReqHdr) (x : Session) (u : Subscription), Accepts s h
      { code := 0x51, req := .unsubscribe (bareHdr h) u.id } x ∧ u ∈ x.subs) ∧
    (∃ (s : State) (id : Nat) (x : Session) (u : Subscription), tget s.ctl.sessions id = some x ∧ x.subs = [u] ∧
      u.kind = 2 ∧ u.last + u.period * 1000000 ≤ s.now ∧ x.queue.length < 128) ∧
    (∃ (s : State) (h : ReqHdr) (x : Session), Accepts s h { code := 0x60, req := .store (bareHdr h) } x ∧ s.mayUse
      ⟨x.cls, x.cred, x.perms, none⟩ 2 0x1104 = true ∧ s.ctl.storing = none ∧ (∀ kv ∈ s.ctl.sessions, kv.2.xfer =
      none)) ∧
    (∃ (s : State) (a : Ask) (img : StoredImage), s.ctl.storing = some (a, img)) ∧
    (∃ (s : State) (h : ReqHdr) (x : Session), Accepts s h { code := 0x61, req := .clearStore (bareHdr h) } x ∧
      s.mayUse ⟨x.cls, x.cred, x.perms, none⟩ 2 0x1104 = true ∧ s.ctl.storing = none) :=
  ⟨⟨up, hd, ses, 0, 255, 1, ⟨0,0⟩, accepts_of (by decide +kernel), below _ (by decide +kernel), by decide +kernel⟩,
  ⟨upAs {ses with subs := [sb]}, hd, {ses with subs := [sb]}, sb, accepts_of (by decide +kernel), by decide +kernel⟩,
  ⟨at_ 1000000 (upAs {ses with subs := [sb]}), 1, {ses with subs := [sb]}, sb, by decide +kernel⟩,
  ⟨up, hd, ses, accepts_of (by decide +kernel), by decide +kernel⟩,
  ⟨{up with ctl := {up.ctl with storing := some (⟨1,1,0,0x60,2,.mbxRspClear,{},0⟩, img)}},
    ⟨1,1,0,0x60,2,.mbxRspClear,{},0⟩, img, by decide +kernel⟩,
  ⟨up, hd, ses, accepts_of (by decide +kernel), by decide +kernel⟩⟩

theorem witness_RelaysComplete :
    (∃ (s : State) (h : ReqHdr) (cls : Nat), s.cluster.role = 2 ∧ s.cluster.joined = true ∧ s.mode ≠ .dormant ∧
      s.lodge.held = false ∧ h.length ≤ 4060 ∧ h.bodyOk = true ∧ tget s.ctl.sessions (4294967296 + h.session) = none
      ∧ 2 ≤ cls ∧ s.mode.permits 2 true 0x1104 = true ∧ s.ctl.storing = none) ∧
    (∃ (s : State) (node status : Nat) (body : List Byte) (r : RelayReq) (x : Session) (ninth : Bool), r ∈
      s.ctl.relays ∧ (∀ q ∈ s.ctl.relays, q.ask.session = r.ask.session → q.ask.txid = r.ask.txid → q = r) ∧
      r.ask.node = node ∧ r.ask.path ≠ 3 ∧ r.ask.service ≠ 2 ∧ 4 + body.length ≤ pathBody r.ask.path ∧ tget
      s.ctl.sessions r.ask.session = some x ∧ x.slots = [⟨r.ask, none, ninth⟩]) ∧
    (∃ (s : State) (r : RelayReq) (x : Session) (ninth : Bool), r ∈ s.ctl.relays ∧ (∀ q ∈ s.ctl.relays, q.ask.session
      = r.ask.session → q.ask.txid = r.ask.txid → q = r) ∧ r.sent + 10000000 ≤ s.now ∧ r.ask.path ≠ 3 ∧ tget
      s.ctl.sessions r.ask.session = some x ∧ x.slots = [⟨r.ask, none, ninth⟩]) :=
  ⟨⟨wk, {hd with node := 3}, 2, by decide +kernel⟩,
  ⟨rel, 3, 0, [1#8], ⟨ak,0⟩, {ses with slots := [⟨ak,none,false⟩]}, false, by decide +kernel⟩,
  ⟨at_ 10000000 rel, ⟨ak,0⟩, {ses with slots := [⟨ak,none,false⟩]}, false, by decide +kernel⟩⟩

theorem witness_TransportsComplete :
    (∃ (s u : State) (c len : Nat) (x : SopHead) (body tag : List Byte) (h : ReqHdr), h =
      { path := 2, version := 1, node := x.node, txid := x.txid, session := x.session, counter := x.counter, length := len, auth := bit x.flags 4, bodyOk := true, tagOk := decide (tag = sopTag (((tget s.ctl.sessions x.session).map Session.keyHd).getD []) (s.ctl.mbx.request.take (20 + len))) }
      ∧ u = { s with ctl := { s.ctl with mbx := { s.ctl.mbx with rspIrqEn := bit c 1, ntcIrqEn := bit c 2 } } } ∧ bit
      c 0 = true ∧ s.flag 0x1103 1 = true ∧ s.mode ≠ .dormant ∧ s.lodge.held = false ∧ s.ctl.mbx.reqLen ≤ 4096 ∧
      parseMessage s.ctl.mbx.request = some (1, x, len, body, tag) ∧ (x.flags = 0 ∨ x.flags = 16)) ∧
    (∃ (s : State) (c : Nat), bit c 0 = true ∧ s.flag 0x1103 1 = true ∧ s.mode ≠ .dormant ∧ s.lodge.held = false ∧
      s.ctl.mbx.busy = false ∧ s.ctl.mbx.rspValid = false ∧ parseMessage s.ctl.mbx.request = none) ∧
    (∃ (s : State) (c : Nat), bit c 0 = true ∧ s.flag 0x1103 1 = true ∧ s.mode ≠ .dormant ∧ s.lodge.held = false ∧
      (s.ctl.mbx.busy = true ∨ s.ctl.mbx.rspValid = true) ∧ parseMessage s.ctl.mbx.request = none) ∧
    (∃ (s : State), s.ctl.mbx.rspValid = true ∧ s.ctl.mbx.waiting = []) ∧
    (∃ (s : State), s.ctl.mbx.ntcValid = true ∧ (∀ kv ∈ s.ctl.sessions, kv.2.path = 2 → kv.2.queue = [])) ∧
    (∃ (s u : State) (f : CanFrame) (total : Nat) (b : List Byte), u =
      { s with ctl := { s.ctl with can := s.ctl.can.filter (fun m => m.key != CanFrame_key f), canWhole := b } } ∧
      f.fd = true ∧ f.ext = true ∧ f.rtr = false ∧ f.dir = 0 ∧ f.busaddr = s.nat 0x1101 2 ∧ s.flag 0x1101 1 = true ∧
      s.mode ≠ .dormant ∧ s.lodge.held = false ∧ f.service ≠ 0x7F ∧ f.seq = 0 ∧ canSizes.contains f.data.length =
      true ∧ 20 ≤ f.data.length ∧ total = 20 + leNat ((f.data.drop 4).take 2) + (if bit (f.data.getD 1 0).toNat 4
      then 16 else 0) ∧ total ≤ 64 ∧ lastPiece f.data total = true ∧ b = f.data.take total ∧ leNat ((b.drop 2).take
      1) = f.service ∧ leNat ((b.drop 3).take 1) = f.node) ∧
    (∃ (s : State) (f : CanFrame) (total : Nat), f.fd = true ∧ f.ext = true ∧ f.rtr = false ∧ f.dir = 0 ∧ f.busaddr =
      s.nat 0x1101 2 ∧ s.flag 0x1101 1 = true ∧ s.mode ≠ .dormant ∧ s.lodge.held = false ∧ f.service ≠ 0x7F ∧ f.seq =
      0 ∧ f.data.length = 64 ∧ total = 20 + leNat ((f.data.drop 4).take 2) + (if bit (f.data.getD 1 0).toNat 4 then
      16 else 0) ∧ 64 < total ∧ total ≤ 2048) ∧
    (∃ (s : State) (m : CanMsg), m ∈ s.ctl.can ∧ (∀ q ∈ s.ctl.can, q.key = m.key → q = m) ∧ m.last + 10000000 ≤
      s.now) ∧
    (∃ (s : State) (code : List Byte), s.mode = .dormant ∧ s.flag 0x1101 1 = true ∧ code = odBytes s.od 0x1101 5 ∧
      code.all (· == 0) = false ∧ s.lodge.powered = true ∧ s.lodge.holding = false ∧ s.lodge.order = 0) ∧
    (∃ (s : State), s.mode = .dormant ∧ s.lodge.powered = true ∧ s.lodge.holding = false ∧ s.lodge.order = 0) ∧
    (∃ (s : State) (chan layer value key : Nat), key = (if layer = 16 then okey (chI chan 6) 3 else okey (layI chan
      layer 0) 13) ∧ chan < 128 ∧ layer ≤ 16 ∧ s.mode ≠ .dormant ∧ s.lodge.held = false) ∧
    (∃ (s : State) (chan layer value i j : Nat), AtTick s ⟨okey i j, .num value, ⟨1, 0xFF, 0, none⟩, [], false⟩ ∧
      chan < 128 ∧ layer ≤ 16 ∧ (i, j) = (if layer = 16 then (chI chan 6, 3) else (layI chan layer 0, 13)) ∧ value <
      4294967296) ∧
    (∃ (s : State) (v : Nat), s.mode ≠ .dormant ∧ s.lodge.held = false ∧ v < 4294967296) ∧
    (∃ (s : State) (r v : Nat), s.mode ≠ .dormant ∧ s.lodge.held = false ∧ r < 32 ∧ v < 4294967296 ∧ (s.rg r).en =
      true) ∧
    (∃ (s : State) (r v : Nat), r < 32 ∧ (s.rg r).size ≠ 0) ∧
    (∃ (s : State) (r v : Nat), r < 32 ∧ (bit v 0 = true → ringSizeOk (s.rg r).size = true)) :=
  ⟨⟨mbx_ msg, _, 7, 8, ⟨0, 0x10, 0, 7, 0, 3⟩, [1#8, 0, 0, 0] ++ leBytes 2 0x1001 ++ [9#8, 0], [], _, rfl, rfl,
    by decide +kernel⟩,
  ⟨mbx_ [], 1, by decide +kernel⟩,
  ⟨mbx_ [] {busy := true}, 1, by decide +kernel⟩,
  ⟨{up with ctl := {up.ctl with mbx := {rspValid := true, rsp := [1#8], busy := true}}}, by decide +kernel⟩,
  ⟨{up with ctl := {up.ctl with mbx := {ntcValid := true, ntc := [1#8]}}}, by decide +kernel⟩,
  ⟨canUp, _, cfr, 28, msg, rfl, by decide +kernel⟩,
  ⟨canUp, {cfr with service := 0x11, data := big}, 2048, by decide +kernel⟩,
  ⟨at_ 10000000 {up with ctl := {up.ctl with can := [cm]}}, cm, by decide +kernel⟩,
  ⟨{State.reset with od := odPut (ods [(0x1101,1,1)]) 0x1101 5 (.oct [1#8,2,3,4,5,6,7,8])}, [1#8,2,3,4,5,6,7,8],
    by decide +kernel⟩,
  ⟨State.reset, by decide +kernel⟩,
  ⟨up, 127, 16, 4294967295, _, rfl, by decide +kernel⟩,
  ⟨tk up (layI 127 15 0) 13 (.num 4294967295), 127, 15, 4294967295, layI 127 15 0, 13, atTick_of (by decide +kernel),
    by decide +kernel⟩,
  ⟨up, 4294967295, by decide +kernel⟩,
  ⟨{up with ring := [(31,{en := true})]}, 31, 4294967295, by decide +kernel⟩,
  ⟨{up with ring := [(31,{size := 64})]}, 31, 65, by decide +kernel⟩,
  ⟨{up with ring := [(31,{size := 64})]}, 31, 3, by decide +kernel⟩⟩

theorem witness_TimebaseAndModeCommandsComplete :
    (∃ (s : State) (h : ReqHdr) (x : Session) (adj : Int), Takes s h x 0x1500 4 8 (.num adj) ∧ s.nat 0x1500 6 = 2) ∧
    (∃ (s : State) (w : Who) (adj : Int), AtTick s ⟨okey 0x1500 4, .num adj, w, [], true⟩ ∧ s.nat 0x1500 6 = 2) ∧
    (∃ (s : State) (h : ReqHdr) (x : Session) (time : Nat), Takes s h x 0x1500 5 10 (.num time) ∧ s.nat 0x1500 6 = 2
      ∧ s.mayStep = true) ∧
    (∃ (s : State) (w : Who) (time : Nat), AtTick s ⟨okey 0x1500 5, .num time, w, [], true⟩ ∧ s.nat 0x1500 6 = 2 ∧
      s.runningChans = [] ∧ s.nat 0x1500 8 < ((time : Int) - s.advance.now).natAbs ∧ 0 ≤ s.advance.timeAt
      s.advance.tb.count) ∧
    (∃ (s : State) (h : ReqHdr) (x : Session), Takes s h x 0x1500 13 1 (.num 1) ∧ s.mayStep = true) ∧
    (∃ (s : State) (w : Who) (o : Int), AtTick s ⟨okey 0x1500 13, .num 1, w, [], true⟩ ∧ s.tb.slew = some o ∧
      s.runningChans = [] ∧ s.advance.slewLeft o ≤ s.advance.now ∧ 0 ≤ s.advance.timeAt s.advance.tb.count) ∧
    (∃ (s : State) (h : ReqHdr) (x : Session) (n : Nat), Takes s h x 0x1500 14 8 (.num n)) ∧
    (∃ (s : State) (w : Who) (n : Nat), AtTick s ⟨okey 0x1500 14, .num n, w, [], true⟩) ∧
    (∃ (s : State) (h : ReqHdr) (x : Session) (m : Nat), Takes s h x 0x1002 4 2 (.num m)) ∧
    (∃ (s : State) (w : Who) (m : Nat), AtTick s ⟨okey 0x1002 4, .num m, w, [], true⟩) ∧
    (∃ (s : State) (h : ReqHdr) (x : Session), Takes s h x 0x1400 6 1 (.num 1)) ∧
    (∃ (s : State) (w : Who), AtTick s ⟨okey 0x1400 6, .num 1, w, [], true⟩ ∧ s.pair.state = 2) ∧
    (∃ (s : State) (h : ReqHdr) (x : Session), Takes s h x 0x1703 1 1 (.num 1)) ∧
    (∃ (s : State) (w : Who), AtTick s ⟨okey 0x1703 1, .num 1, w, [], true⟩ ∧ s.acted.1 ≠ s.advance.lodge.time) ∧
    (∃ (s : State) (h : ReqHdr) (x : Session), Takes s h x 0x1703 2 1 (.num 1) ∧ s.mode = .service) ∧
    (∃ (s : State) (w : Who), AtTick s ⟨okey 0x1703 2, .num 1, w, [], true⟩ ∧ s.mode = .service) :=
  ⟨⟨lk, hd, ses, 70368744179, takes_of (accepts_of (by decide +kernel)) (by decide +kernel), by decide +kernel⟩,
  ⟨tk2 lk 0x1500 4 (.num 70368744179), wo, 70368744179, atTick_of (by decide +kernel), by decide +kernel⟩,
  ⟨lk, hd, ses, 5000000000, takes_of (accepts_of (by decide +kernel)) (by decide +kernel), by decide +kernel⟩,
  ⟨tk2 lk 0x1500 5 (.num 5000000000), wo, 5000000000, atTick_of (by decide +kernel), by decide +kernel⟩,
  ⟨{lk with tb := {slew := some 500}}, hd, ses, takes_of (accepts_of (by decide +kernel)) (by decide +kernel),
    by decide +kernel⟩,
  ⟨tk2 {at_ 1000000 lk with tb := {(at_ 1000000 lk).tb with slew := some 500, slewAt := 1000000}} 0x1500 13 (.num 1),
    wo, 500, atTick_of (by decide +kernel), by decide +kernel⟩,
  ⟨lk, hd, ses, 77, takes_of (accepts_of (by decide +kernel)) (by decide +kernel)⟩,
  ⟨tk2 lk 0x1500 14 (.num 77), wo, 77, atTick_of (by decide +kernel)⟩,
  ⟨{up with od := ods [(0x1002,3,6)]}, hd, ses, 0xFFFF, takes_of (accepts_of (by decide +kernel))
    (by decide +kernel)⟩,
  ⟨tk2 {up with od := ods [(0x1002,3,15)]} 0x1002 4 (.num 0xFFFF), wo, 0xFFFF, atTick_of (by decide +kernel)⟩,
  ⟨{up with pair := {state := 2, drawbar := true}}, hd, ses, takes_of (accepts_of (by decide +kernel))
    (by decide +kernel)⟩,
  ⟨tk2 {up with pair := {state := 2, drawbar := true}} 0x1400 6 (.num 1), wo, atTick_of (by decide +kernel),
    by decide +kernel⟩,
  ⟨{up with tb := {count := 50, t0 := 9}}, hd, ses, takes_of (accepts_of (by decide +kernel)) (by decide +kernel)⟩,
  ⟨tk2 {up with tb := {count := 50, t0 := 9}} 0x1703 1 (.num 1), wo, atTick_of (by decide +kernel),
    by decide +kernel⟩,
  ⟨up, hd, ses, takes_of (accepts_of (by decide +kernel)) (by decide +kernel), by decide +kernel⟩,
  ⟨tk2 up 0x1703 2 (.num 1), wo, atTick_of (by decide +kernel), by decide +kernel⟩⟩

end Services

namespace Units

/-- The writer of a Service session. -/
def wo : Who := ⟨2, 1, 0, none⟩
/-- The machine with one counted write waiting for the tick. -/
def tk2 (s : State) (i j : Nat) (v : Val) : State := {s with soon := [⟨okey i j, v, ⟨2, 1, 0, none⟩, [], true⟩]}
/-- A device in the FIELD state of its life. -/
def fld : State := {up with sec := {pFuse := [allFuses,0,0,0], lcs := 1, settings := [(0, 2^255)]}}
/-- An image of a type. -/
def im (t : Nat) : Image := ⟨t, 5, 1, 0, [], true, [], []⟩
/-- Banks that hold images. -/
def bk : State := {up with sec := {banks := [(2, im 1),(4, im 2),(6, im 3),(3, im 1)]}}
/-- A settings generation's bytes. -/
def b32 : List Byte := leBytes 32 (2^255)
/-- A Turnstile binding's bytes. -/
def bnd : List Byte := [3,1,0,0] ++ leBytes 2 5 ++ leBytes 2 10 ++ zeros 16
/-- A device whose channel 5 a line snoop can watch. -/
def bu : State := {up with od := ods [(chI 5 0x70, 1, 255)]}
/-- The bytes of a binding to memory. -/
def bm : List Byte := [0x10,1,0,0] ++ zeros 4 ++ zeros 8 ++ leBytes 4 64 ++ zeros 4
/-- A device with a test chosen. -/
def tst : State := {up with od := ods [(0x1E10,1,6),(0x1E10,2,1)]}
/-- A device with a test running. -/
def tst2 : State := {tst with mode := .test, perf := {test := some (6,1,[],0)}}

theorem witness_SecurityCommandsComplete :
    (∃ (s : State) (h : ReqHdr) (x : Session) (v : Nat), Takes s h x 0x1F00 6 8 (.num v) ∧ (lifecycleStep ⟨x.cls,
      x.cred, x.perms, none⟩ v s).1 = .ok) ∧
    (∃ (s : State) (w : Who) (v : Nat), AtTick s ⟨okey 0x1F00 6, .num v, w, [], true⟩ ∧ v / 2 ^ 56 % 256 = 2 ∧
      s.sec.lcs = 1 ∧ (lifecycleStep w v s).1 = .ok ∧ s.acted.1 ≠ s.advance.lodge.time) ∧
    (∃ (s : State) (h : ReqHdr) (x : Session) (v : Nat), Takes s h x 0x1F00 7 1 (.num v) ∧ (rollbackAdvance ⟨x.cls,
      x.cred, x.perms, none⟩ v s).1 = .ok) ∧
    (∃ (s : State) (w : Who) (v : Nat), AtTick s ⟨okey 0x1F00 7, .num v, w, [], true⟩ ∧ (rollbackAdvance w v s).1 =
      .ok) ∧
    (∃ (s : State) (h : ReqHdr) (x : Session) (b : List Byte) (y : Security), Takes s h x 0x1F04 1 b.length (.oct b)
      ∧ s.sec.program (leNat b) [] = some y ∧ s.needsOwner ⟨x.cls, x.cred, x.perms, none⟩ = false ∧ bit (leNat b) 255
      = true ∧ s.sec.generation 0 = 0) ∧
    (∃ (s : State) (w : Who) (b : List Byte) (y : Security), AtTick s ⟨okey 0x1F04 1, .oct b, w, [], true⟩ ∧
      s.sec.program (leNat b) [] = some y ∧ s.needsOwner w = false ∧ bit (leNat b) 255 = true ∧ s.sec.generation 0 =
      0) ∧
    (∃ (s : State) (h : ReqHdr) (x : Session) (b : List Byte) (bad : List Nat), Takes s h x 0x1F04 1 b.length (.oct
      b) ∧ s.needsOwner ⟨x.cls, x.cred, x.perms, none⟩ = false ∧ bit (leNat b) 255 = true ∧ s.sec.generation 0 = 0 ∧
      s.sec.program (leNat b) bad = none) ∧
    (∃ (s : State) (h : ReqHdr) (x : Session) (k : Nat) (hash : List Byte), Takes s h x 0x1F13 1 (1 + hash.length)
      (.oct (leBytes 1 k ++ hash)) ∧ k < 4 ∧ s.needsOwner ⟨x.cls, x.cred, x.perms, none⟩ = false ∧ groupBlown
      (s.sec.owner k).prog = false) ∧
    (∃ (s : State) (w : Who) (k : Nat) (hash : List Byte), AtTick s ⟨okey 0x1F13 1, .oct (leBytes 1 k ++ hash), w,
      [], true⟩ ∧ k < 4 ∧ s.needsOwner w = false ∧ groupBlown (s.sec.owner k).prog = false) ∧
    (∃ (s : State) (h : ReqHdr) (x : Session) (k : Nat), Takes s h x 0x1F13 2 1 (.num k) ∧ k < 4 ∧ s.sec.lcs ≠ 2 ∧
      s.setting 0 = false ∧ s.setting 1 = false) ∧
    (∃ (s : State) (w : Who) (k : Nat), AtTick s ⟨okey 0x1F13 2, .num k, w, [], true⟩ ∧ k < 4 ∧ s.sec.lcs ≠ 2 ∧
      s.setting 0 = false ∧ s.setting 1 = false) ∧
    (∃ (s : State) (h : ReqHdr) (x : Session) (b : List Byte), Takes s h x 0x1F02 1 b.length (.oct b) ∧ b.all (· ==
      0) = false) ∧
    (∃ (s : State) (w : Who) (b : List Byte), AtTick s ⟨okey 0x1F02 1, .oct b, w, [], true⟩ ∧ b.all (· == 0) = false)
      ∧
    (∃ (s : State) (h : ReqHdr) (x : Session) (k : Nat), Takes s h x 0x1F32 1 1 (.num k) ∧ 1 ≤ k ∧ k ≤ 3 ∧
      (s.sec.bank k (1 - s.sec.activeBank k)).any (fun i => i.verified) = true) ∧
    (∃ (s : State) (w : Who) (k : Nat), AtTick s ⟨okey 0x1F32 1, .num k, w, [], true⟩ ∧ 1 ≤ k ∧ k ≤ 3 ∧ (s.sec.bank k
      (1 - s.sec.activeBank k)).any (fun i => i.verified) = true) ∧
    (∃ (s : State) (h : ReqHdr) (x : Session) (k e : Nat), Takes s h x 0x1F32 2 1 (.num k) ∧ 1 ≤ k ∧ k ≤ 3 ∧ tget
      s.sec.running k = some e ∧ s.lodge.time < e) ∧
    (∃ (s : State) (w : Who) (k e : Nat), AtTick s ⟨okey 0x1F32 2, .num k, w, [], true⟩ ∧ 1 ≤ k ∧ k ≤ 3 ∧ tget
      s.sec.running k = some e ∧ s.advance.lodge.time < e) :=
  ⟨⟨fld, hd, ses, 2*2^56, takes_of (accepts_of (by decide +kernel)) (by decide +kernel), by decide +kernel⟩,
  ⟨tk2 fld 0x1F00 6 (.num (2*2^56)), wo, 2*2^56, atTick_of (by decide +kernel), by decide +kernel⟩,
  ⟨bk, hd, ses, 5, takes_of (accepts_of (by decide +kernel)) (by decide +kernel), by decide +kernel⟩,
  ⟨tk2 bk 0x1F00 7 (.num 5), wo, 5, atTick_of (by decide +kernel), by decide +kernel⟩,
  ⟨up, hd, ses, b32, (up.sec.program (leNat b32) []).getD {}, takes_of (accepts_of (by decide +kernel))
    (by decide +kernel), some_of (by decide +kernel), by decide +kernel⟩,
  ⟨tk2 up 0x1F04 1 (.oct b32), wo, b32, (up.sec.program (leNat b32) []).getD {}, atTick_of (by decide +kernel),
    some_of (by decide +kernel), by decide +kernel⟩,
  ⟨up, hd, ses, b32, List.range 200, takes_of (accepts_of (by decide +kernel)) (by decide +kernel),
    by decide +kernel⟩,
  ⟨up, hd, ses, 3, List.replicate 32 7, takes_of (accepts_of (by decide +kernel)) (by decide +kernel),
    by decide +kernel⟩,
  ⟨tk2 up 0x1F13 1 (.oct (leBytes 1 3 ++ List.replicate 32 7)), wo, 3, List.replicate 32 7, atTick_of
    (by decide +kernel), by decide +kernel⟩,
  ⟨up, hd, ses, 3, takes_of (accepts_of (by decide +kernel)) (by decide +kernel), by decide +kernel⟩,
  ⟨tk2 up 0x1F13 2 (.num 3), wo, 3, atTick_of (by decide +kernel), by decide +kernel⟩,
  ⟨up, hd, ses, List.replicate 32 7, takes_of (accepts_of (by decide +kernel)) (by decide +kernel),
    by decide +kernel⟩,
  ⟨tk2 up 0x1F02 1 (.oct (List.replicate 32 7)), wo, List.replicate 32 7, atTick_of (by decide +kernel),
    by decide +kernel⟩,
  ⟨bk, hd, ses, 1, takes_of (accepts_of (by decide +kernel)) (by decide +kernel), by decide +kernel⟩,
  ⟨tk2 bk 0x1F32 1 (.num 1), wo, 1, atTick_of (by decide +kernel), by decide +kernel⟩,
  ⟨{up with sec := {running := [(3, 10)]}}, hd, ses, 3, 10, takes_of (accepts_of (by decide +kernel))
    (by decide +kernel), by decide +kernel⟩,
  ⟨tk2 {up with sec := {running := [(3, 10)]}} 0x1F32 2 (.num 3), wo, 3, 10, atTick_of (by decide +kernel),
    by decide +kernel⟩⟩

theorem witness_InstrumentCommandsComplete :
    (∃ (s : State) (h : ReqHdr) (x : Session), Takes s h x 0x1D00 1 1 (.num 1)) ∧
    (∃ (s : State) (w : Who), AtTick s ⟨okey 0x1D00 1, .num 1, w, [], true⟩ ∧ s.nat 0x1D00 3 / 100 ≠ s.advance.tick)
      ∧
    (∃ (s : State) (h : ReqHdr) (x : Session) (u : Nat) (b : List Byte), Takes s h x (0x1C10 + u) 1 b.length (.oct b)
      ∧ u < 10 ∧ (s.csu u).state = 0 ∧ s.bindCode u b = .ok) ∧
    (∃ (s : State) (w : Who) (u : Nat) (b : List Byte), AtTick s ⟨okey (0x1C10 + u) 1, .oct b, w, [], true⟩ ∧ u < 10
      ∧ (s.csu u).state = 0 ∧ (bindingOf b).source ≠ 0 ∧ (bindingOf b).source ≠ 0x10 ∧ s.bindCode u b = .ok) ∧
    (∃ (s : State) (w : Who) (u : Nat) (b : List Byte), AtTick s ⟨okey (0x1C10 + u) 1, .oct b, w, [], true⟩ ∧ (∀ k,
      (s.dch k).state ≠ 4) ∧ u < 10 ∧ (s.csu u).state = 0 ∧ (bindingOf b).source = 0x10 ∧ (bindingOf b).length ≠ 0 ∧
      s.bindCode u b = .ok) ∧
    (∃ (s : State) (h : ReqHdr) (x : Session) (u : Nat), Takes s h x (0x1C10 + u) 3 1 (.num 1) ∧ u < 10) ∧
    (∃ (s : State) (w : Who) (u : Nat), AtTick s ⟨okey (0x1C10 + u) 3, .num 1, w, [], true⟩ ∧ u < 10) ∧
    (∃ (s : State) (h : ReqHdr) (x : Session), Takes s h x 0x1E10 4 1 (.num 1) ∧ s.perf.test = none ∧ s.mode =
      .service ∧ s.nat 0x1E10 1 ≠ 0 ∧ s.nat 0x1E10 2 ≠ 0 ∧ s.testOk (s.nat 0x1E10 1) (s.nat 0x1E10 2) (odBytes s.od
      0x1E10 3) = true) ∧
    (∃ (s : State) (w : Who), AtTick s ⟨okey 0x1E10 4, .num 1, w, [], true⟩ ∧ s.perf.test = none ∧ s.mode = .service
      ∧ s.nat 0x1E10 1 ≠ 0 ∧ s.nat 0x1E10 2 ≠ 0 ∧ s.testOk (s.nat 0x1E10 1) (s.nat 0x1E10 2) (odBytes s.od 0x1E10 3)
      = true) ∧
    (∃ (s : State) (h : ReqHdr) (x : Session), Takes s h x 0x1E10 5 1 (.num 1)) ∧
    (∃ (s : State) (w : Who) (r : Nat × Nat × List Byte × Nat), AtTick s ⟨okey 0x1E10 5, .num 1, w, [], true⟩ ∧
      s.perf.test = some r ∧ s.mode = .test) ∧
    (∃ (s : State) (h : ReqHdr) (x : Session) (b : List Byte), Takes s h x 0x1E00 6 b.length (.oct b)) ∧
    (∃ (s : State) (w : Who) (b : List Byte), AtTick s ⟨okey 0x1E00 6, .oct b, w, [], true⟩ ∧ s.bb.queue.length < 64) :=
  ⟨⟨at_ 1000 up, hd, ses, takes_of (accepts_of (by decide +kernel)) (by decide +kernel)⟩,
  ⟨tk2 (at_ 1000 up) 0x1D00 1 (.num 1), wo, atTick_of (by decide +kernel), by decide +kernel⟩,
  ⟨bu, hd, ses, 5, bnd, takes_of (accepts_of (by decide +kernel)) (by decide +kernel), by decide +kernel⟩,
  ⟨tk2 bu 0x1C15 1 (.oct bnd), wo, 5, bnd, atTick_of (by decide +kernel), by decide +kernel⟩,
  ⟨tk2 up 0x1C19 1 (.oct bm), wo, 9, bm, atTick_of (by decide +kernel), fun _ => (by decide : (0 : Nat) ≠ 4),
    by decide +kernel⟩,
  ⟨up, hd, ses, 9, takes_of (accepts_of (by decide +kernel)) (by decide +kernel), by decide +kernel⟩,
  ⟨tk2 {up with cs := [(9,{state := 2, count := 1})]} 0x1C19 3 (.num 1), wo, 9, atTick_of (by decide +kernel),
    by decide +kernel⟩,
  ⟨tst, hd, ses, takes_of (accepts_of (by decide +kernel)) (by decide +kernel), by decide +kernel⟩,
  ⟨tk2 tst 0x1E10 4 (.num 1), wo, atTick_of (by decide +kernel), by decide +kernel⟩,
  ⟨tst2, hd, ses, takes_of (accepts_of (by decide +kernel)) (by decide +kernel)⟩,
  ⟨tk2 tst2 0x1E10 5 (.num 1), wo, (6,1,[],0), atTick_of (by decide +kernel), by decide +kernel⟩,
  ⟨up, hd, ses, leBytes 32 77, takes_of (accepts_of (by decide +kernel)) (by decide +kernel)⟩,
  ⟨tk2 up 0x1E00 6 (.oct (leBytes 32 77)), wo, leBytes 32 77, atTick_of (by decide +kernel), by decide +kernel⟩⟩

end Units

namespace Power

/-- Straps. -/
def stp : Straps := ⟨2, 15, true⟩
/-- The device at reset. -/
def dor : State := State.reset
/-- The device in STARTING. -/
def srt : State := {State.reset with mode := .starting}
/-- What a STARTING reports: nothing failed. -/
def rep : StartReport := ⟨[],[],[],[],true,[],[]⟩
/-- A Lodge rule table of one row. -/
def rows : List Byte := List.replicate 16 0
/-- The payload that carries it. -/
def pay : List Byte := [1, 1] ++ List.replicate 10 0 ++ leBytes 4 (crc32c rows) ++ rows
/-- An image of a type with that payload. -/
def imz (t : Nat) : Image := ⟨t, 0, 1, 0, [0], true, [], pay⟩
/-- Banks that STARTING verifies. -/
def bks : State := {srt with sec := {banks := [(2, imz 1),(4, imz 2),(6, imz 3)]}}
/-- A Lodge rule with an action. -/
def rl (a : Nat) : LodgeRule := ⟨0x21,2,0,a,0xFFF,0,2480,80,0⟩
/-- A device whose Lodge holds that rule. -/
def ru (a : Nat) : State := {up with lodge := {dor.lodge with rules := [rl a]}}
/-- A device whose Lodge holds a brownout rule. -/
def bo : State := {ru 5 with lodge := {(ru 5).lodge with rules := [{rl 5 with op := 1, input := 0}]}}
/-- A device with an image on trial, its window past. -/
def cw : State := {up with sec := {running := [(2,5)]}, lodge := {dor.lodge with time := 5}}
/-- A black-box entry. -/
def be (sv : Nat) : BbEntry := ⟨5,0x40,sv,2,0,0xFFFF,0xFF,0,1,[1,2]⟩
/-- A manager with a start commit to make. -/
def mgr : State := {up with cluster := {role := 1, window := some 0}, od := ods [(0x1B20,1,1)]}

theorem witness_ResetsComplete :
    (∃ (s : State) (x : Straps), s.mode = .dormant ∧ s.lodge.powered = true ∧ s.lodge.order = 1 ∧ s.lodge.holding =
      false) ∧
    (∃ (s : State), s.lodge.powered = true ∧ s.lodge.held = false) ∧
    (∃ (s : State) (x : Straps), s.lodge.held = true) ∧
    (∃ (s : State) (x : Straps), s.lodge.powered = true ∧ s.lodge.order = 2 ∧ s.lodge.held = false) ∧
    (∃ (s : State) (pc : Nat), s.mode ≠ .dormant ∧ s.lodge.held = false ∧ s.outranked 3 = false ∧ s.bb.queue.length <
      63) :=
  ⟨⟨{dor with lodge := {dor.lodge with order := 1, time := 9}}, stp, by decide +kernel⟩,
  ⟨up, by decide +kernel⟩,
  ⟨{up with lodge := {dor.lodge with held := true, time := 7}}, stp, by decide +kernel⟩,
  ⟨{up with lodge := {dor.lodge with order := 2}}, stp, by decide +kernel⟩,
  ⟨at_ 1000 up, 0x1234, by decide +kernel⟩⟩

theorem witness_StartingEnds :
    (∃ (s : State) (r : StartReport), s.mode = .starting ∧ s.lodge.held = false ∧ (s.sec.lcs = 3 ∨ s.sec.lcs = 4)) ∧
    (∃ (s : State) (r : StartReport) (k v : Nat), s.mode = .starting ∧ s.lodge.held = false ∧ s.sec.lcs ≠ 3 ∧
      s.sec.lcs ≠ 4 ∧ k < 16 ∧ (k, v) ∈ r.dram) ∧
    (∃ (s : State) (r : StartReport), s.mode = .starting ∧ s.lodge.held = false ∧ s.sec.lcs = 0 ∧ r.dram = [] ∧
      r.lanes = [] ∧ (((((s.dropSlots r).dramTrained r).lanesTrained r).selfTested r).bootImages r).1 = false) ∧
    (∃ (s : State) (r : StartReport), s.mode = .starting ∧ s.lodge.held = false ∧ s.sec.lcs ≠ 3 ∧ s.sec.lcs ≠ 4 ∧
      s.clk.ref ≠ 2 ∧ s.lodge.began + 15000000 ≤ s.lodge.time) :=
  ⟨⟨{srt with sec := {lcs := 3}}, rep, by decide +kernel⟩,
  ⟨srt, {rep with dram := [(15, 3)]}, 15, 3, by decide +kernel⟩,
  ⟨bks, rep, by decide +kernel⟩,
  ⟨{srt with lodge := {dor.lodge with time := 15000000}}, rep, by decide +kernel⟩⟩

theorem witness_LodgeRulesComplete :
    (∃ (s : State) (k : Nat) (v : Int) (r : LodgeRule), Fires s k v r ∧ (r.action = 1 ∨ r.action = 2 ∨ r.action = 3 ∨
      r.action = 6)) ∧
    (∃ (s : State) (k : Nat) (v : Int) (r : LodgeRule), Fires s k v r ∧ r.action = 4 ∧ s.bb.queue.length < 64) ∧
    (∃ (s : State) (k : Nat) (v : Int) (r : LodgeRule), Fires s k v r ∧ r.action = 7 ∧ s.outranked 4 = false ∧ s.mode
      ≠ .dormant ∧ s.mode ≠ .starting ∧ s.mode ≠ .ret ∧ s.bb.queue.length < 60) ∧
    (∃ (s : State) (k : Nat) (v : Int) (r : LodgeRule), Fires s k v r ∧ r.action = 7 ∧ (s.mode = .dormant ∨ s.mode =
      .starting ∨ s.mode = .ret)) ∧
    (∃ (s : State) (k : Nat), k < 64 ∧ s.lodge.conds.contains k = true) ∧
    (∃ (s : State) (k vin : Nat) (r : LodgeRule), Fires s k vin r ∧ r.action = 5 ∧ s.mode ≠ .dormant) ∧
    (∃ (s : State) (k : Nat) (temp : Int), k < 16 ∧ 2640 ≤ temp ∧ s.lodge.powered = true ∧ s.outranked 2 = false) ∧
    (∃ (s : State) (k e : Nat), tget s.sec.running k = some e ∧ e ≠ 0 ∧ e ≤ s.lodge.time ∧ s.bb.queue.length < 64) :=
  ⟨⟨ru 3, 0, 2481, rl 3, fires_of (by decide +kernel), by decide +kernel⟩,
  ⟨ru 4, 0, 2481, rl 4, fires_of (by decide +kernel), by decide +kernel⟩,
  ⟨ru 7, 0, 2481, rl 7, fires_of (by decide +kernel), by decide +kernel⟩,
  ⟨{dor with lodge := (ru 7).lodge}, 0, 2481, rl 7, fires_of (by decide +kernel), by decide +kernel⟩,
  ⟨{ru 7 with lodge := {(ru 7).lodge with conds := [0]}}, 0, by decide +kernel⟩,
  ⟨bo, 0, 2000, {rl 5 with op := 1, input := 0}, fires_of (by decide +kernel), by decide +kernel⟩,
  ⟨up, 15, 2640, by decide +kernel⟩,
  ⟨cw, 2, 5, by decide +kernel⟩⟩

theorem witness_BlackBoxAndJoinWindowComplete :
    (∃ (s : State), s.mode ≠ .dormant ∧ s.mode ≠ .starting ∧ s.bb.queue.length < 64) ∧
    (∃ (s : State) (e : BbEntry) (q : List BbEntry), s.lodge.powered = true ∧ s.bb.dropped = 0 ∧ s.bb.queue = e :: q
      ∧ e.sev = 3) ∧
    (∃ (s : State) (e : BbEntry) (q : List BbEntry) (c : Coalesce), s.lodge.powered = true ∧ s.bb.dropped = 0 ∧
      s.bb.queue = e :: q ∧ e.sev < 3 ∧ c ∈ s.bb.recent ∧ c.matches e.code e.unit e.chan = true ∧ s.lodge.time / 10 <
      c.since + 1000000) ∧
    (∃ (s : State) (c : Coalesce), s.bb.recent = [c] ∧ c.count ≠ 0 ∧ c.since + 1000000 ≤ s.lodge.time / 10) ∧
    (∃ (s : State) (u : Nat), s.cluster.window = some u ∧ u ≤ s.now ∧ s.cluster.role = 1 ∧ s.mode = .service ∧
      s.startWrites (Mode.ofCode (s.nat 0x1001 3)) = []) ∧
    (∃ (s : State) (u : Nat), s.cluster.window = some u ∧ u ≤ s.now ∧ s.cluster.role = 1 ∧ s.mode = .service ∧
      s.startWrites (Mode.ofCode (s.nat 0x1001 3)) ≠ [] ∧
      ({ s with cluster := { s.cluster with window := none } }.startCommit (Mode.ofCode (s.nat 0x1001 3))).1 = .ok) :=
  ⟨⟨at_ 5000000001 up, by decide +kernel⟩,
  ⟨{up with bb := {queue := [be 3], seq := 8128}}, be 3, [], by decide +kernel⟩,
  ⟨{up with bb := {queue := [be 2], recent := [⟨0,1,be 2⟩]}}, be 2, [], ⟨0,1,be 2⟩, by decide +kernel⟩,
  ⟨{up with bb := {recent := [⟨0,1,be 2⟩]}, lodge := {dor.lodge with time := 10000000}}, ⟨0,1,be 2⟩,
    by decide +kernel⟩,
  ⟨{up with cluster := {role := 1, window := some 0}}, 0, by decide +kernel⟩,
  ⟨mgr, 0, by decide +kernel⟩⟩

end Power

namespace Timetable

/-- The device in SERVICE. -/
def sv : State := {State.reset with mode := .service}
/-- A timetable entry. -/
def en (k t : Nat) : TtEntry := ⟨10, k, t, 1, 0⟩
/-- A set past its ready point. -/
def cs1 : StageSet := { state := 2, readyPassed := true, due := 1000, writes := [(okey 0x1200 1, .num 200000)], order := 1 }
/-- A machine with one of its timetable lists given. -/
def tl (k : Nat) (l : List TtEntry) (s : State) : State := { s with
    tt := (List.range 4).map (fun j => if j = k then l else s.ttl j) }
/-- A machine with one set given. -/
def withSet (k : Nat) (x : StageSet) (s : State) : State := { s with sets := [(k, x)] }
/-- A set armed before its ready point. -/
def cs2 : StageSet := { cs1 with readyPassed := false, report := 0 }
/-- A set armed to write a channel's object. -/
def cs3 : StageSet := { cs2 with writes := [(okey 0x4006 2, .num 5)] , due := 3000}
/-- A coordinator's set with one member. -/
def cs4 (a : MemberArm) : StageSet := { cs2 with report := 1, members := [(3, a)], due := 3000 }
/-- A set whose fence is not signalled, with a deferral left. -/
def cs4d : StageSet := { cs3 with limit := 2, lead := 5000, refch := 0xFF, writes := [(okey 0x4006 2, .num 5)] }
/-- The same with a reference channel. -/
def cs4r : StageSet := { cs4d with refch := 5 }
/-- The machine that holds it, its reference channel running. -/
def st10 : State := {tl 1 [en 5 1] (withSet 1 cs4r (at_ 1000 up)) with chan := [(5,
    {running := true, origin := 100, rateNum := 60, rateDen := 1, epoch := 3})]}
/-- A member's set. -/
def cs5 (n : Nat): StageSet := { cs2 with coordinator := some n, report := 1, due := 3000 }
/-- A machine linked to its pair's other half. -/
def paired (s : State) : State := { s with pair := { live := true, link := true, state := 1 } }
/-- A worker of a cluster. -/
def wk (s : State) : State := { s with cluster := { role := 2, strap := 3, joined := true } }
/-- A finished set. -/
def fin : StageSet := { cs1 with state := 4 }
/-- A machine with a channel running. -/
def run5 (n : Nat) (s : State) : State := { s with chan := [(n, {running := true})] }
/-- A machine with audio groups armed to start. -/
def ag : State := { at_ 1000 up with od := ods [(0x1B22,3,1), (0x1B20,3,1), (0x1B03,4,2)], audio := { start := [(0,
    1000), (2, 1000)] } }
/-- A machine with a trigger output enabled. -/
def trg (k : Nat) : State := { at_ 100000 up with od := ods [(0x1520+k,1,1), (0x1520+k,3,1000), (0x1520+k,4,1),
    (0x1520+k,5,1), (0x1520+k,6,300)] }
/-- A tagging record of a Pavilion. -/
def tr (p : Nat) : TagRecord := {(default : TagRecord) with pav := p}
/-- A machine whose tagging selects every record. -/
def tg (p : Nat) : State := {up with perf := {lfsr := [(p, 1)], tagK := 4}}
/-- A machine with a Turnstile unit bound. -/
def tu (e : Nat) (x : Turnstile) (u : Nat): State := {up with od := ods [(0x1C10+u,2,e),(0x1C00,1,63)], cs := [(u,x)]}
/-- A Turnstile unit in its window. -/
def tx : Turnstile := {source := 1, state := 2, count := 1}
/-- A unit that snoops access units, its window full. -/
def mem : Turnstile := {source := 2, algo := 1, count := 1, state := 2}
/-- The bytes that it covered. -/
def dat : List Byte := List.replicate 64 7
/-- A machine with a test running. -/
def te : State := {up with mode := .test, od := ods [(0x1E10,6,1)], perf := {test := some (1, 5, [], 0)}}
/-- A verdict of a unit. -/
def vd (u : Nat) : TestVerdict := {(default : TestVerdict) with unit := u, verdict := 0}
/-- A machine with a performance counter at its last value. -/
def wr_ : State := {up with perf := {ctrs := [(127, {live := 2^64-1, ctl := 2^63+1}),(0,{})]}, tb := {count := 1}}

theorem witness_TicksAreHundredNanoseconds :
    (∃ (s : State), s.clocked = true ∧ -70368744178 ≤ s.num 0x1500 4 ∧ s.num 0x1500 4 ≤ 70368744178) ∧
    (∃ (s : State), s.clocked = true ∧ s.moving = none ∧ s.soon = [] ∧ s.sets = [] ∧ s.ctl.snaps = [] ∧
      s.ctl.sessions = [] ∧ (∀ k, k < 4 → ∀ e ∈ s.ttl k, s.advance.tick < e.due)) ∧
    (∃ (s : State), s.mode = .dormant ∧ s.lodge.powered = true) :=
  ⟨⟨sv, by decide +kernel⟩,
  ⟨sv, by decide +kernel⟩,
  ⟨State.reset, by decide +kernel⟩⟩

theorem witness_CommitPointsComplete :
    (∃ (s : State) (k n : Nat) (e : TtEntry) (x : StageSet), 1 ≤ k ∧ k ≤ 8 ∧ e ∈ s.ttl 0 ∧ e.kind = 1 ∧ e.target = k
      ∧ e.due ≤ s.tick ∧ s.set k = x ∧ x.state = 2 ∧ x.readyPassed = true ∧ x.coordinator = none ∧ x.members = [] ∧
      x.reply = none ∧ x.due / 100 ≤ s.tick ∧ x.writes = [(okey 0x1200 1, .num n)] ∧ s.mode = .service ∧ s.moving =
      none ∧ s.bookedChans k 3 = []) ∧
    (∃ (s : State) (k : Nat) (e : TtEntry) (x : StageSet), 1 ≤ k ∧ k ≤ 8 ∧ e ∈ s.ttl 1 ∧ e.kind = 5 ∧ e.target = k ∧
      e.due ≤ s.tick ∧ s.set k = x ∧ x.state = 2 ∧ x.readyPassed = false ∧ x.report = 0 ∧ x.coordinator = none ∧
      x.members = [] ∧ s.fencesOk x = true ∧ (∀ kv ∈ x.writes, commandObject (kv.1 / 256) (kv.1 % 256) = false)) ∧
    (∃ (s : State) (k : Nat) (e : TtEntry) (x : StageSet), 1 ≤ k ∧ k ≤ 8 ∧ e ∈ s.ttl 1 ∧ e.kind = 5 ∧ e.target = k ∧
      e.due ≤ s.tick ∧ s.set k = x ∧ (x.state = 2 ∨ x.state = 3) ∧ x.readyPassed = false ∧ x.report = 0 ∧
      x.coordinator = none ∧ x.members = [] ∧ x.reply = none ∧ s.fencesOk x = false ∧ x.limit ≤ x.deferrals) ∧
    (∃ (s : State) (k : Nat) (e : TtEntry) (x : StageSet), 1 ≤ k ∧ k ≤ 8 ∧ e ∈ s.ttl 1 ∧ e.kind = 5 ∧ e.target = k ∧
      e.due ≤ s.tick ∧ s.set k = x ∧ (x.state = 2 ∨ x.state = 3) ∧ x.readyPassed = false ∧ x.report = 0 ∧
      x.coordinator = none ∧ x.members = [] ∧ s.fencesOk x = false ∧ x.deferrals < x.limit ∧ x.refch = 0xFF ∧ (∀ n ∈
      x.chans s.od, (s.ch n).running = false)) ∧
    (∃ (s : State) (k m : Nat) (e : TtEntry) (x : StageSet), 1 ≤ k ∧ k ≤ 8 ∧ e ∈ s.ttl 1 ∧ e.kind = 6 ∧ e.target = k
      ∧ e.due ≤ s.tick ∧ s.set k = x ∧ x.state = 2 ∧ x.readyPassed = false ∧ x.report = 1 ∧ x.coordinator = none ∧ m
      < 16 ∧ x.members = [(m, MemberArm.ready)]) ∧
    (∃ (s : State) (k : Nat) (e : TtEntry) (x : StageSet), 9 ≤ k ∧ k ≤ 16 ∧ e ∈ s.ttl 1 ∧ e.kind = 7 ∧ e.target = k ∧
      e.due ≤ s.tick ∧ s.set k = x ∧ x.state = 2 ∧ x.decision = 0 ∧ x.coordinator = some 0x10 ∧ s.pair.live = true ∧
      x.reply = none ∧ s.cluster.role = 0) ∧
    (∃ (s : State) (k : Nat) (e : TtEntry) (x : StageSet), 1 ≤ k ∧ k ≤ 8 ∧ e ∈ s.ttl 1 ∧ e.kind = 7 ∧ e.target = k ∧
      e.due ≤ s.tick ∧ s.set k = x ∧ x.state = 2 ∧ x.decision = 0 ∧ x.coordinator = some 0 ∧ x.reply = none ∧
      s.cluster.role = 2) ∧
    (∃ (s : State) (k m : Nat) (x : StageSet), 1 ≤ k ∧ k ≤ 8 ∧ s.set k = x ∧ x.state = 2 ∧ s.pair.live = true ∧ x.due
      ≤ s.now + x.lead ∧ x.members = [(m, MemberArm.asked)] ∧ x.reply = none) ∧
    (∃ (s : State) (k : Nat), 1 ≤ k ∧ k ≤ 17 ∧ 4 ≤ (s.set k).state ∧ (s.set k).orphan = true ∧ (s.set k).finished +
      60000000000 ≤ s.now) ∧
    (∃ (s : State) (k b : Nat) (e : TtEntry) (x : StageSet), 1 ≤ k ∧ k ≤ 8 ∧ e ∈ s.ttl 1 ∧ e.kind = 5 ∧ e.target = k
      ∧ e.due ≤ s.tick ∧ s.set k = x ∧ (x.state = 2 ∨ x.state = 3) ∧ x.readyPassed = false ∧ x.report = 0 ∧
      x.coordinator = none ∧ x.members = [] ∧ s.fencesOk x = false ∧ x.deferrals < x.limit ∧ x.refch < 128 ∧ s.far
      x.refch = false ∧ (s.ch x.refch).running = true ∧ b = (s.ch x.refch).boundaryAt (x.due + 1) ((s.ch
      x.refch).epoch + 1)) :=
  ⟨⟨tl 0 [en 1 1] (withSet 1 cs1 (at_ 1000 up)), 1, 200000, en 1 1, cs1, by decide +kernel⟩,
  ⟨tl 1 [en 5 1] (withSet 1 cs2 (at_ 1000 up)), 1, en 5 1, cs2, by decide +kernel⟩,
  ⟨tl 1 [en 5 1] (withSet 1 cs3 (at_ 1000 up)), 1, en 5 1, cs3, by decide +kernel⟩,
  ⟨tl 1 [en 5 1] (withSet 1 cs4d (at_ 1000 up)), 1, en 5 1, cs4d, by decide +kernel⟩,
  ⟨tl 1 [en 6 1] (withSet 1 (cs4 .ready) (at_ 1000 up)), 1, 3, en 6 1, cs4 .ready, by decide +kernel⟩,
  ⟨paired (tl 1 [en 7 9] (withSet 9 (cs5 16) (at_ 1000 up))), 9, en 7 9, cs5 16, by decide +kernel⟩,
  ⟨wk (tl 1 [en 7 1] (withSet 1 (cs5 0) (at_ 1000 up))), 1, en 7 1, cs5 0, by decide +kernel⟩,
  ⟨paired (withSet 1 {cs4 .asked with lead := 5000} (at_ 1000 up)), 1, 3, {cs4 .asked with lead := 5000},
    by decide +kernel⟩,
  ⟨withSet 17 {cs1 with state := 4, orphan := true, finished := 0} (at_ 60000000000 up), 17, by decide +kernel⟩,
  ⟨st10, 1, 4, en 5 1, cs4r, by decide +kernel⟩⟩

theorem witness_TimedActionsComplete :
    (∃ (s : State) (n k : Nat) (e : TtEntry), n < 128 ∧ 1 ≤ k ∧ k ≤ 17 ∧ e ∈ s.ttl 0 ∧ e.kind = 2 ∧ e.target = n ∧
      e.due ≤ s.tick ∧ e.ref = (s.set k).order ∧ (s.set k).state = 4 ∧ (∀ j ∈ setNumbers, (s.set j).order = e.ref →
      (s.set j).state ≠ 0 → j = k) ∧ (∀ d ∈ s.ttl 0, d.kind = 2 → d.target = n → d = e) ∧ (s.ch n).running = false) ∧
    (∃ (s : State) (n k : Nat) (e : TtEntry), n < 128 ∧ 1 ≤ k ∧ k ≤ 17 ∧ e ∈ s.ttl 0 ∧ e.kind = 3 ∧ e.target = n ∧
      e.due ≤ s.tick ∧ e.ref = (s.set k).order ∧ (s.set k).state = 4 ∧ (∀ j ∈ setNumbers, (s.set j).order = e.ref →
      (s.set j).state ≠ 0 → j = k) ∧ (∀ d ∈ s.ttl 0, d.kind = 3 → d.target = n → d = e) ∧ (s.ch n).running = true ∧
      (s.ch n).starting = none ∧ (s.ch n).stopping = none) ∧
    (∃ (s : State) (g n p : Nat), g < 8 ∧ tget s.audio.start g = some n ∧ n ≤ s.now ∧ s.nat (0x1B20 + g) 3 = 1 ∧ p ∈
      groupPorts s.od g) ∧
    (∃ (s : State) (k : Nat) (e : TtEntry), (∀ p, (s.dch k).paidAt = some p → p + 100000 ≤ s.now) ∧ k < 16 ∧ e ∈
      s.ttl 2 ∧ e.kind = 9 ∧ e.target = k ∧ e.due ≤ s.tick ∧ (s.dch k).state ∉ [0, 4, 6, 7]) ∧
    (∃ (s : State) (k : Nat) (e : TtEntry), k < 16 ∧ e ∈ s.ttl 2 ∧ e.kind = 9 ∧ e.target = k ∧ e.due ≤ s.tick ∧
      ((s.dch k).state = 6 ∨ ((s.dch k).state = 2 ∧ ∃ p, (s.dch k).paidAt = some p ∧ s.now < p + 100000))) ∧
    (∃ (s : State) (due ref owner : Nat), s.tick < due ∧ (⟨due, 0x0A, 0, ref % 4294967296, owner⟩ : TtEntry) ∉ s.ttl
      3 ∧ 4 ≤ s.tt.length) ∧
    (∃ (s : State) (due ref owner : Nat), (⟨due, 0x0A, 0, ref % 4294967296, owner⟩ : TtEntry) ∈ s.ttl 3 ∧ due <
      s.tick) ∧
    (∃ (s : State) (due pin ref owner : Nat), pin < 16 ∧ (⟨due, 0x0B, pin, ref % 4294967296, owner⟩ : TtEntry) ∈
      s.ttl 3 ∧ due = s.tick) ∧
    (∃ (s : State) (k edge : Nat), k < 16 ∧ s.mode = .service ∧ s.nat (0x1520 + k) 1 = 1 ∧ s.triggerAt k edge = true
      ∧ tget s.trig.last k = none ∧ edge ≤ s.now) :=
  ⟨⟨tl 0 [en 2 127] (withSet 17 fin (at_ 1000 up)), 127, 17, en 2 127, by decide +kernel⟩,
  ⟨run5 127 (tl 0 [en 3 127] (withSet 17 fin (at_ 1000 up))), 127, 17, en 3 127, by decide +kernel⟩,
  ⟨ag, 0, 1000, 15, by decide +kernel⟩,
  ⟨{tl 2 [en 9 15] (at_ 1000 up) with dram := [(15,{state := 2})]}, 15, en 9 15, no_some (by decide +kernel),
    by decide +kernel⟩,
  ⟨{tl 2 [en 9 15] (at_ 1000 up) with dram := [(15,{state := 6})]}, 15, en 9 15, by decide +kernel⟩,
  ⟨at_ 1000 up, 50, 7, 1, by decide +kernel⟩,
  ⟨tl 3 [⟨8,0xA,0,5,0⟩,⟨70,0xA,0,5,0⟩] (at_ 1000 up), 8, 5, 0, by decide +kernel⟩,
  ⟨tl 3 [⟨10,0xB,15,5,0⟩,⟨70,0xA,0,5,0⟩] (at_ 1000 up), 10, 15, 5, 0, by decide +kernel⟩,
  ⟨trg 15, 15, 1000, by decide +kernel⟩⟩

theorem witness_MeasurementsComplete :
    (∃ (s : State), s.nat 0x1D00 2 ≠ 0 ∧ s.tick * 100 % (s.nat 0x1D00 2 * 1000000) = 0 ∧ s.nat 0x1D00 3 / 100 ≠
      s.tick) ∧
    (∃ (s : State) (r : TagRecord) (n x y : Nat), r.pav < pavCount ∧ tget s.perf.lfsr r.pav = some x ∧ lfsrTag
      s.perf.tagK n x = some y) ∧
    (∃ (s : State) (r : TagRecord) (n x y : Nat), r.pav < pavCount ∧ tget s.perf.lfsr r.pav = some x ∧ lfsrTag
      s.perf.tagK n x = some y) ∧
    (∃ (s : State) (u : Nat) (data d : List Byte) (whole : Bool) (x : Turnstile), u < 10 ∧ s.csu u = x ∧ s.windowFull
      x = true ∧ s.covered x data whole = (d, true) ∧ checkValue x.algo d = s.nat (0x1C10 + u) 2 % 2 ^ checkWidth
      x.algo) ∧
    (∃ (s : State) (u : Nat) (data d : List Byte) (whole : Bool) (x : Turnstile), u < 10 ∧ s.csu u = x ∧ s.windowFull
      x = true ∧ s.covered x data whole = (d, true) ∧ checkValue x.algo d ≠ s.nat (0x1C10 + u) 2 % 2 ^ checkWidth
      x.algo ∧ s.nat 0x1C00 1 < 64) ∧
    (∃ (s : State) (u : Nat) (data d : List Byte) (whole : Bool) (x : Turnstile), u < 10 ∧ s.csu u = x ∧ s.windowFull
      x = true ∧ s.covered x data whole = (d, false)) ∧
    (∃ (s : State) (u : Nat) (x : Turnstile), u < 10 ∧ s.csu u = x ∧ x.state = 2 ∧ x.source ≠ 0x10 ∧ (s.ch
      (s.snoopChan x)).running = false ∧ x.repeating = false) ∧
    (∃ (s : State) (outcome duration code units lim : Nat) (p : List Byte) (began : Nat) (v : List TestVerdict),
      s.perf.test = some (code, units, p, began) ∧ s.mode = .test ∧ testLimit code = some lim ∧ outcome = 2 ∧ v.map
      TestVerdict.unit = bits units 64 ∧ (∀ x ∈ v, x.verdict ≠ 1)) ∧
    (∃ (s : State) (k : Nat), k < 1152 ∧ countsCycles k (s.ctr k).ctl = true ∧ 2 ^ 64 ≤ (s.ctr k).live + (s.tb.count
      - s.perf.edge)) :=
  ⟨⟨{at_ 10000000 up with od := ods [(0x1D00,2,5)]}, by decide +kernel⟩,
  ⟨tg 5, tr 5, ((List.range 400).filter (fun n => (lfsrTag 4 n 1).isSome)).headD 0, 1, 2657041648,
    by decide +kernel⟩,
  ⟨tg 5, tr 5, ((List.range 400).filter (fun n => (lfsrTag 4 n 1).isSome)).headD 0, 1, 2657041648,
    by decide +kernel⟩,
  ⟨tu (checkValue 1 dat) mem 7, 7, dat, dat, true, mem, by decide +kernel⟩,
  ⟨tu 5 mem 7, 7, dat, dat, true, mem, by decide +kernel⟩,
  ⟨tu 5 mem 7, 7, dat, dat, false, mem, by decide +kernel⟩,
  ⟨tu 5 {tx with source := 2} 9, 9, {tx with source := 2}, by decide +kernel⟩,
  ⟨te, 2, 500, 1, 5, 100000000, [], 0, [vd 0, vd 2], by decide +kernel⟩,
  ⟨wr_, 127, by decide +kernel⟩⟩

end Timetable

namespace Input

/-- A machine with one lane given. -/
def la (k : Nat) (l : Lane) (s : State := up) : State := {s with lane := [(k,l)]}
/-- A Carriageway lane that has just trained. -/
def q2 : State := la 3 {rx:=3,tx:=2} (at_ 100000000 {up with od := ods [(0x1900,1,1), (0x1900,12,2), (0x1902,4,11),
    (0x1903,1,1000), (0x1953,1,2)]})
/-- Objects of a 4 × 3 picture on a channel. -/
def pod (n : Nat) : List (Nat × Nat × Int) := [(chI n 0,1,4), (chI n 0,2,3), (chI n 10,1,32), (chI n 0x70,1,255),
    (chI n 1,5,1), (chI n 2,1,4), (chI n 2,2,3), (0x1900,2,1)]
/-- A machine with that channel running. -/
def pic (n : Nat) : State := la 5 {rx := 2} (at_ 2000 {up with
    mode := .encode, chan := [(n, {running := true, stamp := 1000, origin := 1000})], od := ods (pod n)})
/-- The header of a line of that picture. -/
def hdr (line : Nat) : List Byte := ([0,0,line,0,4,0,3,0,6,0,1,10,0,1,2,0,1,0,0,
    0] ++ List.replicate 12 0).map (BitVec.ofNat 8)
/-- The share of the line's only lane. -/
def shr (line : Nat) : List Byte := let b := pack 10 [1,2,3,4,5,6,7,
    1023]; b ++ leBytes 4 (crc32c (hdr line ++ b)) ++ [0,0]
/-- The segment that carries the line. -/
def sg (line : Nat) : Segment := let b := hdr line ++ shr line; ⟨5,0,0,0,false, b ++ leBytes 4 (crc32c b)⟩
/-- The channel with every line received. -/
def full (n : Nat) : State := let s := at_ 100000000 (pic n); {s with chan := [(n,
    {running := true, stamp := 1000, origin := 1000, stamps := [(0,1000)], lines := (List.range 3).map (fun l => (l, List.replicate 8 64)), have_ := [(0,1), (1,1), (2,1)]})]}
/-- The channel with a decoded source in DECODE. -/
def decd (n : Nat) : State := let s := full n; {s with mode := .decode, od := ods (pod n ++ [(chI n 10,4,32)])}
/-- The channel before its first boundary. -/
def strt (n : Nat) : State := let s := full n; {s with chan := [(n, {starting := some 500})]}
/-- The channel with a decoded picture waiting. -/
def dec_ (n : Nat) (p : Pict) : State := let s := full n; {s with od := ods (pod n ++ [(chI n 0x70,1,4)]), dec := [(n,
    {started := true, waiting := [p]})]}
/-- A decoded picture. -/
def pc : Pict := ⟨(full 127).ch 127 |>.expected 1, 5, false, [[],[],[]]⟩

theorem witness_LaneCommandsComplete :
    (∃ (s : State) (k : Nat), k < 48 ∧ (s.laneAt k).rx = 1) ∧
    (∃ (s : State) (k : Nat), k < 48 ∧ (s.laneAt k).rx = 1 ∧ s.quadRole (k / 4) ≠ 2) ∧
    (∃ (s : State) (k p : Nat), k < 48 ∧ (s.laneAt k).rx = 1 ∧ s.quadRole (k / 4) = 2 ∧ s.portOfQuad (k / 4) = some p
      ∧ s.bb.queue.length < 64) ∧
    (∃ (s : State) (k : Nat), k < 48 ∧ (s.laneAt k).rx = 2 ∧ 64 ≤ (s.laneAt k).failRun ∧ s.bb.queue.length < 64) ∧
    (∃ (s : State) (k : Nat), k < 48 ∧ (s.laneAt k).rx = 4 ∧ 64 ≤ (s.laneAt k).passRun) ∧
    (∃ (s : State) (k : Nat), k < 48 ∧ (s.laneAt k).rx = 2) ∧
    (∃ (s : State) (k : Nat), k < 48 ∧ (s.laneAt k).rx = 3) ∧
    (∃ (s : State) (p k : Nat), p < 4 ∧ s.cwUp p = true ∧ s.nat 0x1903 1 ≠ 0 ∧ (s.cwAt p).replay = [] ∧ (s.cwAt
      p).waiting = [] ∧ (s.cwAt p).idleSince + s.nat 0x1903 1 ≤ s.now ∧ k ∈ s.portLanes p ∧ (s.laneAt k).tx = 2) :=
  ⟨⟨la 47 {rx:=1, tx:=2}, 47, by decide +kernel⟩,
  ⟨la 47 {rx:=1, tx:=1}, 47, by decide +kernel⟩,
  ⟨la 47 {rx:=1, tx:=1} q2, 47, 3, by decide +kernel⟩,
  ⟨la 47 {rx:=2, tx:=1, failRun := 64}, 47, by decide +kernel⟩,
  ⟨la 47 {rx:=4, tx:=1, passRun := 64}, 47, by decide +kernel⟩,
  ⟨la 47 {rx:=2, tx:=1}, 47, by decide +kernel⟩,
  ⟨la 47 {rx:=3, tx:=1}, 47, by decide +kernel⟩,
  ⟨la 47 {rx:=2, tx:=2} q2, 3, 47, by decide +kernel⟩⟩

theorem witness_LinesComplete :
    (∃ (s : State) (n l stamp : Nat) (g : Segment) (h : LineHead) (anc : List Byte) (samples : List Nat), n < 128 ∧ l
      < 48 ∧ (s.ch n).running = true ∧ (s.ch n).starting = none ∧ s.source n = 0xFF ∧ s.bond n = ⟨[l], none⟩ ∧
      (s.laneAt l).rx = 2 ∧ s.quadRole (l / 4) = 1 ∧ g.lane = l ∧ segPasses g = true ∧ h = lineHead (segHead g) ∧
      headNat (segHead g) 15 1 = 0 ∧ h.lanes = 1 ∧ bit h.flags 3 = false ∧ h.line ≠ 0 ∧ h.line < h.height ∧ (s.ch
      n).discarding = false ∧ tget (s.ch n).have_ h.line = none ∧ s.now ≤ (s.ch n).stamp + ((s.cfg n).ns (Frac.ofInt
      (h.line + 2 : Nat))).floor.toNat ∧ h.width = (s.lineWindow n).2 ∧ h.height = (s.cfg n).h ∧ (rateCodes.getD
      h.rate (0, 1)).1 * (s.cfg n).den = (rateCodes.getD h.rate (0, 1)).2 * (s.cfg n).num ∧ h.fmt = (s.cfg n).fmt ∧
      lineBody (segHead g) (bodyOf [segShare g]) h = some (anc, samples)) ∧
    (∃ (s : State) (n line : Nat), n < 128 ∧ (s.ch n).running = true ∧ line < (s.cfg n).h ∧ tget (s.ch n).have_ line
      = none ∧ (s.ch n).stamp + ((s.cfg n).ns (Frac.ofInt (line + 2 : Nat))).ceil.toNat ≤ s.now) ∧
    (∃ (s : State) (n row stamp : Nat) (g : Cfg), n < 128 ∧ tget (s.ch n).stamps (s.ch n).readyE = some stamp ∧ g =
      s.cfgAt n (s.ch n).readyE ∧ row = (s.ch n).ready ∧ row < g.rows ∧ stamp + (g.ns (Frac.ofInt (g.lastInput (min
      g.oh ((row + 1) * g.ctu) - 1) + 5 : Nat))).ceil.toNat ≤ s.now) ∧
    (∃ (s : State) (n line stamp : Nat) (g : Cfg), n < 128 ∧ tget (s.ch n).stamps (s.ch n).retE = some stamp ∧ g =
      s.cfgAt n (s.ch n).retE ∧ s.chanMode n = .decode ∧ (bondOf (s.nat (chI n 10) 4) (s.flag (chI n 10) 5)).data ≠
      [] ∧ line = (s.ch n).retLine ∧ line < g.oh ∧ stamp + (g.ns (Frac.ofInt (line + 5 : Nat))).ceil.toNat ≤ s.now) :=
  ⟨⟨pic 127, 127, 5, 1500, sg 2, lineHead (segHead (sg 2)), [], [1,2,3,4,5,6,7,1023], by decide +kernel⟩,
  ⟨at_ 100000000 (pic 127), 127, 2, by decide +kernel⟩,
  ⟨full 127, 127, 0, 1000, (full 127).cfgAt 127 0, by decide +kernel⟩,
  ⟨{decd 127 with chan := [(127, {(decd 127).ch 127 with retLine := 2})]}, 127, 2, 1000, (decd 127).cfgAt 127 0,
    by decide +kernel⟩⟩

theorem witness_BoundariesComplete :
    (∃ (s : State) (n : Nat), Quiet s n ∧ n < 128 ∧ (s.ch n).running = true ∧ (s.ch n).starting = none ∧ s.source n =
      0xFF ∧ (s.ch n).expected ((s.ch n).epoch + 1) + s.lockNs n ≤ s.now) ∧
    (∃ (s : State) (n t0 : Nat), Quiet s n ∧ n < 128 ∧ (s.ch n).running = false ∧ (s.ch n).starting = some t0 ∧
      s.source n = 0xFF ∧ t0 + (s.cfg n).period.ceil.toNat + s.lockNs n ≤ s.now) ∧
    (∃ (s : State) (n : Nat) (p : Pict), Quiet s n ∧ n < 128 ∧ (s.ch n).running = true ∧ (s.ch n).starting = none ∧
      s.source n ≤ 4 ∧ (s.ch n).expected ((s.ch n).epoch + 1) ≤ s.now ∧ (s.dc n).waiting = [p] ∧ p.t = (s.ch
      n).expected ((s.ch n).epoch + 1) ∧ p.done ≤ p.t) :=
  ⟨⟨full 127, 127, quiet_of (by decide +kernel) (by decide +kernel), by decide +kernel⟩,
  ⟨strt 127, 127, 500, quiet_of (by decide +kernel) (by decide +kernel), by decide +kernel⟩,
  ⟨dec_ 127 pc, 127, pc, quiet_of (by decide +kernel) (by decide +kernel), by decide +kernel⟩⟩

end Input

namespace Mews

/-- A machine with some stalls given. -/
def ms (l : Tab Stall) (s : State := up) : State := {s with mews := {stalls := l}}
/-- A band in a state. -/
def bnd (st : Nat) : Stall := {kind := 1, state := st, chan := 2, epoch := 3, row := 1, col := 0}
/-- A fetch or search in a state. -/
def fet (kd st : Nat) : Stall := {kind := kd, state := st, chan := 2, epoch := 3, row := 1, col := 0}
/-- Objects of a 64 × 64 picture on a channel. -/
def pod (n : Nat) : List (Nat × Nat × Int) := [(chI n 0,1,64), (chI n 0,2,64), (chI n 10,1,32), (chI n 0x70,1,255),
    (chI n 1,5,1), (chI n 2,1,64), (chI n 2,2,64)]
/-- A machine with that channel running. -/
def pic (n : Nat) (s : State := at_ 1000000000 up) : State := {s with
    mode := .encode, chan := [(n, {running := true, stamp := 1000, origin := 1000, stamps := [(0,1000)], kinds := [(0,1)]})], od := ods (pod n)}
/-- The channel with the stalls of its picture. -/
def bp (n : Nat) : State := ms (((((pic 127).cfgAt n 0).bandsOf 0).zip (List.range 10)).map (fun (b, k) => (k, {bnd 2 with
    chan := n, epoch := 0, row := b.1, col := b.2}))) (pic n)
/-- The costs of the bands of a row. -/
def cst (b : Nat × Nat) : Nat := ((bp 127).bandCost 127 0 true 0 b).getD 0
/-- A ready band on a berth. -/
def rdy (p : Nat) : Stall := {bnd 3 with list := 3, berth := p, quarter := p/16}
/-- A device in ENCODE. -/
def enc : State := {up with mode := .encode}
/-- A band that runs on Pavilion 7. -/
def b4 (n r : Nat) : Stall := {kind := 1, state := 4, chan := n, epoch := 0, row := r, col := 0, list := 3, pav := 7}
/-- A channel with Pavilion 7 at work. -/
def pw (l : Tab Stall) (n : Nat) : State := let s := ms l (pic n); {s with
    mews := {s.mews with pavs := [(7,{busy := some 4})]}, chan := [(n, {s.ch n with bandBudgets := [(bandKey 0 0 0,
    5000), (bandKey 0 1 0,5000)]})]}
/-- A seam that runs. -/
def sm : Stall := {b4 127 0 with kind := 2}
/-- A band held back. -/
def sb : Stall := {b4 127 0 with list := 2}
/-- A machine whose engine fails, with a substitute ready. -/
def ef : State := let s := pw [(4, b4 127 0),(9,{kind:=7,berth:=7,state:=3})] 127; {s with od := odSet s.od 0x2003 5 0}
/-- A machine with one engine given. -/
def pv (p : Nat) (e : Engine) (s : State := up) : State := {s with
    mews := {pavs := [(p,e)]}, od := odSet s.od 0x2003 5 0}
/-- A machine with no spare Pavilion. -/
def nosp (m : Mode) : State := {up with mode := m, od := ods [(0x2003,1,0),(0x2003,2,0)]}

theorem witness_CoachesComplete :
    (∃ (s : State) (i k : Nat) (x b : Stall), i < 49152 ∧ s.stall i = some x ∧ x.kind = 3 ∧ x.state = 4 ∧ k ≠ i ∧
      s.stallOf 1 x.chan x.epoch x.row x.col = some (k, b) ∧ s.stallOf 4 x.chan x.epoch x.row x.col = none) ∧
    (∃ (s : State) (i k j : Nat) (x b y : Stall), i < 49152 ∧ s.stall i = some x ∧ x.kind = 3 ∧ x.state = 4 ∧ k ≠ i ∧
      j ≠ i ∧ j ≠ k ∧ s.stallOf 1 x.chan x.epoch x.row x.col = some (k, b) ∧ s.stallOf 4 x.chan x.epoch x.row x.col =
      some (j, y)) ∧
    (∃ (s : State) (i k : Nat) (x b : Stall), i < 49152 ∧ s.stall i = some x ∧ x.kind = 4 ∧ x.state = 3 ∧ k ≠ i ∧
      s.stallOf 1 x.chan x.epoch x.row x.col = some (k, b)) ∧
    (∃ (s : State) (n row stamp kind : Nat) (g : Cfg) (cost : Nat × Nat → Nat), n < 128 ∧ tget (s.ch n).stamps (s.ch
      n).budE = some stamp ∧ g = s.cfgAt n (s.ch n).budE ∧ row = (s.ch n).budRow ∧ row < g.drows ∧ tgetD (s.ch
      n).kinds (s.ch n).budE 1 = kind ∧ stamp + (g.ns (((g.sd.mul (Frac.ofInt row)).add g.a).add (Frac.ofInt (g.y0 +
      g.p : Nat)))).ceil.toNat ≤ s.now ∧ (∀ b ∈ g.bandsOf row, s.bandCost n (s.ch n).budE (bit kind 0) (kind / 2) b =
      some (cost b))) ∧
    (∃ (s : State) (i slot : Nat) (x : Stall), i < 49152 ∧ slot < 5 ∧ s.stall i = some x ∧ bit x.tokens slot = true)
      ∧
    (∃ (s : State) (p k : Nat) (x : Stall), p < 64 ∧ s.gated = false ∧ s.working p = true ∧ (s.pav p).busy = none ∧
      s.choose p = some (k, x) ∧ s.picked p k = true) ∧
    (∃ (s : State) (i bits ctus floors : Nat) (x : Stall), i < 49152 ∧ s.stall i = some x ∧ x.kind = 1 ∧ x.state = 4
      ∧ x.list ≠ 2 ∧ bits ≤ tgetD (s.ch x.chan).bandBudgets (bandKey x.epoch x.row x.col) 0 ∧ ctus = (s.cfgAt x.chan
      x.epoch).tileW x.col ∧ floors ≤ ctus ∧ s.aheadWaits x = true) ∧
    (∃ (s : State) (i bits ctus floors : Nat) (x : Stall), i < 49152 ∧ s.stall i = some x ∧ x.kind = 1 ∧ x.state = 4
      ∧ x.list ≠ 2 ∧ bits ≤ tgetD (s.ch x.chan).bandBudgets (bandKey x.epoch x.row x.col) 0 ∧ ctus = (s.cfgAt x.chan
      x.epoch).tileW x.col ∧ floors ≤ ctus ∧ s.aheadWaits x = false ∧ (s.ch x.chan).bandDone x.epoch x.row x.col =
      false ∧ (s.ch x.chan).columnLost (s.cfgAt x.chan x.epoch) x.epoch x.row x.col = false) ∧
    (∃ (s : State) (i : Nat) (x : Stall), i < 49152 ∧ s.stall i = some x ∧ x.kind = 2 ∧ x.state = 4) ∧
    (∃ (s : State) (i : Nat) (x : Stall), i < 49152 ∧ s.stall i = some x ∧ x.kind = 1 ∧ x.state = 4 ∧ x.list = 2) :=
  ⟨⟨ms [(5, bnd 2), (9, fet 3 4)], 9, 5, fet 3 4, bnd 2, by decide +kernel⟩,
  ⟨ms [(5, bnd 2), (7, fet 4 2), (49151, fet 3 4)], 49151, 5, 7, fet 3 4, bnd 2, fet 4 2, by decide +kernel⟩,
  ⟨ms [(5, bnd 2), (49151, fet 4 3)], 49151, 5, fet 4 3, bnd 2, by decide +kernel⟩,
  ⟨bp 127, 127, 0, 1000, 1, (bp 127).cfgAt 127 0, cst, by decide +kernel⟩,
  ⟨ms [(49151, {bnd 2 with opmask := 15, tokens := 16})], 49151, 4, {bnd 2 with opmask := 15, tokens := 16},
    by decide +kernel⟩,
  ⟨ms [(3, rdy 60)] enc, 60, 3, rdy 60, by decide +kernel⟩,
  ⟨pw [(3, b4 127 0),(4, b4 127 1)] 127, 4, 100, ((pic 127).cfgAt 127 0).tileW 0, 0, b4 127 1, by decide +kernel⟩,
  ⟨pw [(4, b4 127 0)] 127, 4, 0, ((pic 127).cfgAt 127 0).tileW 0, ((pic 127).cfgAt 127 0).tileW 0, b4 127 0,
    by decide +kernel⟩,
  ⟨pw [(4, sm)] 127, 4, sm, by decide +kernel⟩,
  ⟨pw [(4, sb)] 127, 4, sb, by decide +kernel⟩⟩

theorem witness_EngineCommandsComplete :
    (∃ (s : State) (i word : Nat) (x : Stall), i < 49152 ∧ word < 32768 ∧ s.stall i = some x ∧ x.kind = 1 ∧ x.state =
      4 ∧ x.list ≠ 2 ∧ (s.pav x.pav).state ≤ 2 ∧ (s.pav x.pav).words.contains word = false ∧ s.window = 0 ∧ tabWf
      s.mews.stalls = true ∧ s.bb.queue.length < 64) ∧
    (∃ (s : State) (i word : Nat) (x : Stall), i < 49152 ∧ word < 32768 ∧ s.stall i = some x ∧ x.state = 4) ∧
    (∃ (s : State) (p : Nat), p < 64 ∧ (s.pav p).state = 2 ∧ (s.pav p).tests = 63) ∧
    (∃ (s : State) (p : Nat), p < 64 ∧ (s.pav p).state = 2 ∧ s.spareOf (p / 16) = none ∧ s.mode = .safe ∧ s.outranked
      4 = false) ∧
    (∃ (s : State) (p q : Nat), p < 64 ∧ (s.pav p).state = 2 ∧ s.spareOf (p / 16) = some q ∧ q ≠ p) ∧
    (∃ (s : State) (p : Nat), p < 64 ∧ (s.pav p).state = 1 ∧ s.windowOver (s.pav p) = true) ∧
    (∃ (s : State) (e : Nat), e < 16 ∧ (s.eu e).state = 1 ∧ s.windowOver (s.eu e) = true) ∧
    (∃ (s : State) (p old : Nat) (ok : Bool), p < 64 ∧ p ≠ old ∧ (s.pav p).state = 4 ∧ (s.pav p).standsFor = some old
      ∧ s.bb.queue.length < 63) :=
  ⟨⟨ef, 4, 77, b4 127 0, by decide +kernel⟩,
  ⟨ef, 4, 77, b4 127 0, by decide +kernel⟩,
  ⟨pv 63 {state := 2, tests := 63}, 63, by decide +kernel⟩,
  ⟨pv 3 {state := 2} (nosp .safe), 3, by decide +kernel⟩,
  ⟨{up with mews := {pavs := [(3,{state := 2})]}, od := ods [(0x2003,1,1)]}, 3, 15, by decide +kernel⟩,
  ⟨pv 63 {state := 1}, 63, by decide +kernel⟩,
  ⟨{up with mews := {eus := [(15,{state := 1})]}, od := ods [(0x2003,5,0)]}, 15, by decide +kernel⟩,
  ⟨{up with mews := {pavs := [(3,{state := 5, berths := [(1,0,0,1)]}),(15,{state := 4, standsFor := some 3})], stalls := [(6,rdy 3)]}},
    15, 3, true, by decide +kernel⟩⟩

end Mews

namespace Links

/-- Objects of a 64 × 64 picture on a channel. -/
def pod (n : Nat) : List (Nat × Nat × Int) := [(chI n 0,1,64), (chI n 0,2,64), (chI n 10,1,32), (chI n 0x70,1,255),
    (chI n 1,5,1), (chI n 2,1,64), (chI n 2,2,64)]
/-- The channel running, with a picture departed up to a row. -/
def picd (n : Nat) (xs : List (Nat × Nat × Int)) : State := {at_ 10000000000 up with
    mode := .encode, chan := [(n, {running := true, stamp := 1000, origin := 1000, stamps := [(0,1000)], kinds := [(0,1)]})], od := ods (pod n ++ xs)}
/-- The channel with a departure row next to leave. -/
def dr (row : Nat) (xs : List (Nat × Nat × Int)) : State := let s := picd 127 xs; {s with chan := [(127, {s.ch 127 with
    depRow := row})]}
/-- When that row may leave. -/
def nr (row : Nat) : Nat × Nat := ((dr row []).nextRowTime 127).getD (0,0)
/-- A departure unit that runs. -/
def du : Stall := {kind := 5, state := 4, chan := 127, flow := 9}
/-- The departure unit that waits for it. -/
def du2 : Stall := {kind := 5, state := 2, chan := 127, flow := 9, opmask := 1}
/-- A delivery ring with room. -/
def rx : Ring := {size := 8, tail := 4, en := true}
/-- A unit owed to a delivery ring. -/
def ru (n : Nat) : RingUnit := ⟨n, 5, 9, 1, 1, 0, 0⟩
/-- A flow that delivers to a ring. -/
def rs (r : Nat) (x : Ring) (n : Nat := 200) (dr : Nat := 0) : State :=
    {picd 127 [(flI 7 0,1,1), (flI 7 0,4,4), (flI 7 0,15,r)] with ring := [(r,x)], flow := [(7,
    {owed := [ru n], dropping := dr})]}
/-- A descriptor of a delivery ring. -/
def ds (n : Nat) : Descr := ⟨64*n, 128, 0, 0, 0, 0, 0⟩
/-- The descriptors that it fills. -/
def dl (s : State) (n : Nat) : List Descr := (fillDescs n 1 (stamp32 s.now) 1 9 false true ([ds 1, ds 4,
    ds 6].take 4)).getD []
/-- A descriptor of an input ring. -/
def di (f : Nat) : Descr := ⟨64, 128, 100, 0, 0, f, 0⟩
/-- A channel with a decoder. -/
def dd (xs : List (Nat × Nat × Int)) (d : Decoder) (l : Pict → Pict := id) : State := {picd 127 ((chI 127 0x70,1,
    0) :: xs) with dec := [(127,d)]}
/-- Objects of an input path. -/
def path (j : Nat) : List (Nat × Nat × Int) := [(chI 127 (0x71+j),1,1), (chI 127 (0x71+j),2,0xE0000005),
    (chI 127 (0x71+j),3,5000), (chI 127 (0x71+j),5,2), (chI 127 0x70,9,96), (0x1A02,1,1), (0x1A02,10,1)]
/-- A datagram of that path. -/
def dg : Datagram := {net := 2, srcIp := 7, dstIp := 0xE0000005, dstPort := 5000}
/-- The planes of a decoded picture. -/
def pl : List (List (List Nat)) := [List.replicate 64 (List.replicate 64 9), List.replicate 64 (List.replicate 32 9),
    List.replicate 64 (List.replicate 32 9)]
/-- An access unit of that picture. -/
def au : AccessUnit := {(default : AccessUnit) with
    rap := 1, w := 64, h := 64, fmt := (dd [] {}).cfg 127 |>.fmt, planes := pl, ts := 90000, recovery := none}
/-- A decode task that runs. -/
def das : Stall := {kind := 6, state := 4, chan := 127, pav := 9}
/-- A channel with confidence monitoring. -/
def cf : State := let s := dd [(chI 127 0x73,1,1)] {}; {s with chan := [(127, {s.ch 127 with depE := 1})]}
/-- A machine with NET ports up. -/
def nt (xs : List (Nat × Nat × Int)) (p : Port := {}) : State := {up with
    od := ods ([(0x1A03,1,1), (0x1A03,10,1), (0x1A03,4,0xC0A80005), (0x1102,2,0)] ++ xs), net := [(3,p)]}
/-- A flow through port 3. -/
def fl3 : List (Nat × Nat × Int) := [(flI 7 0,1,1),(flI 7 0,4,0),(flI 7 0,5,3),(flI 7 0,6,0xC0A80009)]
/-- A machine that answers IGMP. -/
def ig : State := nt [(chI 9 0x71,1,1),(chI 9 0x71,5,3),(chI 9 0x71,2,0xE0000181)]
/-- A PTP port. -/
def pt (k : Nat) (p : PtpPort := {}) (par : Option Nat := none) : State := {at_ 5000000000 up with
    od := ods [(0x1501,5,2^k), (0x1A00+k,1,1), (0x1A00+k,10,1)], ptp := {running := true, ports := [(k,p)], parent := par}, clk := {bypass := false}}
/-- An Announce message. -/
def an : AnnounceMsg := {(default : AnnounceMsg) with
    source := 77, domain := (pt 3).nat 0x1501 2, priority1 := 1, clockClass := 6, interval := 0}
/-- A Sync message, two-step or not. -/
def sy (tw : Bool) : SyncMsg := ⟨false, 77, (pt 3).nat 0x1501 2, 5, tw, 4999990000, 5000000000⟩
/-- A foreign master heard once. -/
def mx : PtpMaster := ⟨an, 1, 1⟩
/-- A timebase that slews. -/
def slw (o : Int) : State := {at_ 5000000000 up with tb := {(at_ 5000000000 up).tb with
    slew := some o, slewAt := 5000000000}}
/-- A timebase in holdover. -/
def ho : State := {at_ 5000000000 up with od := ods [(0x1500,9,3),(0x1500,12,5)]}
/-- A capture input with some records. -/
def ci (n : Nat) (l : Bool) : State := {up with od := ods [(0x1510,8,0x8000+0x4000)], cap := [(7,
    {fifo := List.replicate n (1,2,3), lost := l})]}

theorem witness_DeparturesAndRingsComplete :
    (∃ (s : State) (n row : Nat) (u : Nat × Nat) (g : Cfg), n < 128 ∧ s.nextRowTime n = some u ∧ g = s.cfgAt n (s.ch
      n).depE ∧ row = (s.ch n).depRow ∧ u.1 ≤ s.now ∧ s.now ≤ u.2 ∧ s.rowTurn n u.1 = true) ∧
    (∃ (s : State) (i : Nat) (x : Stall), i < 49152 ∧ s.stall i = some x ∧ x.kind = 5 ∧ x.state = 4 ∧ x.depart ≤
      s.now) ∧
    (∃ (s : State) (i k : Nat) (x y : Stall), (∀ j z, s.stall j = some z → j ≠ i → z.kind = 5 → z.flow = x.flow →
      z.chan = x.chan → j = k) ∧ i < 49152 ∧ s.stall i = some x ∧ x.kind = 5 ∧ x.state = 4 ∧ x.depart ≤ s.now ∧ k ≠ i
      ∧ tabWf s.mews.stalls = true ∧ s.stall k = some y ∧ y.kind = 5 ∧ y.flow = x.flow ∧ y.chan = x.chan) ∧
    (∃ (s : State) (r f : Nat) (u : RingUnit) (rest : List RingUnit) (descs l : List Descr) (x : Ring), r < 16 ∧ s.rg
      r = x ∧ x.en = true ∧ s.ringFlow r = some f ∧ (s.fl f).owed = u :: rest ∧ u.due ≤ s.now ∧ (s.fl f).dropping ≠
      u.au + 1 ∧ fillDescs u.bytes u.mts (stamp32 s.now) u.flags u.epochLo x.loss true (descs.take x.free) = some l)
      ∧
    (∃ (s : State) (r f : Nat) (u : RingUnit) (rest : List RingUnit) (descs : List Descr) (x : Ring), r < 16 ∧ s.rg r
      = x ∧ x.en = true ∧ s.ringFlow r = some f ∧ (s.fl f).owed = u :: rest ∧ u.due ≤ s.now ∧ (s.fl f).dropping ≠
      u.au + 1 ∧ fillDescs u.bytes u.mts (stamp32 s.now) u.flags u.epochLo x.loss true (descs.take x.free) = none) ∧
    (∃ (s : State) (r f : Nat) (u : RingUnit) (rest : List RingUnit) (descs : List Descr) (x : Ring), r < 16 ∧ s.rg r
      = x ∧ s.ringFlow r = some f ∧ (s.fl f).owed = u :: rest ∧ u.due ≤ s.now ∧ (s.fl f).dropping = u.au + 1) ∧
    (∃ (s : State) (r : Nat) (descs run : List Descr) (x : Ring), 16 ≤ r ∧ r < 32 ∧ s.rg r = x ∧ x.en = true ∧ run =
      nextRun (descs.take x.free) ∧ run ≠ [] ∧ bit (run.headD default).flags 0 = true ∧ bit (run.getLastD
      default).flags 1 = true ∧ bit (run.getLastD default).flags 2 = false ∧ (∀ d ∈ run, descOk d = true ∧ d.len ≤
      d.buflen)) :=
  ⟨⟨at_ (nr 0).1 (dr 0 []), 127, 0, nr 0, (dr 0 []).cfgAt 127 0, by decide +kernel⟩,
  ⟨{picd 127 [] with mews := {stalls := [(49151, du)]}}, 49151, du, by decide +kernel⟩,
  ⟨{picd 127 [] with mews := {stalls := [(5, du2), (49151, du)]}}, 49151, 5, du, du2, stalls_of (by decide +kernel),
    by decide +kernel⟩,
  ⟨rs 15 rx, 15, 7, ru 200, [], [ds 1, ds 4, ds 6], dl (rs 15 rx) 200, rx, by decide +kernel⟩,
  ⟨rs 15 rx 600, 15, 7, ru 600, [], [ds 1, ds 4, ds 6, ds 8], rx, by decide +kernel⟩,
  ⟨rs 15 rx 200 6, 15, 7, ru 200, [], [ds 1], rx, by decide +kernel⟩,
  ⟨rs 31 rx, 31, [di 5, di 2, di 3], [di 5, di 2], rx, by decide +kernel⟩⟩

theorem witness_DecodingCompletes :
    (∃ (s : State) (n path payload seq : Nat) (p : Datagram) (data : List Byte), n < 128 ∧ path < 2 ∧ seq < 65536 ∧
      (s.ch n).running = true ∧ (s.ch n).starting = none ∧ s.source n ≤ 4 ∧ s.nat (chI n 0x70) 4 = 0 ∧ s.pathTakes n
      path p payload = true ∧ (s.dc n).next = none) ∧
    (∃ (s : State) (n seq at_ : Nat) (data : List Byte), n < 128 ∧ seq < 65535 ∧ (s.ch n).starting = none ∧ (s.dc
      n).next = some seq ∧ (s.dc n).ahead = [(seq + 1, (at_, data))] ∧ s.flag (chI n 0x72) 1 = false ∧ at_ ≤ s.now) ∧
    (∃ (s : State) (n : Nat) (au : AccessUnit), n < 128 ∧ (s.ch n).running = true ∧ (s.ch n).starting = none ∧
      s.source n ≤ 3 ∧ (s.dc n).started = false ∧ au.rap ≠ 0 ∧ au.rasl = false ∧ au.level ≤ s.nat (chI n 0x70) 3 ∧
      au.w = (s.cfg n).w ∧ au.h = (s.cfg n).h ∧ au.fmt = (s.cfg n).fmt ∧ au.concealed = []) ∧
    (∃ (s : State) (i : Nat) (x : Stall), i < 49152 ∧ s.stall i = some x ∧ x.kind = 6 ∧ x.state = 4) ∧
    (∃ (s : State) (n row e d : Nat) (l : List Nat) (ok : Bool), n < 128 ∧ s.toCheck n = e :: l ∧ row = (if e = (s.dc
      n).confEpoch then (s.dc n).confRow else 0) ∧ row + 1 < (s.cfgAt n e).drows ∧ (e < (s.ch n).depE ∨ (e = (s.ch
      n).depE ∧ row < (s.ch n).depRow)) ∧ d ≠ s.rowCheck n e row ∧ s.bb.queue.length < 64) ∧
    (∃ (s : State) (n row e : Nat) (l : List Nat) (ok : Bool), n < 128 ∧ s.toCheck n = e :: l ∧ row = (if e = (s.dc
      n).confEpoch then (s.dc n).confRow else 0) ∧ row + 1 < (s.cfgAt n e).drows ∧ (e < (s.ch n).depE ∨ (e = (s.ch
      n).depE ∧ row < (s.ch n).depRow))) :=
  ⟨⟨dd (path 1) {}, 127, 1, 96, 65535, dg, [1,2], by decide +kernel⟩,
  ⟨dd [(chI 127 0x71,1,1)] {next := some 65534, ahead := [(65535,(5,[9]))]}, 127, 65534, 5, [9], by decide +kernel⟩,
  ⟨dd [(chI 127 0x71,1,1),(chI 127 0x70,3,5)] {}, 127, au, by decide +kernel⟩,
  ⟨{dd [(chI 127 0x71,1,1),(chI 127 0x70,3,5)] {assist := [(49151, au)], started := true} with mews := {stalls := [(49151, das)], pavs := [(9,{busy := some 49151})]}},
    49151, das, by decide +kernel⟩,
  ⟨cf, 127, 0, 0, 2, [1], true, by decide +kernel⟩,
  ⟨cf, 127, 0, 0, [1], true, by decide +kernel⟩⟩

theorem witness_NetPortsComplete :
    (∃ (s : State) (k : Nat) (up : Bool), k < 4 ∧ s.flag (0x1A00 + k) 10 ≠ up) ∧
    (∃ (s : State) (k : Nat), k < 4 ∧ s.linkUp k = true ∧ s.hopsNeeded k ≠ []) ∧
    (∃ (s : State) (k : Nat) (a : ArpPacket), k < 4 ∧ s.linkUp k = true ∧ a.op = 2 ∧ (s.port k).asked.contains
      a.senderIp = true) ∧
    (∃ (s : State) (k : Nat) (a : ArpPacket), k < 4 ∧ s.linkUp k = true ∧ a.op = 1 ∧ a.targetIp = portIp s.od k ∧
      a.targetIp ≠ 0) ∧
    (∃ (s : State) (k g : Nat) (l : List Nat), k < 4 ∧ s.linkUp k = true ∧ l = (s.joined k).filter (fun x => g == 0
      || g == x) ∧ l ≠ []) ∧
    (∃ (s : State) (k : Nat) (e : EchoPacket), k < 4 ∧ s.linkUp k = true ∧ e.targetIp = portIp s.od k ∧ e.targetIp ≠
      0) :=
  ⟨⟨up, 3, true, by decide +kernel⟩,
  ⟨nt fl3, 3, by decide +kernel⟩,
  ⟨nt fl3 {asked := [0xC0A80009]}, 3, ⟨2,0xAABBCC,0xC0A80009,0xC0A80005⟩, by decide +kernel⟩,
  ⟨nt fl3, 3, ⟨1,0xAABBCC,0xC0A80009,0xC0A80005⟩, by decide +kernel⟩,
  ⟨ig, 3, 0, (((ig.joined 3).eraseDups).filter (fun x => (0:Nat) == 0 || x == 0)), by decide +kernel⟩,
  ⟨ig, 3, ⟨1,2,0xC0A80005,5,6,[7,8]⟩, by decide +kernel⟩⟩

theorem witness_PtpComplete :
    (∃ (s : State) (k : Nat) (m : AnnounceMsg), k < 4 ∧ s.ptpOn k = true ∧ m.domain = s.nat 0x1501 2 ∧ s.cluster.role
      ≠ 2 ∧ (s.pp k).master = none ∧ (s.pp k).others = [] ∧ s.fresh ⟨m, s.now, s.now⟩ = true) ∧
    (∃ (s : State) (k : Nat) (m : SyncMsg) (x : PtpMaster), k < 4 ∧ s.ptpOn k = true ∧ m.domain = s.nat 0x1501 2 ∧
      (s.pp k).master = some x ∧ x.ann.source = m.source ∧ m.follow = false ∧ m.twoStep = false ∧ s.ptp.parent ≠ some
      k) ∧
    (∃ (s : State) (k : Nat) (m : SyncMsg) (x : PtpMaster), k < 4 ∧ s.ptpOn k = true ∧ m.domain = s.nat 0x1501 2 ∧
      (s.pp k).master = some x ∧ x.ann.source = m.source ∧ m.follow = false ∧ m.twoStep = false ∧ s.ptp.parent = some
      k ∧ s.ptpSteers = true) ∧
    (∃ (s : State) (k : Nat) (m : SyncMsg) (x : PtpMaster), k < 4 ∧ s.ptpOn k = true ∧ m.domain = s.nat 0x1501 2 ∧
      (s.pp k).master = some x ∧ x.ann.source = m.source ∧ m.follow = false ∧ m.twoStep = true) ∧
    (∃ (s : State) (k t2 : Nat) (m : SyncMsg) (x : PtpMaster), k < 4 ∧ s.ptpOn k = true ∧ m.domain = s.nat 0x1501 2 ∧
      (s.pp k).master = some x ∧ x.ann.source = m.source ∧ m.follow = true ∧ (s.pp k).pending = some (m.seq, t2) ∧
      s.ptp.parent ≠ some k) ∧
    (∃ (s : State) (k t1 t2 t3 : Nat) (m : DelayRespMsg) (x : PtpMaster), k < 4 ∧ s.ptpOn k = true ∧ m.domain = s.nat
      0x1501 2 ∧ s.ptp.parent = some k ∧ (s.pp k).master = some x ∧ x.ann.source = m.source ∧ (s.pp k).delay = some
      (m.seq, t3) ∧ (s.pp k).sync = some (t2, t1)) ∧
    (∃ (s : State) (k : Nat) (m : DelayReqMsg), k < 4 ∧ s.ptpOn k = true ∧ (s.pp k).state = 6 ∧ m.domain = s.nat
      0x1501 2) ∧
    (∃ (s : State) (k egress : Nat), k < 4 ∧ s.ptpOn k = true ∧ (s.pp k).state = 6 ∧ (s.pp k).sentAt.1 + logNs (s.num
      0x1501 7) ≤ s.now) ∧
    (∃ (s : State) (k egress : Nat), k < 4 ∧ s.ptpOn k = true ∧ (s.pp k).state = 6 ∧ (s.pp k).sentAt.2.1 + logNs
      (s.num 0x1501 8) ≤ s.now) ∧
    (∃ (s : State) (k egress : Nat), k < 4 ∧ s.ptpOn k = true ∧ (s.pp k).state = 9 ∧ (s.pp k).sentAt.2.2 + logNs
      (s.num 0x1501 9) ≤ s.now) ∧
    (∃ (s : State) (k : Nat) (x : PtpMaster), s.ptp.parent = some k ∧ (s.pp k).master = some x ∧ (s.pp k).others = []
      ∧ x.annAt + s.nat 0x1501 0x0A * logNs x.ann.interval ≤ s.now) :=
  ⟨⟨pt 3, 3, an, by decide +kernel⟩,
  ⟨pt 3 {master := some mx}, 3, sy false, mx, by decide +kernel⟩,
  ⟨{pt 3 {master := some mx, state := 9, delay := none} (some 3) with tb := {(pt 3).tb with exchanges := 8, good := 15}},
    3, sy false, mx, by decide +kernel⟩,
  ⟨pt 3 {master := some mx, state := 8} (some 3), 3, sy true, mx, by decide +kernel⟩,
  ⟨pt 3 {master := some mx, state := 8, pending := some (5, 3000)}, 3, 3000, {sy false with follow := true}, mx,
    by decide +kernel⟩,
  ⟨pt 3 {master := some mx, state := 8, delay := some (5, 4000), sync := some (3000,1000)} (some 3), 3, 1000, 3000,
    4000, ⟨77, (pt 3).nat 0x1501 2, 5, 4500⟩, mx, by decide +kernel⟩,
  ⟨pt 3 {state := 6}, 3, ⟨77, true, (pt 3).nat 0x1501 2, 5, 4500⟩, by decide +kernel⟩,
  ⟨pt 3 {state := 6}, 3, 5000000100, by decide +kernel⟩,
  ⟨pt 3 {state := 6}, 3, 5000000100, by decide +kernel⟩,
  ⟨pt 3 {state := 9}, 3, 5000000100, by decide +kernel⟩,
  ⟨pt 3 {state := 9, master := some mx} (some 3), 3, mx, by decide +kernel⟩⟩

theorem witness_TimebaseEventsComplete :
    (∃ (s : State) (o : Int), s.tb.slew = some o ∧ (s.slewLeft o).natAbs < 100) ∧
    (∃ (s : State), s.tbState = 3 ∧ s.tb.holdoverAt + s.nat 0x1500 0x0C * 1000000000 ≤ s.now ∧ s.tb.overLimit = false
      ∧ s.tb.everLocked = true) ∧
    (∃ (s : State) (edge sec : Nat), s.nat 0x1500 6 = 1 ∧ s.clk.bypass = false ∧ s.cluster.role ≠ 2 ∧ s.tb.ppsSeconds
      = some sec) ∧
    (∃ (s : State) (k time : Nat) (falling : Bool), k < 8 ∧ bit (s.nat 0x1510 (k + 1)) 15 = true ∧ s.nat 0x1510 (k +
      1) / 8192 % 4 = 2 ∧ (tgetD s.cap k {}).edge = none ∧ (tgetD s.cap k {}).fifo.length < 64) ∧
    (∃ (s : State) (k time : Nat) (falling : Bool), k < 8 ∧ bit (s.nat 0x1510 (k + 1)) 15 = true ∧ s.nat 0x1510 (k +
      1) / 8192 % 4 = 2 ∧ (tgetD s.cap k {}).edge = none ∧ 64 ≤ (tgetD s.cap k {}).fifo.length) :=
  ⟨⟨slw 99, 99, by decide +kernel⟩,
  ⟨ho, by decide +kernel⟩,
  ⟨{at_ 5000000000 up with od := ods [(0x1500,6,1)], clk := {bypass := false}, tb := {(at_ 5000000000 up).tb with ppsSeconds := some 4}},
    5000000000, 4, by decide +kernel⟩,
  ⟨ci 63 true, 7, 5000, true, by decide +kernel⟩,
  ⟨ci 64 false, 7, 5000, false, by decide +kernel⟩⟩

end Links

namespace Audio

/-- A serial audio port in a mode. -/
def ap (k mode out : Nat) (p : AudioPort) (m : Mode := .encode) (xs : List (Nat × Nat × Int) := []) : State :=
    {at_ 1000000000 up with mode := m, od := ods (([(0x1B00+k,3, (mode:Int)), (0x1B00+k,2, (out:Int)), (0x1B00+k,4,2)] : List (Nat × Nat × Int)) ++ xs), audio := {ports := [(k,p)], start := [(2, 500000000)]}}
/-- The index of a frame at the reading point. -/
def fi : Nat := ((ap 15 1 0 {}).frameIndex 15 500000000 999995000).getD 0
/-- The length of a fade. -/
def fl_ : Nat := fadeLen (apFs (ap 15 0 0 {}).od 15)
/-- A fade line, full. -/
def ln : List FadeSample := List.replicate (fl_ + 4) ⟨[100,200],32768,1⟩
/-- An audio output of a codec. -/
def ao (c : Nat) (xs : List (Nat × Nat × Int) := []) : State := ap 15 1 0 {} .encode (([(0x1B40+31,1,1), (0x1B40+31,2,
    15), (0x1B40+31,4,2), (0x1B40+31,5, (c:Int))] : List (Nat × Nat × Int)) ++ xs)
/-- The bytes of an SMPTE ST 302M access unit. -/
def sz : Nat := (codecAu 0).1 * aoRate (ao 0).od 31 / (8 * 48000) + 4
/-- An audio flow that is due. -/
def ff (m : Mode) : State := let s := ao 0 ([(flI 1023 0,1,1), (flI 1023 0,4,3), (flI 1023 0,3,0x20+31)]); {s with
    mode := m, flow := [(1023, {running := true, audioFrom := 500000000})]}

theorem witness_AudioPortsComplete :
    (∃ (s : State) (k g n time : Nat) (l : List Int), k < 16 ∧ s.armedAudio = [] ∧ s.portStart k = some g ∧ apOut
      s.od k = false ∧ apMode s.od k = 1 ∧ s.capturing = true ∧ s.frameIndex k g time = some n ∧ (s.ap k).read ≤ n ∧
      tget (s.ap k).frames n = none) ∧
    (∃ (s : State) (k g time : Nat) (l : List Int) (good : Bool), (good = false ∨ s.frameIndex k g time = none ∨ ∃ n,
      s.frameIndex k g time = some n ∧ (n < (s.ap k).read ∨ ∃ v, tget (s.ap k).frames n = some v)) ∧ k < 16 ∧
      s.armedAudio = [] ∧ s.portStart k = some g ∧ apOut s.od k = false ∧ apMode s.od k = 1 ∧ s.capturing = true) ∧
    (∃ (s : State) (k g time : Nat) (l : List Int), k < 16 ∧ s.armedAudio = [] ∧ s.portStart k = some g ∧ apOut s.od
      k = false ∧ apMode s.od k = 2 ∧ s.capturing = true ∧ (Frac.ofInt time).lt ((Frac.ofInt g).sub (apDelay s.od k))
      = false ∧ (s.ap k).fifo.length < 32) ∧
    (∃ (s : State) (k g time : Nat) (l : List Int), k < 16 ∧ s.armedAudio = [] ∧ s.portStart k = some g ∧ apOut s.od
      k = false ∧ apMode s.od k = 2 ∧ s.capturing = true ∧ (Frac.ofInt time).lt ((Frac.ofInt g).sub (apDelay s.od k))
      = false ∧ 32 ≤ (s.ap k).fifo.length) ∧
    (∃ (s : State) (k g : Nat) (l : List Int), k < 16 ∧ s.armedAudio = [] ∧ s.portStart k = some g ∧ apOut s.od k =
      false ∧ apMode s.od k = 0 ∧ s.capturing = true ∧ (Frac.ofInt s.now).lt (s.frameAt k g (s.ap k).frame) = false)
      ∧
    (∃ (s : State) (k g : Nat) (v : List Int) (y : FadeSample) (rest : List FadeSample), k < 16 ∧ s.armedAudio = [] ∧
      s.portStart k = some g ∧ apOut s.od k = false ∧ apMode s.od k ≠ 2 ∧ s.readDue k g (s.ap k).read = true ∧
      s.capturing = true ∧ (s.ap k).muted = false ∧ (s.ap k).silent = false ∧ (s.ap k).ramp = none ∧ tget (s.ap
      k).frames (s.ap k).read = some v ∧ (s.ap k).line = y :: rest ∧ rest.length = fadeLen (apFs s.od k) + 3) ∧
    (∃ (s : State) (k g : Nat), k < 16 ∧ s.armedAudio = [] ∧ s.portStart k = some g ∧ apOut s.od k = false ∧ apMode
      s.od k ≠ 2 ∧ s.readDue k g (s.ap k).read = true ∧ s.capturing = true ∧ (s.ap k).muted = false ∧ (s.ap k).silent
      = false ∧ tget (s.ap k).frames (s.ap k).read = none) ∧
    (∃ (s : State) (k g : Nat) (v : List Int) (rest : List (List Int)), k < 16 ∧ s.armedAudio = [] ∧ s.portStart k =
      some g ∧ apOut s.od k = false ∧ apMode s.od k = 2 ∧ s.readDue k g (s.ap k).read = true ∧ s.capturing = true ∧
      (s.ap k).muted = false ∧ (s.ap k).centring = false ∧ (s.ap k).fifo = v :: rest) ∧
    (∃ (s : State) (k : Nat), k < 16 ∧ apMode s.od k = 1 ∧ (s.ap k).silent = true ∧ 64 ≤ (s.ap k).good) ∧
    (∃ (s : State) (k : Nat), k < 16 ∧ apMode s.od k = 2 ∧ (s.ap k).silent = true ∧ 16 ≤ (s.ap k).fifo.length) ∧
    (∃ (s : State) (k r : Nat), k < 16 ∧ (s.ap k).ramp = some r ∧ (s.ap k).ramped = true) ∧
    (∃ (s : State) (k g : Nat), k < 16 ∧ s.armedAudio = [] ∧ s.portStart k = some g ∧ apMode s.od k = 2) ∧
    (∃ (s : State) (k g edge : Nat), k < 16 ∧ s.armedAudio = [] ∧ s.testPort ≠ some k ∧ s.mode.audio = 2 ∧
      s.portStart k = some g ∧ apOut s.od k = true ∧ apMode s.od k = 0 ∧ (Frac.ofInt s.now).lt (s.frameAt k g (s.ap
      k).frame) = false) ∧
    (∃ (s : State) (k g edge n : Nat), k < 16 ∧ s.armedAudio = [] ∧ s.testPort ≠ some k ∧ s.mode.audio = 2 ∧
      s.portStart k = some g ∧ apOut s.od k = true ∧ apMode s.od k = 1 ∧ s.frameIndex k g edge = some n) ∧
    (∃ (s : State) (k g edge : Nat), k < 16 ∧ s.armedAudio = [] ∧ s.testPort ≠ some k ∧ s.mode.audio = 2 ∧
      s.portStart k = some g ∧ apOut s.od k = true ∧ apMode s.od k = 1 ∧ s.frameIndex k g edge = none) :=
  ⟨⟨ap 15 1 0 {read := fi}, 15, 500000000, fi, 999995000, [1,-2,3,4,5,6,7,8], by decide +kernel⟩,
  ⟨ap 15 1 0 {}, 15, 500000000, 999995000, [1,2], false, .inl rfl, by decide +kernel⟩,
  ⟨ap 15 2 0 {fifo := List.replicate 31 [1]}, 15, 500000000, 999999000, [1,2], by decide +kernel⟩,
  ⟨ap 15 2 0 {fifo := List.replicate 32 [1]}, 15, 500000000, 999999000, [1,2], by decide +kernel⟩,
  ⟨ap 15 0 0 {}, 15, 500000000, [1,2], by decide +kernel⟩,
  ⟨ap 15 0 0 {frame := 20001, read := 20000, frames := [(20000,[4,5])], line := ln}, 15, 500000000, [4,5],
    ⟨[100,200],32768,1⟩, ln.tail, by decide +kernel⟩,
  ⟨ap 15 1 0 {frame := 20001, read := 20000, last := [4]}, 15, 500000000, by decide +kernel⟩,
  ⟨ap 15 2 0 {read := 20000, centring := false, fifo := [[4],[5]]}, 15, 500000000, [4], [[5]], by decide +kernel⟩,
  ⟨ap 15 1 0 {silent := true, frame := 20001, read := 20000, good := 64}, 15, by decide +kernel⟩,
  ⟨ap 15 2 0 {silent := true, read := 20000, fifo := List.replicate 17 [1]}, 15, by decide +kernel⟩,
  ⟨ap 15 1 0 {ramp := some 6, ramped := true}, 15, 6, by decide +kernel⟩,
  ⟨ap 15 2 0 {edges := [1000000000, 999979000, 999958000], fifo := List.replicate 31 [1], centring := false}, 15,
    500000000, by decide +kernel⟩,
  ⟨ap 15 0 1 {frame := 0}, 15, 500000000, 999999000, by decide +kernel⟩,
  ⟨ap 15 1 1 {}, 15, 500000000, 999995000, fi, by decide +kernel⟩,
  ⟨ap 15 1 1 {}, 15, 500000000, 1000005500, by decide +kernel⟩⟩

theorem witness_AudioOutputsComplete :
    (∃ (s : State) (o g : Nat) (data : List Byte), o < 32 ∧ tget s.audio.start (apGroup s.od (s.nat (0x1B40 + o) 2))
      = some g ∧ s.flag (0x1B40 + o) 1 = true ∧ s.nat (0x1B40 + o) 4 ≠ 0 ∧ (s.ao o).ending = none ∧ (Frac.ofInt
      s.now).lt (aoEnd s.od o g (s.ao o).next) = false ∧ (s.nat (0x1B40 + o) 5 = 0 → data.length = (codecAu 0).1 *
      aoRate s.od o / (8 * max 1 (apFs s.od (s.nat (0x1B40 + o) 2))) + 4) ∧ (s.nat (0x1B40 + o) 5 ≠ 0 → 8 *
      data.length ≤ aoMax s.od o ∧ 8 * data.length + ((s.ao o).recent.take 7).sum ≤ aoEight s.od o)) ∧
    (∃ (s : State) (f o port g fs np : Nat), f < 1024 ∧ s.mode = .encode ∧ s.pair.state = 0 ∧ s.flag (flI f 0) 1 =
      true ∧ s.nat (flI f 0) 4 = 3 ∧ s.nat (flI f 0) 3 = 0x20 + o ∧ s.flag (0x1B40 + o) 1 = true ∧ port = s.nat
      (0x1B40 + o) 2 ∧ tget s.audio.start (apGroup s.od port) = some g ∧ fs = apFs s.od port ∧ np = packetSamples fs
      (s.nat (flI f 1) 5) ∧ np ≠ 0 ∧ (s.fl f).running = true ∧ (s.fl f).audioFrom = g ∧ (Frac.ofInt s.now).lt
      ((Frac.ofInt g).add (samples ((s.fl f).audioSent + 2 * np) fs)) = false) ∧
    (∃ (s : State) (f o port g fs np : Nat), f < 1024 ∧ s.mode = .service ∧ s.flag (flI f 0) 1 = true ∧ s.nat (flI f
      0) 4 = 3 ∧ s.nat (flI f 0) 3 = 0x20 + o ∧ s.flag (0x1B40 + o) 1 = true ∧ port = s.nat (0x1B40 + o) 2 ∧ tget
      s.audio.start (apGroup s.od port) = some g ∧ fs = apFs s.od port ∧ np = packetSamples fs (s.nat (flI f 1) 5) ∧
      np ≠ 0 ∧ (s.fl f).running = true ∧ (s.fl f).audioFrom = g ∧ (Frac.ofInt s.now).lt ((Frac.ofInt g).add (samples
      ((s.fl f).audioSent + 2 * np) fs)) = false) :=
  ⟨⟨ao 0, 31, 500000000, List.replicate sz 7, by decide +kernel⟩,
  ⟨ff .encode, 1023, 31, 15, 500000000, 48000, 48, by decide +kernel⟩,
  ⟨ff .service, 1023, 31, 15, 500000000, 48000, 48, by decide +kernel⟩⟩

end Audio

namespace Carriageway

/-- A Carriageway port. -/
def cw (p : Nat) (c : CwPort) (xs : List (Nat × Nat × Int) := []) : State := {at_ 1000000 up with
    cw := [(p,c)], od := ods ((([(0x1950+p,1,2), (0x1900,12,2), (0x1902,p+1,11)] : List (Nat × Nat × Int))) ++ xs), lane := (List.range 4).map (fun k => (44+k, {rx := 2, tx := 2}))}
/-- A frame without its CRC. -/
def fr0 (seq : Nat) : CwFrame := ⟨seq,3,0,1,false,1,0,0,[1,2,3],0,none,false⟩
/-- A frame. -/
def fr (seq : Nat) : CwFrame := {fr0 seq with crc := frameCrc (fr0 seq)}
/-- Allotments. -/
def al : Tab Nat := [(0,5),(1,5),(2,5),(3,65535)]

theorem witness_CarriagewayCompletes :
    (∃ (s : State) (p : Nat) (f : CwFrame), p < 4 ∧ s.cwUp p = true ∧ f.aborted = false ∧ frameGood f = true ∧ f.seq
      % 4096 = (s.cwAt p).expect ∧ f.vc < 4 ∧ frameUnits f ≤ tgetD (s.cwAt p).allot f.vc 0 ∧ f.dst = s.node ∧ f.dom =
      false) ∧
    (∃ (s : State) (p : Nat) (f : CwFrame), p < 4 ∧ s.cwUp p = true ∧ f.aborted = false ∧ frameGood f = true ∧ f.seq
      % 4096 ≠ (s.cwAt p).expect ∧ ((s.cwAt p).expect + 4096 - f.seq % 4096) % 4096 ≤ 64) ∧
    (∃ (s : State) (p : Nat) (f : CwFrame), p < 4 ∧ s.cwUp p = true ∧ f.aborted = false ∧ frameGood f = false ∧
      f.violated = none ∧ (s.cwAt p).gap = false) ∧
    (∃ (s : State) (p : Nat) (f : CwFrame) (a rest : List CwFrame), p < 4 ∧ s.cwUp p = true ∧ (s.cwAt p).replay = a
      ++ f :: rest ∧ (∀ g ∈ a, g.seq ≠ f.seq) ∧ (s.cwAt p).waiting = []) ∧
    (∃ (s : State) (p seq : Nat), p < 4 ∧ s.cwUp p = true ∧ (s.cwAt p).replay ≠ [] ∧ (∀ f ∈ (s.cwAt p).replay, f.seq
      ≠ seq) ∧ (s.cwAt p).envelope = none) ∧
    (∃ (s : State) (p : Nat) (f : CwFrame) (a rest : List CwFrame), p < 4 ∧ s.cwUp p = true ∧ (s.cwAt p).replay = a
      ++ f :: rest ∧ (∀ g ∈ a, g.seq ≠ f.seq) ∧ rest ≠ []) ∧
    (∃ (s : State) (p vc total : Nat), p < 4 ∧ vc < 4 ∧ s.cwUp p = true ∧ (s.cwAt p).waiting = []) ∧
    (∃ (s : State) (p : Nat), p < 4 ∧ s.cwUp p = true ∧ (s.cwAt p).replay ≠ [] ∧ (s.cwAt p).ackAt + 400 ≤ s.now ∧
      (s.cwAt p).envelope = none) ∧
    (∃ (s : State) (p e : Nat), p < 4 ∧ s.cwUp p = true ∧ (s.cwAt p).replay ≠ [] ∧ (s.cwAt p).envelope = some e ∧ 4 ≤
      (s.cwAt p).retries) ∧
    (∃ (s : State) (p : Nat), p < 4 ∧ s.nat (0x1950 + p) 1 = 1 ∧ s.portLanes p ≠ [] ∧ (∀ k ∈ s.portLanes p, (s.laneAt
      k).rx = 2 ∧ (s.laneAt k).tx = 2) ∧ (∀ v, v < 4 → (tget (s.cwAt p).advertised v).isSome = true) ∧ (s.cwAt
      p).waiting = [] ∧ s.pairPort ≠ some p) ∧
    (∃ (s : State) (p : Nat), p < 4 ∧ s.nat (0x1950 + p) 1 = 1 ∧ s.portLanes p ≠ [] ∧ (∀ k ∈ s.portLanes p, (s.laneAt
      k).rx = 2 ∧ (s.laneAt k).tx = 2) ∧ (∀ v, v < 4 → (tget (s.cwAt p).advertised v).isSome = true) ∧ (s.cwAt
      p).waiting = [] ∧ s.pairPort = some p) ∧
    (∃ (s : State) (p node role : Nat), p < 4 ∧ node < 16 ∧ s.cwUp p = true ∧ s.cluster.role = 2 ∧ s.cluster.joined =
      false) ∧
    (∃ (s : State) (p node role far : Nat), p < 4 ∧ node < 16 ∧ s.cwUp p = true ∧ s.cluster.role = 1 ∧ s.node = 0 ∧
      s.pairPort ≠ some p) :=
  ⟨⟨cw 3 {expect := 4095, allot := al}, 3, fr 4095, by decide +kernel⟩,
  ⟨cw 3 {expect := 0, allot := al}, 3, fr 4095, by decide +kernel⟩,
  ⟨cw 3 {expect := 0}, 3, {fr 0 with crc := 5}, by decide +kernel⟩,
  ⟨cw 3 {replay := [fr 9]}, 3, fr 9, [], [], by decide +kernel⟩,
  ⟨cw 3 {replay := [fr 9, fr 10]}, 3, 8, by decide +kernel⟩,
  ⟨cw 3 {replay := [fr 9, fr 10]}, 3, fr 9, [], [fr 10], by decide +kernel⟩,
  ⟨cw 3 {advertised := [(3,65530)]}, 3, 3, 4, by decide +kernel⟩,
  ⟨cw 3 {replay := [fr 9, fr 10]}, 3, by decide +kernel⟩,
  ⟨cw 3 {replay := [fr 9, fr 10], envelope := some 999999, retries := 4}, 3, 999999, by decide +kernel⟩,
  ⟨cw 3 {advertised := [(0,5),(1,5),(2,5),(3,5)]} [(0x1953,1,1)], 3, by decide +kernel⟩,
  ⟨cw 3 {advertised := [(0,5),(1,5),(2,5),(3,5)]} [(0x1953,1,1),(0x1400,1,1),(0x1400,2,3)], 3, by decide +kernel⟩,
  ⟨{cw 3 {} [(0x1300,1,4)] with cluster := {role := 2, strap := 4}}, 3, 0, 1, by decide +kernel⟩,
  ⟨{cw 3 {} with cluster := {role := 1}}, 3, 15, 2, 2, by decide +kernel⟩⟩

end Carriageway

namespace Cluster

/-- A record of the topology. -/
def rc (p d : Nat) : List Byte := leBytes 1 p ++ leBytes 1 d ++ [255,255,255,255,255,0]
/-- A record of a node that is absent. -/
def ab : List Byte := List.replicate 8 255
/-- A topology of three nodes. -/
def topo_ : List Byte := rc 255 0 ++ ab ++ ab ++ rc 0 1 ++ ab ++ rc 3 2 ++ (List.replicate 10 ab).flatten
/-- A node of a cluster in a role. -/
def cl (role node : Nat) (c : Cluster) (xs : List (Nat × Nat × Int) := []) : State := {at_ 2000000000 up with
    cluster := {c with role := role, strap := node}, od := odPut (ods ((([(0x1300,1, (node:Int)), (0x1300,2,
    41)] : List (Nat × Nat × Int))) ++ xs)) 0x1302 0 (.oct topo_)}
/-- A JOIN of a node. -/
def jm (k : Nat) : JoinMsg := ⟨k,0,1,0,1,true,true,true,true,List.replicate 32 0,true⟩
/-- A worker that acquires time. -/
def tsn (n : Nat) : State := {cl 2 3 {delayTx := some 50, delay := 4, sync := (10,30)} with
    clk := {bypass := false}, tb := {(cl 2 3 {}).tb with wasLocked := n = 1, good := n, exchanges := 9}}
/-- A manager with a member in another mode. -/
def dif : State := {cl 1 0 {nodes := [(15,{state := 2, differs := some 0})]} [(chI 9 5,5,1), (chI 9 1,5,1)] with
    chan := [(9,{running := true, rateNum := 50, rateDen := 1})]}
/-- A manager with two members, with or without a route. -/
def rt (b : Nat) (c : Bool) : State := {cl 1 0 {nodes := [(3,{state := 2, beat := b}), (5,{state := 2})]} [(0x1953,1,
    2)] with cw := if c then [(3,{far := some (3,2)})] else []}
/-- A worker locked to its manager. -/
def lk : State := {cl 2 3 {delay := 4} [(0x1500,9,2)] with clk := {bypass := false}, tb := {(cl 2 3 {}).tb with
    exchanges := 9, good := 16, wasLocked := true}}
/-- A target at a PTP time. -/
def tg : Target := ⟨2, 255, 2100000000⟩
/-- A write that a set carries. -/
def we : WriteEnt := ⟨⟨0x1200,1⟩,4,.num 2000⟩
/-- The machine with a set that a manager prepares. -/
def wk (s : State) (k : Nat) (l : List WriteEnt) : State :=
    s.setSet k { state := 1, orphan := true, writes := preparedWrites l, coordinator := some 0, members := [] }
/-- A worker of a cluster. -/
def w3 : State := cl 2 3 {joined := true, nodes := [(0,{state:=2}),(3,{state := 2})]}
/-- A write of a channel's object. -/
def lv : List WriteEnt := [⟨⟨0x4101,2⟩,1,.num 1⟩]
/-- A unit of a pair. -/
def pr : State := {at_ 2000000000 up with pair := {live := true, link := true, state := 1}, od := ods [(0x1400,1,1)]}
/-- The machine with a set that its peer prepares. -/
def wp (s : State) (k : Nat) (l : List WriteEnt) : State :=
    s.setSet k { state := 1, orphan := true, writes := preparedWrites l, coordinator := some 0x10, members := [] }
/-- A node that holds a set. -/
def st (x : StageSet) (k : Nat) (role : Nat := 1): State := {cl role (if role = 1 then 0 else 3) {nodes := [(3,
    {state := 2})]} with sets := [(k,x)]}
/-- An armed set that waits for the pair's other half. -/
def arm : StageSet := {state := 2, due := 2000050000, members := [(16,.asked)]}
/-- A snapshot that waits for two nodes. -/
def sn : Snap := {ask := ⟨1,7,0xFF,0x18,2,.timeAnchor,{},0⟩, objs := [⟨0x1300,1⟩,⟨0x1200,3⟩], at_ := 1000, missing := [3,5]}
/-- A manager with one snapshot waiting. -/
def snp (x : Snap) : State := let s := cl 1 0 {}; {s with ctl := {s.ctl with snaps := [(9,x)]}}
/-- A snapshot that waits for one node. -/
def sn1 : Snap := {sn with missing := [3], seq := some 4, ask := {sn.ask with session := 0}}
/-- A node of a span group. -/
def spn (n node : Nat) (xs : List (Nat × Nat × Int) := []) (w : Nat := 7680): State :=
    {cl 2 node {} ((([(0x1310,2,0b101000), (0x1318,n+1,0x41), (chI n 0,1, (w:Int)), (chI n 0,2,64), (chI n 1,5,1), (chI n 2,1, (w:Int)), (chI n 0x40,5,4), (chI n 2,2,64)] : List (Nat × Nat × Int))) ++ xs) with chan := [(n,{running := true, kinds := [(0,1)], stamps := [(0,5)]})], mode := .encode}

theorem witness_JoiningCompletes :
    (∃ (s : State) (j : JoinMsg), s.cluster.role = 1 ∧ s.joinRefusal j = none ∧ s.node < 16) ∧
    (∃ (s : State) (j : JoinMsg) (r : Nat), s.cluster.role = 1 ∧ s.joinRefusal j = some r ∧ j.node < 16 ∧ j.node ≠ 0
      ∧ (s.nd j.node).state ≠ 2) ∧
    (∃ (s : State), s.cluster.role = 2 ∧ s.cluster.joined = false ∧ s.node ≠ 0 ∧ s.cluster.joinAt + 1000000000 ≤
      s.now) ∧
    (∃ (s : State) (digest : List Byte), s.cluster.role = 2 ∧ s.node ≠ 0 ∧ s.node < 16) ∧
    (∃ (s : State) (r : Nat), s.cluster.role = 2 ∧ s.cluster.joined = false ∧ r < 16) ∧
    (∃ (s : State) (b : List Byte), s.cluster.role = 2 ∧ b.length = 128 ∧ topoOk b = true) ∧
    (∃ (s : State) (b : List Byte), topoOk b = false) :=
  ⟨⟨cl 1 0 {}, jm 15, by decide +kernel⟩,
  ⟨cl 1 0 {}, {jm 15 with locked := false}, 6, by decide +kernel⟩,
  ⟨cl 2 5 {}, by decide +kernel⟩,
  ⟨cl 2 5 {nodes := []}, List.replicate 32 0, by decide +kernel⟩,
  ⟨cl 2 5 {nodes := []}, 15, by decide +kernel⟩,
  ⟨cl 2 5 {nodes := []}, topo_, by decide +kernel⟩,
  ⟨cl 2 5 {nodes := []}, List.replicate 128 3, by decide +kernel⟩⟩

theorem witness_ClusterTimeCompletes :
    (∃ (s : State), s.cluster.role = 2 ∧ s.cluster.joined = true ∧ s.cluster.beatAt + 100000 ≤ s.now) ∧
    (∃ (s : State), s.cluster.role = 1 ∧ s.cluster.beatAt + 100000 ≤ s.now) ∧
    (∃ (s : State) (k m : Nat) (o : Int), k < 16 ∧ m < 16 ∧ (s.nd k).state = 2) ∧
    (∃ (s : State) (k m d : Nat) (o : Int), k < 16 ∧ m < 16 ∧ (s.nd k).state = 2 ∧ s.cluster.role = 1 ∧ k ≠ s.node ∧
      m ≠ s.mode.code ∧ (s.nd k).differs = some d ∧ s.slowestFrame ≠ 0 ∧ d + s.slowestFrame < s.now) ∧
    (∃ (s : State) (k : Nat), k < 16 ∧ k ≠ s.node ∧ s.cluster.role = 1 ∧ (s.nd k).state = 2 ∧ (s.nd k).beat + 300000
      ≤ s.now ∧ (s.route k).isSome = true) ∧
    (∃ (s : State) (k m : Nat), k < 16 ∧ k ≠ s.node ∧ s.cluster.role = 1 ∧ (s.nd k).state = 2 ∧ s.route k = none ∧ m
      ∈ s.subtree k ∧ m ∈ s.members) ∧
    (∃ (s : State), s.cluster.role = 2 ∧ s.node ≠ 0 ∧ (s.nd 0).state = 2 ∧ (s.nd 0).beat + 300000 ≤ s.now) ∧
    (∃ (s : State), s.cluster.role ≠ 0 ∧ s.cluster.syncAt + 1000000 ≤ s.now) ∧
    (∃ (s : State) (k : Nat), s.cluster.role = 2 ∧ s.cluster.delayAt + 1000000 ≤ s.now ∧ s.timeParent = k) ∧
    (∃ (s : State) (k sof rx : Nat), k < 16 ∧ (s.parentOf k = some s.node ∨ k ∈ s.newcomers)) ∧
    (∃ (s : State) (t3 rx : Nat), s.cluster.role = 2 ∧ s.cluster.delayTx = some t3) ∧
    (∃ (s : State) (sof rx : Nat), s.cluster.role = 2 ∧ s.clk.bypass = false) ∧
    (∃ (s : State) (sof rx : Nat), s.cluster.role = 2 ∧ s.clk.bypass = false ∧ s.tbState = 2 ∧ ((rx : Int) - sof -
      s.cluster.delay).natAbs ≤ 1000) :=
  ⟨⟨cl 2 5 {joined := true}, by decide +kernel⟩,
  ⟨cl 1 0 {nodes := [(3,{state := 2})]}, by decide +kernel⟩,
  ⟨cl 1 0 {nodes := [(15,{state := 2})]}, 15, 7, -3000, by decide +kernel⟩,
  ⟨dif, 15, 7, 0, -3000, by decide +kernel⟩,
  ⟨rt 0 true, 3, by decide +kernel⟩,
  ⟨rt 2000000000 false, 3, 5, by decide +kernel⟩,
  ⟨cl 2 5 {nodes := [(0,{state := 2})], joined := true}, by decide +kernel⟩,
  ⟨cl 2 3 {nodes := [(0,{state := 2})], joined := true}, by decide +kernel⟩,
  ⟨cl 2 5 {nodes := [(0,{state := 2})], joined := true}, 3, by decide +kernel⟩,
  ⟨cl 2 3 {nodes := [(0,{state := 2})], joined := true}, 5, 700, 900, by decide +kernel⟩,
  ⟨cl 2 3 {delayTx := some 50, sync := (10,30)}, 50, 60, by decide +kernel⟩,
  ⟨tsn 0, 1900000000, 1900000020, by decide +kernel⟩,
  ⟨lk, 1900000000, 1900000020, by decide +kernel⟩⟩

theorem witness_TwoPhaseCommitsComplete :
    (∃ (s : State) (k : Nat) (l : List WriteEnt) (g : Target) (z : State), 1 ≤ k ∧ k ≤ 8 ∧ s.cluster.role = 2 ∧
      (s.set k).state = 0 ∧ z = s.setSet k
      { state := 1, orphan := true, writes := preparedWrites l, coordinator := some 0, members := [] } ∧ (z.armSet k
      (z.preparedAim g) g.refch 3).1 = .ok) ∧
    (∃ (s : State) (k : Nat) (l : List WriteEnt) (g : Target) (z : State), 1 ≤ k ∧ k ≤ 8 ∧ s.coordinatedBy 0x10 =
      true ∧ (s.set (k + 8)).state = 0 ∧ s.workersOf (preparedWrites l) = [] ∧ z = s.setSet (k + 8)
      { state := 1, orphan := true, writes := preparedWrites l, coordinator := some 0x10, members := [] } ∧ (z.armSet
      (k + 8) (z.preparedAim g) g.refch 3).1 = .ok) ∧
    (∃ (s : State) (k : Nat) (l : List WriteEnt) (g : Target), 1 ≤ k ∧ k ≤ 8 ∧ s.cluster.role = 2 ∧ (s.set k).armed =
      true) ∧
    (∃ (s : State) (k m : Nat), 1 ≤ k ∧ k ≤ 48 ∧ m ≤ 16 ∧ (s.set k).armed = true ∧ tget (s.set k).members m = some
      MemberArm.asked) ∧
    (∃ (s : State) (k m : Nat), 1 ≤ k ∧ k ≤ 48 ∧ m ≤ 16 ∧ (s.set k).armed = true ∧ (s.set k).coordinator = none ∧
      (s.set k).members = [(m, MemberArm.asked)]) ∧
    (∃ (s : State) (k m code : Nat) (o : ObjRef), 1 ≤ k ∧ k ≤ 48 ∧ m ≤ 16 ∧ (s.set k).armed = true ∧ (s.set
      k).coordinator = none ∧ (tget (s.set k).members m).isSome = true) ∧
    (∃ (s : State) (k m : Nat), 1 ≤ k ∧ k ≤ 48 ∧ m ≤ 16 ∧ (s.set k).armed = true ∧ (s.set k).readyPassed = false ∧
      (s.set k).due ≤ s.now + 100000 ∧ (s.set k).coordinator = none ∧ (s.set k).members = [(m, MemberArm.armed)]) ∧
    (∃ (s : State) (k T : Nat), 1 ≤ k ∧ k ≤ 48 ∧ (s.set k).armed = true ∧ (s.set k).coordinator = some 0 ∧ (s.set
      k).decision = 0 ∧ s.now + 20000 ≤ (s.set k).due) ∧
    (∃ (s : State) (k m ref : Nat) (x : Snap) (entries : List (Nat × List Byte)) (epochs : List (Nat × Nat)), k < 16
      ∧ m ≠ k ∧ s.ctl.snaps = [(ref, x)] ∧ x.missing = [k, m]) ∧
    (∃ (s : State) (k ref q : Nat) (x : Snap) (entries : List (Nat × List Byte)) (epochs : List (Nat × Nat)), k < 16
      ∧ s.ctl.snaps = [(ref, x)] ∧ x.missing = [k] ∧ x.seq = some q ∧ x.ask.session = 0) ∧
    (∃ (s : State) (k ref : Nat) (x : Snap) (entries : List (Nat × List Byte)) (epochs : List (Nat × Nat)), k < 16 ∧
      s.ctl.snaps = [(ref, x)] ∧ x.missing.contains k = true) :=
  ⟨⟨w3, 1, lv, tg, wk w3 1 lv, by decide +kernel⟩,
  ⟨pr, 8, [we], tg, wp pr 16 [we], by decide +kernel⟩,
  ⟨{cl 2 3 {joined := true} with sets := [(8,{state := 2})]}, 8, [], tg, by decide +kernel⟩,
  ⟨st arm 8, 8, 16, by decide +kernel⟩,
  ⟨st arm 8, 8, 16, by decide +kernel⟩,
  ⟨st {arm with members := [(3,.asked)]} 8, 8, 3, 4, ⟨0x1200,1⟩, by decide +kernel⟩,
  ⟨st {arm with members := [(16,.armed)]} 8, 8, 16, by decide +kernel⟩,
  ⟨st {arm with coordinator := some 0, members := [], report := 1} 8 2, 8, 2000090000, by decide +kernel⟩,
  ⟨snp sn, 3, 5, 9, sn, [(0,[1])], [(1,2)], by decide +kernel⟩,
  ⟨snp sn1, 3, 9, 4, sn1, [(0,[1])], [(1,2)], by decide +kernel⟩,
  ⟨snp sn, 3, 9, sn, [(0,[1])], [(1,2)], by decide +kernel⟩⟩

theorem witness_SpansComplete :
    (∃ (s : State) (g k : Nat), g < 4 ∧ k < 16 ∧ k ≠ s.node ∧ (bits (s.nat 0x1310 (g + 1)) 16).contains k = true ∧
      (bits (s.nat 0x1310 (g + 1)) 16).contains s.node = true) ∧
    (∃ (s : State) (n k e r c v : Nat), n < 128 ∧ k < 16 ∧ s.peerMember n k = true ∧ r < (s.cfgAt n e).rows ∧ c <
      (s.cfgAt n e).tcols ∧ (c < (s.ownTilesAt n e).1 ∨ (s.ownTilesAt n e).2 ≤ c) ∧ (tget (s.ch n).kinds e).isSome =
      true) ∧
    (∃ (s : State) (n k e r : Nat) (data : List Byte) (fin : Bool), n < 128 ∧ k < 16 ∧ ((s.neighbours n).1 ++
      (s.neighbours n).2).contains k = true) ∧
    (∃ (s : State) (n k e r c : Nat) (data : List Byte), n < 128 ∧ k < 16 ∧ s.peerMember n k = true ∧ (s.spanGroup
      n).head? = some s.node ∧ r < (s.cfgAt n e).drows ∧ c < (s.cfgAt n e).unitsPerRow ∧ (c < (s.ownTilesAt n e).1 ∨
      (s.ownTilesAt n e).2 ≤ c)) :=
  ⟨⟨spn 127 5, 1, 3, by decide +kernel⟩,
  ⟨spn 127 5, 127, 3, 0, 0, 0, 77, by decide +kernel⟩,
  ⟨spn 127 5, 127, 3, 0, 0, [1], true, by decide +kernel⟩,
  ⟨spn 127 3, 127, 5, 0, 0, ((spn 127 3).ownTilesAt 127 0).2, [1], by decide +kernel⟩⟩

end Cluster

namespace Pair

/-- A device of a pair. -/
def pr (p : Pair) (m : Mode := .encode) (xs : List (Nat × Nat × Int) := []) : State := {at_ 2000000000 up with
    mode := m, pair := p, od := ods ((([(0x1400,1,1), (0x1400,2,3), (0x1953,1,2)] : List (Nat × Nat × Int))) ++ xs)}
/-- A PAIRID message. -/
def pid (h : Bool) : PairIdMsg := ⟨h,true,true,List.replicate 32 0⟩
/-- A digest record. -/
def dr (t : Nat) : DigestRec := ⟨5,127,t,0,0,0,100,true⟩
/-- An isolated unit with a channel running. -/
def iso : State := {pr {state := 5, link := true, home := true} with chan := [(127,{running := true, epoch := 8})]}
/-- A device of a pair with a channel running. -/
def rch (p : Pair) : State := {pr p with chan := [(127,{running := true, epoch := 8, toll := [1,2]})]}
/-- A checkpoint's bytes. -/
def ck : List Byte := List.replicate 20 0
/-- A unit with a set that its peer is a member of. -/
def sw (p : Pair) : State := {rch p with sets := [(1,{state := 2, members := [(16,.asked)]})]}
/-- A primary that suspects itself. -/
def sus : State := {pr {state := 2, drawbar := true} .encode [(0x1400,5,1), (chI 127 0x79,7,1)] with chan := [(127,
    {running := true, epoch := 8})]}

theorem witness_PairMessagesComplete :
    (∃ (s : State) (p : PairIdMsg), s.pair.state = 1 ∧ s.pair.link = true ∧ p.home ≠ s.pair.home ∧ p.versions = true
      ∧ p.packs = true ∧ s.pair.held = true) ∧
    (∃ (s : State) (p : PairIdMsg), p.digest = s.pairDigest ∧ s.pair.state = 5 ∧ s.pair.link = true ∧ p.home ≠
      s.pair.home ∧ p.versions = true ∧ p.packs = true) ∧
    (∃ (s : State) (p : PairIdMsg), s.pair.state = 2 ∧ s.pair.link = true ∧ p.home ≠ s.pair.home ∧ p.versions = true
      ∧ p.packs = true) ∧
    (∃ (s : State) (r : DigestRec), s.pair.state ≠ 0 ∧ s.pair.link = true ∧ r.chan < 128 ∧ (s.pc r.chan).rejoining =
      false ∧ (s.ch r.chan).depE ≤ r.epoch ∧ s.pair.records = []) ∧
    (∃ (s : State) (n : Nat), n < 128 ∧ s.pair.state = 2 ∧ (s.ch n).running = true) ∧
    (∃ (s : State) (n : Nat) (b : List Byte), n < 128 ∧ s.pair.state = 3 ∧ ckptHead b ≤ b.length ∧ ((s.pc
      n).rejoining = true ∨ (s.ch n).starting.isSome = true)) ∧
    (∃ (s : State) (slot : Nat), s.pair.state = 4 ∧ s.pair.link = true ∧ s.pair.drawbar = false) ∧
    (∃ (s : State) (slot : Nat), s.pair.state = 1 ∧ s.pair.link = true ∧ s.pair.agreed = true ∧ s.pair.drawbar =
      false) ∧
    (∃ (s : State), s.pair.state = 2 ∧ s.pair.link = true ∧ s.pair.drawbar = true ∧ s.pair.home = false) ∧
    (∃ (s : State) (slot : Nat), s.pair.state = 2 ∧ s.pair.link = true ∧ s.pair.drawbar = true ∧ s.pair.home = true)
      ∧
    (∃ (s : State) (tick : Nat), s.pair.state = 2 ∧ s.pair.home = false ∧ s.pair.link = true ∧ s.now ≤ tick) ∧
    (∃ (s : State) (tick : Nat), s.pair.state = 2 ∧ s.pair.home = false ∧ s.pair.handover = some tick ∧ tick ≤ s.now)
      ∧
    (∃ (s : State) (p : PairBeatMsg), s.flag 0x1400 1 = true ∧ s.pairPath = true ∧ s.pair.link = true ∧
      (s.pair.agreed = false ∨ (s.pair.state ≠ 1 ∧ s.pair.state ≠ 5))) ∧
    (∃ (s : State) (p : PairBeatMsg), s.flag 0x1400 1 = true ∧ s.pairPath = true ∧ s.pair.link = true ∧ s.pair.agreed
      = true ∧ s.pair.state = 1 ∧ p.state = 2) ∧
    (∃ (s : State) (p : PairBeatMsg), s.flag 0x1400 1 = true ∧ s.pairPath = true ∧ s.pair.link = false ∧ s.pair.state
      ≠ 0) ∧
    (∃ (s : State), s.pair.state ≠ 0 ∧ s.pair.link = true ∧ s.pair.beatTx + 100000 ≤ s.now) :=
  ⟨⟨pr {state := 1, link := true, home := true, held := true}, pid false, by decide +kernel⟩,
  ⟨iso, {pid false with digest := iso.pairDigest}, rfl, by decide +kernel⟩,
  ⟨pr {state := 2, link := true, home := true}, pid false, by decide +kernel⟩,
  ⟨pr {state := 2, link := true, home := true}, dr 1, by decide +kernel⟩,
  ⟨rch {state := 2}, 127, by decide +kernel⟩,
  ⟨rch {state := 3, chans := [(127,{rejoining := true})]}, 127, ck, by decide +kernel⟩,
  ⟨pr {state := 4, link := true, home := true}, 1990000000, by decide +kernel⟩,
  ⟨pr {state := 1, link := true, home := true, agreed := true}, 1990000000, by decide +kernel⟩,
  ⟨pr {state := 2, link := true, home := false, drawbar := true, slot := 1990000000}, by decide +kernel⟩,
  ⟨pr {state := 2, link := true, home := true, drawbar := true, held := true}, 1990000000, by decide +kernel⟩,
  ⟨pr {state := 2, link := true, home := false}, 2000000000, by decide +kernel⟩,
  ⟨rch {state := 2, link := true, home := false, drawbar := true, handover := some 2000000000}, 2000000000,
    by decide +kernel⟩,
  ⟨rch {state := 3, link := true}, ⟨2,5,[3]⟩, by decide +kernel⟩,
  ⟨rch {state := 1, link := true, agreed := true}, ⟨2,5,[3]⟩, by decide +kernel⟩,
  ⟨rch {state := 3, agreed := true}, ⟨2,5,[3]⟩, by decide +kernel⟩,
  ⟨rch {state := 3, link := true}, by decide +kernel⟩⟩

theorem witness_PrimacyCompletes :
    (∃ (s : State), s.pair.state = 2 ∧ s.pair.link = true ∧ s.pair.beat + 300000 ≤ s.now) ∧
    (∃ (s : State), s.pair.state = 3 ∧ s.pair.link = true ∧ s.pair.beat + 300000 ≤ s.now) ∧
    (∃ (s : State), s.pair.live = true ∧ s.pair.state = 3 ∧ s.pair.link = false ∧ s.mode = .encode) ∧
    (∃ (s : State), s.pair.live = true ∧ s.pair.state = 2) ∧
    (∃ (s : State), s.pair.live = false) ∧
    (∃ (s : State), s.pair.gave = true) ∧
    (∃ (s : State), (s.pair.state = 3 ∨ s.pair.state = 5) ∧ s.mode.sending = true ∧ s.pair.gave = false) ∧
    (∃ (s : State) (slot : Nat), slot % 10000 = 0 ∧ slot + (if s.pair.home then 0 else 5000) ≤ s.now ∧ s.mode.sending
      = true ∧ s.pair.drawbar = false ∧ s.pair.held = false ∧ (s.pair.state = 1 ∨ s.pair.state = 4)) ∧
    (∃ (s : State), s.pair.drawbar = true ∧ s.pair.state = 2) ∧
    (∃ (s : State), s.nat 0x1400 3 ≠ 0 ∧ s.nat 0x1400 3 ≤ s.nat 0x1401 4 ∧ s.pair.home = true ∧ s.pair.state = 3 ∧
      s.pair.link = true ∧ s.pair.handover = none ∧ (∀ k ∈ s.runningChans, s.pairChanState k = 1)) ∧
    (∃ (s : State), s.pair.state = 2 ∧ s.flag 0x1400 5 = true ∧ (s.pair.yielded = false ∨ s.nat 0x1400 3 = 0) ∧
      s.suspect = true) :=
  ⟨⟨rch {state := 2, link := true, agreed := true, records := [dr 1]}, by decide +kernel⟩,
  ⟨rch {state := 3, link := true, live := true, held := true}, by decide +kernel⟩,
  ⟨sw {state := 3, live := true}, by decide +kernel⟩,
  ⟨sw {state := 2, live := true}, by decide +kernel⟩,
  ⟨rch {state := 4, live := false}, by decide +kernel⟩,
  ⟨rch {state := 3, held := true, gave := true}, by decide +kernel⟩,
  ⟨rch {state := 3, live := false, held := true}, by decide +kernel⟩,
  ⟨rch {state := 4, live := false, home := true}, 2000000000, by decide +kernel⟩,
  ⟨rch {state := 2, drawbar := true}, by decide +kernel⟩,
  ⟨{pr {state := 3, home := true, link := true, live := true} .encode [(0x1400,3,100),(0x1401,4,100)] with chan := [(127,{running := true, epoch := 8})]},
    by decide +kernel⟩,
  ⟨sus, by decide +kernel⟩⟩

end Pair

namespace Dram

/-- A machine with one DRAM channel given. -/
def dr (k : Nat) (c : DramChan) (m : Mode := .encode) (xs : List (Nat × Nat × Int) := []) (b : Int := 30) : State :=
    {at_ 2000000000 up with mode := m, dram := [(k,c)], od := ods xs, board := b}
/-- A request to an address. -/
def rq (a : Nat) : MemReq := ⟨3,true,a⟩
/-- A DRAM configuration. -/
def cf : Nat × Nat × Bool × Nat := (2,1,true,1024)
/-- The last address that it has. -/
def last_ : Nat := 4 * regionBytes cf - 1
/-- The number of the bank of address 0. -/
def b0 : Nat := (dramPlace cf 0).bankNo
/-- A channel with refreshes owed. -/
def ow (st : Nat) (xs : List (Nat × Nat × Int) := []) : State :=
    dr 15 {state := st, owed := 32, debt := 144, owing := [5,3], banks := [(3,{row := some 3}), (5,
    {row := some 9})]} .encode xs
/-- A bank with a request waiting. -/
def bk (row : Option Nat) : DramBank := {row := row, queue := [⟨1,false,0,0⟩]}
/-- A channel whose bank has the row open. -/
def cc : DramChan := {state := 2, banks := [(b0, bk (some (dramPlace cf 0).row))]}
/-- A channel whose bank has no row open. -/
def ca : DramChan := {state := 2, banks := [(b0, bk none)]}
/-- A channel whose bank has another row open. -/
def cp : DramChan := {state := 2, banks := [(b0, bk (some 77))]}
/-- A channel with refreshes due. -/
def c6 : DramChan := {state := 2, debt := 32, owing := [20, 7]}
/-- A machine with a clock given. -/
def ck (c : Clock) (m : Mode := .encode) (xs : List (Nat × Nat × Int) := []) : State := {at_ 2000000000 up with
    mode := m, clk := c, od := ods xs}
/-- A channel at the fast refresh rate, cold again. -/
def lo (m : Nat) : State :=
    dr 15 {state := 2, m := m, forbid := true, mr4 := (1,1), debt := 5, credit := 3} .encode [] 0

theorem witness_DramCyclesComplete :
    (∃ (s : State) (r : MemReq) (p : DramPlace) (timed : Nat) (rfm : Bool), p = dramPlace s.dramCfg r.addr ∧ r.addr <
      4 * regionBytes s.dramCfg ∧ r.cls < 4 ∧ (s.dch p.dch).state = 4 ∧ p.dch < 16 ∧ (s.dch p.dch).fabric = [] ∧
      ((s.dch p.dch).bank p.bankNo).queue.length < 16) ∧
    (∃ (s : State) (r : MemReq) (p : DramPlace) (timed : Nat) (rfm : Bool), p = dramPlace s.dramCfg r.addr ∧ r.addr <
      4 * regionBytes s.dramCfg ∧ r.cls < 4 ∧ (s.dch p.dch).state = 4 ∧ p.dch < 16 ∧ (s.dch p.dch).fabric = [] ∧ 16 ≤
      ((s.dch p.dch).bank p.bankNo).queue.length) ∧
    (∃ (s : State) (k timed b : Nat) (rfm : Bool), k < 16 ∧ (s.dch k).state = 6 ∧ (s.dch k).owed ≠ 0 ∧ (s.dch
      k).fabric = [] ∧ (s.dch k).inWindow s.now = false ∧ (s.dch k).nextRefresh timed s.refreshUnit (fun _ => true) =
      some b) ∧
    (∃ (s : State) (k timed b : Nat) (rfm : Bool), k < 16 ∧ (s.dch k).state = 2 ∧ 128 < (s.dch k).debt ∧ (s.dch
      k).fabric = [] ∧ (s.dch k).inWindow s.now = false ∧ (s.dch k).nextRefresh timed s.refreshUnit (fun _ => true) =
      some b) ∧
    (∃ (s : State) (k timed b : Nat) (rfm : Bool) (r : DramReq), k < 16 ∧ (s.dch k).state = 2 ∧ (s.dch k).debt ≤ 128
      ∧ (s.dch k).fabric = [] ∧ (s.dch k).inWindow s.now = false ∧ (s.dch k).column s.dramCfg timed = some (b, r)) ∧
    (∃ (s : State) (k timed b : Nat) (rfm : Bool), k < 16 ∧ (s.dch k).state = 2 ∧ (s.dch k).debt ≤ 128 ∧ (s.dch
      k).fabric = [] ∧ (s.dch k).inWindow s.now = false ∧ (s.dch k).column s.dramCfg timed = none ∧ (s.dch
      k).activate timed (max 1 s.dramCfg.2.1) = some b) ∧
    (∃ (s : State) (k timed b : Nat) (rfm : Bool), k < 16 ∧ (s.dch k).state = 2 ∧ (s.dch k).debt ≤ 128 ∧ (s.dch
      k).fabric = [] ∧ (s.dch k).inWindow s.now = false ∧ (s.dch k).column s.dramCfg timed = none ∧ (s.dch
      k).activate timed (max 1 s.dramCfg.2.1) = none ∧ (s.dch k).precharge s.dramCfg (s.nat 0x1800 7) timed = some b)
      ∧
    (∃ (s : State) (k timed b : Nat) (rfm : Bool), k < 16 ∧ (s.dch k).state = 2 ∧ (s.dch k).debt ≤ 128 ∧ (s.dch
      k).fabric = [] ∧ (s.dch k).inWindow s.now = false ∧ (s.dch k).column s.dramCfg timed = none ∧ (s.dch
      k).activate timed (max 1 s.dramCfg.2.1) = none ∧ (s.dch k).precharge s.dramCfg (s.nat 0x1800 7) timed = none ∧
      s.refreshUnit ≤ (s.dch k).debt ∧ (s.dch k).nextRefresh timed s.refreshUnit (fun x => !s.postpones (s.dch k) (x
      / 16)) = some b) ∧
    (∃ (s : State) (k rank bank : Nat), k < 16 ∧ rank < 2 ∧ bank < 16 ∧ ((s.dch k).state = 2 ∨ (s.dch k).state = 6) ∧
      s.refreshUnit ≤ (s.dch k).credit) ∧
    (∃ (s : State) (k rank bank : Nat), k < 16 ∧ rank < 2 ∧ bank < 16 ∧ ((s.dch k).state = 2 ∨ (s.dch k).state = 6) ∧
      (s.dch k).credit < s.refreshUnit) ∧
    (∃ (s : State) (a : Nat), a < 4 * regionBytes s.dramCfg ∧ s.dramCfg.2.2.1 = true) ∧
    (∃ (s : State) (a : Nat), a < 4 * regionBytes s.dramCfg ∧ s.dramCfg.2.2.1 = true ∧ (∀ m ∈ [Mode.dormant,
      Mode.starting, Mode.ret, Mode.safe], s.mode ≠ m) ∧ s.outranked 4 = false) :=
  ⟨⟨dr 15 {state := 4}, rq last_, dramPlace cf last_, 0, false, by decide +kernel⟩,
  ⟨dr 0 {state := 4, banks := [(b0,{queue := List.replicate 16 ⟨1,false,0,0⟩})]}, rq 0, dramPlace cf 0, 0, false,
    by decide +kernel⟩,
  ⟨ow 6, 15, 0xFFFFFFFF, 5, true, by decide +kernel⟩,
  ⟨ow 2, 15, 8, 3, true, by decide +kernel⟩,
  ⟨dr 15 cc, 15, 0xFFFFFFFF, b0, false, ⟨1,false,0,0⟩, by decide +kernel⟩,
  ⟨dr 15 ca, 15, 0xFFFFFFFF, b0, false, by decide +kernel⟩,
  ⟨dr 15 cp, 15, 0xFFFFFFFF, b0, false, by decide +kernel⟩,
  ⟨dr 15 {c6 with debt := 128} .encode [(0x1800,8,9)], 15, 0xFF, 7, false, by decide +kernel⟩,
  ⟨dr 15 {state := 6, credit := 16} .encode [(0x1800,5,1)], 15, 1, 15, by decide +kernel⟩,
  ⟨dr 15 {ca with debt := 127} .encode [(0x1800,8,1)], 15, 0, 15, by decide +kernel⟩,
  ⟨dr 15 ca, last_, by decide +kernel⟩,
  ⟨dr 15 ca, last_, by decide +kernel⟩⟩

theorem witness_DramStatesComplete :
    (∃ (s : State) (k value : Nat), k < 16 ∧ s.boardRate = 1 ∧ (s.dch k).m = 1) ∧
    (∃ (s : State) (k value : Nat), k < 16 ∧ (s.dch k).state = 2 ∧ (s.dch k).m = 1) ∧
    (∃ (s : State) (temp : Int), s.num 0x1800 9 ≤ temp) ∧
    (∃ (s : State) (k : Nat), k < 16 ∧ (s.dch k).state = 6 ∧ (s.dch k).owed = 0 ∧ (s.dch k).m = max (s.dch k).mr4.1
      s.boardRate) ∧
    (∃ (s : State) (k : Nat), k < 16 ∧ (s.dch k).state = 6 ∧ (s.dch k).owed = 0 ∧ (s.dch k).m = 2 ∧ (s.dch k).mr4.1 =
      4) ∧
    (∃ (s : State) (k rank : Nat), k < 16 ∧ rank < 2 ∧ (s.dch k).state = 2 ∧ s.nat 0x1800 6 ≠ 0 ∧ rank < max 1
      s.dramCfg.2.1 ∧ s.nat 0x1800 6 ≤ tgetD (s.dch k).idle rank 0 ∧ (s.dch k).rankLoad rank = 0 ∧ rank ∉ (s.dch
      k).down) ∧
    (∃ (s : State) (q : Nat), q < 4 ∧ (s.mode = .service ∨ s.mode = .hold)) ∧
    (∃ (s : State) (q : Nat), (∀ k, k / 4 = q → (s.dch k).load = 0 ∧ (s.dch k).woke + 1000000 ≤ s.now) ∧ q < 4 ∧
      (s.mode = .service ∨ s.mode = .hold)) ∧
    (∃ (s : State) (k : Nat) (drift : Int), k < 16 ∧ (s.dch k).state = 2 ∧ drift.natAbs < s.nat 0x1800 0x0B) ∧
    (∃ (s : State) (k d : Nat) (drift : Int), k < 16 ∧ (s.dch k).state = 2 ∧ s.nat 0x1800 0x0B ≤ drift.natAbs ∧
      (s.dch k).window = false ∧ s.windowSlot k 100000 = some d ∧ 2 < s.tt.length) ∧
    (∃ (s : State) (demand : List Nat), demand.length = 4) :=
  ⟨⟨dr 15 {ca with mr4 := (2,2)}, 15, 300, by decide +kernel⟩,
  ⟨dr 15 {ca with debt := 7}, 15, 300, by decide +kernel⟩,
  ⟨dr 15 {ca with debt := 7}, (dr 15 ca).num 0x1800 9, by decide +kernel⟩,
  ⟨dr 15 {state := 6, paying := 4}, 15, by decide +kernel⟩,
  ⟨dr 15 {state := 6, paying := 4, m := 2, mr4 := (4,2)}, 15, by decide +kernel⟩,
  ⟨dr 15 {state := 2, idle := [(0,4096)]} .encode [(0x1800,6,4096)], 15, 0, by decide +kernel⟩,
  ⟨dr 15 {state := 4} .service, 3, by decide +kernel⟩,
  ⟨dr 15 {state := 2, down := [0]} .hold, 3, quarter (by decide) (by decide +kernel), by decide +kernel⟩,
  ⟨dr 15 {state := 2} .encode [(0x1800,11,50)], 15, -49, by decide +kernel⟩,
  ⟨dr 15 {state := 2} .encode [(0x1800,11,50)], 15, ((dr 15 {state := 2}).windowSlot 15 100000).getD 0, -50,
    by decide +kernel⟩,
  ⟨dr 15 {state := 2}, [1,2,70000,3], by decide +kernel⟩⟩

theorem witness_ReferencesComplete :
    (∃ (s : State), s.clk.state = 2) ∧
    (∃ (s : State), s.clk.state = 4) ∧
    (∃ (s : State), (s.clk.state = 3 ∨ s.clk.state = 0)) ∧
    (∃ (s : State) (kind : Nat), (kind = 1 ∨ kind = 2) ∧ (s.clk.state = 2 ∨ s.clk.state = 4)) ∧
    (∃ (s : State) (kind : Nat), (kind = 1 ∨ kind = 2) ∧ s.clk.state = 3) ∧
    (∃ (s : State) (kind : Nat), (kind = 1 ∨ kind = 2) ∧ (s.clk.state = 0 ∨ s.clk.state = 1)) ∧
    (∃ (s : State) (offset phase : Int), s.qualified = true ∧ s.clk.state = 3 ∧ offset.natAbs ≤ 100000) ∧
    (∃ (s : State) (offset phase : Int), s.qualified = true ∧ s.clk.state = 3 ∧ 100000 < offset.natAbs) ∧
    (∃ (s : State) (offset phase : Int), s.qualified = true ∧ s.clk.state = 0 ∧ offset.natAbs ≤ 100000) :=
  ⟨⟨ck {state := 2}, by decide +kernel⟩,
  ⟨ck {state := 4}, by decide +kernel⟩,
  ⟨ck {state := 3}, by decide +kernel⟩,
  ⟨ck {state := 2}, 1, by decide +kernel⟩,
  ⟨ck {state := 3}, 2, by decide +kernel⟩,
  ⟨ck {state := 1}, 2, by decide +kernel⟩,
  ⟨ck {state := 3, qualFrom := some 0}, 100000, -7, by decide +kernel⟩,
  ⟨ck {state := 3, qualFrom := some 0}, -100001, -7, by decide +kernel⟩,
  ⟨ck {state := 0, qualFrom := some 0}, -100000, -7, by decide +kernel⟩⟩

theorem witness_RootClockComplete :
    (∃ (s : State), s.clk.state = 4) ∧
    (∃ (s : State), s.clk.state = 1) ∧
    (∃ (s : State) (cause : Nat) (phase : Int), (cause = 3 ∨ cause = 4 ∨ cause = 5) ∧ (s.clk.state = 2 ∨ s.clk.state
      = 4) ∧ (∀ m ∈ [Mode.dormant, Mode.starting, Mode.ret, Mode.safe], s.mode ≠ m) ∧ s.outranked 4 = false) ∧
    (∃ (s : State) (cause : Nat) (phase : Int), (cause = 4 ∨ cause = 5) ∧ s.clk.state = 3 ∧ (∀ m ∈ [Mode.dormant,
      Mode.starting, Mode.ret, Mode.safe], s.mode ≠ m) ∧ s.outranked 4 = false) ∧
    (∃ (s : State), s.clk.bypass = true ∧ s.clk.state = 0 ∧ s.clk.tried + 10000000 ≤ s.now) ∧
    (∃ (s : State), s.clk.state = 3 ∧ s.clk.alarm = false ∧ s.clk.since + s.nat 0x1600 4 * 1000000000 ≤ s.now ∧
      s.bb.queue.length < 64) :=
  ⟨⟨ck {state := 4}, by decide +kernel⟩,
  ⟨ck {state := 1, staged := [(0,5),(1,0)]}, by decide +kernel⟩,
  ⟨{ck {state := 2} with dram := [(3,{state := 2}),(4,{state := 7}),(5,{state := 6, owed := 3})], lane := [(3,{rx := 2, tx := 2})]},
    3, 5, by decide +kernel⟩,
  ⟨ck {state := 3}, 4, 5, by decide +kernel⟩,
  ⟨ck {state := 0, ref := 2}, by decide +kernel⟩,
  ⟨ck {state := 3} .encode [(0x1600,4,2)], by decide +kernel⟩⟩

theorem witness_RatesFallUnderBothConditions :
    (∃ (s t : State) (k : Nat) (c : Instr), ((∃ d v r, c = .mr4Read d v r) ∨ (∃ b, c = .boardTemperatureChange b) ∨ ∃
      d, c = .debtPaymentComplete d) ∧ exec c s = .next t) ∧
    (∃ (s t : State) (k : Nat) (c : Instr), ((∃ r b, c = .refreshDue k r b) ∨ ∃ l m f, c = .dramCommandCycle k l m f)
      ∧ exec c s = .next t ∧ (s.dch k).forbid = true) ∧
    (∃ (s : State) (k timed b : Nat) (rfm : Bool), k < 16 ∧ (s.dch k).state = 2 ∧ (s.dch k).forbid = true ∧ (s.dch
      k).fabric = [] ∧ (s.dch k).inWindow s.now = false ∧ (s.dch k).column s.dramCfg timed = none ∧ (s.dch
      k).activate timed (max 1 s.dramCfg.2.1) = none ∧ (s.dch k).precharge s.dramCfg (s.nat 0x1800 7) timed = none ∧
      s.refreshUnit ≤ (s.dch k).debt ∧ (s.dch k).nextRefresh timed s.refreshUnit (fun _ => true) = some b) :=
  ⟨⟨lo 4, nx (.mr4Read 15 1 1) (lo 4), 15, .mr4Read 15 1 1, .inl ⟨_, _, _, rfl⟩, exec_nx (by decide +kernel)⟩,
  ⟨lo 2, nx (.refreshDue 15 0 3) (lo 2), 15, .refreshDue 15 0 3, .inl ⟨_, _, rfl⟩, exec_nx (by decide +kernel),
    by decide +kernel⟩,
  ⟨dr 15 {c6 with forbid := true}, 15, 0xFFFFFFFF, 20, false, by decide +kernel⟩⟩

theorem witness_ReferencesQualify :
    (∃ (s : State) (t0 : Nat) (offset phase : Int), s.clk.state = 3 ∧ s.clk.qualFrom = some t0 ∧ t0 + s.nat 0x1600 3
      * 1000000 ≤ s.now ∧ -100000 ≤ offset ∧ offset ≤ 100000) ∧
    (∃ (s : State) (t0 : Nat) (offset phase : Int), s.clk.state = 3 ∧ s.clk.qualFrom = some t0 ∧ s.now < t0 + s.nat
      0x1600 3 * 1000000) ∧
    (∃ (s : State), s.clk.state = 3) ∧
    (∃ (s : State), s.clk.state = 3) ∧
    (∃ (s : State) (t0 : Nat) (offset phase : Int), s.clk.state = 3 ∧ s.clk.qualFrom = some t0 ∧ t0 + s.nat 0x1600 3
      * 1000000 ≤ s.now ∧ (offset < -100000 ∨ 100000 < offset)) :=
  ⟨⟨ck {state := 3, qualFrom := some 1000000000}, 1000000000, 100000, 4, by decide +kernel⟩,
  ⟨ck {state := 3, qualFrom := some 1999999999}, 1999999999, 100000, 4, by decide +kernel⟩,
  ⟨ck {state := 3, qualFrom := some 1000000000}, by decide +kernel⟩,
  ⟨ck {state := 3, qualFrom := some 1000000000}, by decide +kernel⟩,
  ⟨ck {state := 3, qualFrom := some 1000000000}, 1000000000, 100001, 4, by decide +kernel⟩⟩

end Dram

/-! Hypotheses of the statements over every command -/

/-- A state with one command waiting. -/
def waiting : State := { up with pending := [.hostNote hd [1], .mbxRspClear] }

theorem witness_StepRunsTheFrontCommand : ∃ (c : Instr) (r : List Instr) (s : State), s.pending = c :: r :=
  ⟨.hostNote hd [1], [.mbxRspClear], waiting, rfl⟩

theorem witness_StepIdlesOnAnEmptyQueue : ∃ s : State, s.pending = [] := ⟨.reset, rfl⟩

theorem witness_StepKeepsInv : ∃ s t : State, s.Inv ∧ step s = .next t :=
  ⟨{ State.reset with pending := [.timetableTick] }, nx .timetableTick State.reset,
    ⟨⟨rfl, nofun⟩, ⟨rfl, nofun⟩, rfl, by intro l h; simp [State.reset] at h; subst h; trivial⟩,
    exec_nx (c := .timetableTick) (s := State.reset) (by decide +kernel)⟩

theorem witness_ExecKeepsQueue : ∃ (c : Instr) (s t : State), exec c s = .next t :=
  ⟨.timetableTick, waiting, nx .timetableTick waiting, exec_nx (by decide +kernel)⟩

theorem witness_WellFormedCommandsRun :
    ∃ (c : Instr) (s : State), c.wf = true ∧ ∀ a d, c = .dramEccError a d → a < 4 * regionBytes s.dramCfg :=
  ⟨.laneFailed 47, .reset, rfl, nofun⟩

/-- An ECC error at the last address that the DRAM has meets the premise of its own. -/
theorem witness_WellFormedCommandsRun_ecc : ∃ (c : Instr) (s : State), c.wf = true ∧ (∃ a d, c = .dramEccError a d) ∧
    ∀ a d, c = .dramEccError a d → a < 4 * regionBytes s.dramCfg :=
  ⟨.dramEccError (4 * regionBytes State.reset.dramCfg - 1) true, .reset, by decide +kernel, ⟨_, _, rfl⟩,
    fun a d h => by injection h with h _; subst h; decide +kernel⟩

theorem witness_ControlFrames :
    ∃ (c : Instr) (s t : State) (p : Part),
      p ∈ [.free, .mode, .moving, .held, .ctl, .sets, .armings, .tt, .ring, .msix, .bb, .lodge, .sec] ∧ p ∉ touches c ∧
      exec c s = .next t :=
  ⟨.read hd [⟨0x1001, 1⟩], up, nx (.read hd [⟨0x1001, 1⟩]) up, .mode, by decide, by decide, exec_nx (by decide +kernel)⟩

theorem witness_MediaFrames :
    ∃ (c : Instr) (s t : State) (p : Part),
      p ∈ [.chan, .mews, .flow, .dec, .ret, .audio, .cs, .perf, .dram, .dramCfg, .board, .dramMem] ∧ p ∉ touches c ∧
      exec c s = .next t :=
  ⟨.read hd [⟨0x1001, 1⟩], up, nx (.read hd [⟨0x1001, 1⟩]) up, .dramMem, by decide, by decide, exec_nx (by decide +kernel)⟩

theorem witness_LinkAndTimeFrames :
    ∃ (c : Instr) (s t : State) (p : Part),
      p ∈ [.lane, .cw, .net, .clk, .tb, .ptp, .cap, .trig, .cluster, .pair] ∧ p ∉ touches c ∧ exec c s = .next t :=
  ⟨.read hd [⟨0x1001, 1⟩], up, nx (.read hd [⟨0x1001, 1⟩]) up, .lane, by decide, by decide, exec_nx (by decide +kernel)⟩

theorem witness_RegisterFrames :
    (∃ (c : Instr) (s t : State), .od ∉ touches c ∧ exec c s = .next t) ∧
    (∃ (c : Instr) (s t : State) (l : List (Nat × Nat)) (i j : Nat), registers c = some l ∧ j < 256 ∧
      (∀ r ∈ l, i < r.1 ∨ r.2 < i) ∧ exec c s = .next t) :=
  ⟨⟨.mbxRspClear, up, nx .mbxRspClear up, by decide, exec_nx (by decide +kernel)⟩,
    ⟨.openSet hd, up, nx (.openSet hd) up, _, 0x1101, 255, rfl, by decide, by decide, exec_nx (by decide +kernel)⟩⟩

/-! Ill-formed commands, one for each check, each refused -/

/-- A request header whose one field is a value too wide for it: none passes. -/
theorem test_headers_too_wide :
    [{ hd with path := 4 }, { hd with version := 256 }, { hd with node := 256 }, { hd with txid := 65536 },
      { hd with session := 4294967296 }, { hd with counter := 18446744073709551616 }].all
      (fun h => !(Instr.close h).wf) = true := by decide +kernel

/-- A unit number one past the last: none passes. -/
theorem test_units_past_the_last :
    ([.wake 1 16 [], .fenceValueWrite 128 0 1, .fenceValueWrite 127 17 1, .ringTailWrite 32 0, .turnstileSourceEnded 10,
      .commitFire 49, .commitFire 0, .audioGroupStart 8, .dramRetrainingWindow 16, .gpioPulse 0 16 0 1,
      .triggerOutputPulse 16 0, .lineReceived 0 [⟨48, 0, 0, 0, false, []⟩] 0, .laneFailed 48,
      .carriagewayIdleTimeout 4, .fetchComplete 49152, .operandToken 49151 5, .coachDispatch 64, .engineFault 0 8 0,
      .engineFault 0 1 32768, .selfTestComplete 80 true, .ringDelivery 16 0 0 0 0 [], .inputRingConsume 15 [],
      .inputPacketReceived 0 2 ⟨{}, 0, 0⟩ [],
      .inputPacketReceived 0 1 ⟨{}, 0, 65536⟩ []] : List Instr).all (fun c => !c.wf) = true := by
  decide +kernel

/-- The same of links, nodes, memory and the Lodge. -/
theorem test_nodes_and_banks_past_the_last :
    ([.ptpMessageSend 0 4 0, .captureEdge 8 false 0, .audioSampleRead 16, .audioAccessUnitCoded 32 [], .cwCredit 0 4 0,
      .heartbeatMissed 16, .ready 17 1, .prepare 17 0 [] ⟨0, 0, 0⟩, .prepare 0 49 [] ⟨0, 0, 0⟩,
      .prepare 16 9 [] ⟨0, 0, 0⟩, .refused 0 0 2 ⟨0, 0⟩, .commitDecision 1 0 0, .commitDecision 1 4 0, .spanreq 4 0,
      .relay 4 (.openSet hd), .relay 2 .mbxRspClear, .ckptReq 128, .refreshDue 0 2 0, .refreshDue 0 0 16,
      .dramEccError 68719476736 true, .powerDownEntry 0 2, .selfRefreshWake 4, .demandMeasurement [0, 0, 0],
      .lodgeRuleFire 64 0, .thermalTrip 16 0, .st211030Packet 1024, .performanceCounterWrap 1152] : List Instr).all
      (fun c => !c.wf) = true := by decide +kernel

/-- The last unit passes. -/
theorem test_last_units_pass :
    ([.wake 1 15 [], .fenceValueWrite 127 16 1, .ringTailWrite 31 0, .turnstileSourceEnded 9, .commitFire 48, .prepare 16 25 [] ⟨0, 0, 0⟩,
      .laneFailed 47, .fetchComplete 49151, .selfTestComplete 79 true, .relay 3 (.openSet hd), .refreshDue 15 1 15,
      .lodgeRuleFire 63 0, .performanceCounterWrap 1151] : List Instr).all Instr.wf = true := by decide +kernel

/-- A command that names no unit of the part stops by name. -/
theorem test_no_such_unit : exec (.laneFailed 48) up = .fault .noSuchUnit := rfl

/-! The queue -/

theorem test_first_in_first_out :
    (match step waiting with | .next t => t.pending == [.mbxRspClear] | _ => false) = true := by decide +kernel

theorem test_no_word_spells_a_command : State.reset.withFetchWord 32 0xFFFFFFFF = State.reset := rfl

/-! Numbers that the spec gives -/

/-- "123456789" in ASCII. -/
def digits : List Byte := [0x31, 0x32, 0x33, 0x34, 0x35, 0x36, 0x37, 0x38, 0x39]

/-- The check values of R606's table. -/
theorem test_check_values :
    crc32 digits = 0xCBF43926 ∧ crc32c digits = 0xE3069283 ∧ crc16 digits = 0x29B1 ∧ crc64 digits = 0x995DC9BBDF1939FA := by
  decide +kernel

/-- The empty-message values of R606's table. -/
theorem test_empty_message_values : crc32 [] = 0 ∧ crc32c [] = 0 ∧ crc16 [] = 0xFFFF ∧ crc64 [] = 0 := by decide +kernel

/-- The worked example of R161: a blend in straight and in premultiplied mode. -/
theorem test_blend : blend false 768 1023 60000 12000 = 48047 ∧ blend true 768 1023 45000 12000 = 36782 := by
  decide +kernel

/-- The handshake of the worked example of R580 over UDP: 1, 4 and 4 fragments, the last of 393 and 1,181 bytes. -/
theorem test_handshake_fragments :
    (fragCount 0 1220, fragCount 0 4473, fragCount 0 5261) = (1, 4, 4) ∧
      (fragBody 2 0 3 (zeros 4473)).length = 4 + 393 ∧ (fragBody 3 0 3 (zeros 5261)).length = 4 + 1181 := by decide +kernel

/-- The device of chapter 4's worked example: ENCODE at 1,780,000,000 s plus 250,000,000 ns, session 3. -/
def exampleDevice : State :=
  at_ 1780000000250000000 { State.reset with mode := .encode, ctl := { sessions := [(3, ses)] } }
/-- Its request. -/
def exampleHeader : ReqHdr := { hd with session := 3, txid := 0x21, counter := 0x41, length := 8 }
/-- The body of the response that left last. -/
def sentBody (s : State) : List Byte := (s.ctl.sent.map (fun r => r.body)).getD []

/-- Chapter 4's worked example: the response body after its STATUS and 2 reserved bytes. -/
theorem test_reading_the_mode :
    sentBody (nx (.read exampleHeader [⟨0x1001, 1⟩]) exampleDevice) =
      [0x01, 0, 0, 0, 0, 0, 0x01, 0, 0x00, 0xA5, 0x18, 0x6A, 0, 0, 0x80, 0xB2, 0xE6, 0x0E, 0, 0, 0x05, 0, 0, 0] := by
  decide +kernel

/-- Channel 0 of the four-channel scene. -/
def scene : Cfg :=
  cfgOf (ods [(0x4000, 1, 7680), (0x4000, 2, 4320), (0x4000, 3, 120000), (0x4000, 4, 1001), (0x4001, 1, 1),
    (0x4002, 1, 7680), (0x4002, 2, 4320), (0x4040, 1, 2), (0x4040, 4, 32), (0x4040, 5, 16), (0x4040, 6, 1),
    (0x4040, 7, 1), (0x4040, 8, 1), (0x4060, 2, 640000000), (0x4060, 3, 960000000), (0x4060, 8, 48)]) {} 0

/-- The worked example of a budget in chapter 7: target, Q, Q_last, capacity, λ and μ. -/
theorem test_budget :
    (scene.target, scene.q, scene.qLast, scene.capacity) = (5338666, 57464, 53757, 7753933) ∧
      (scene.lambda, scene.mu) = (2, 2) := by decide +kernel

/-- The floors of the same example: of an inter and of a key row, and of a picture of each without its fixed part. -/
theorem test_floors :
    (scene.rowReserveMax 0 false, scene.rowReserveMax 0 true) = (19456, 42496) ∧
      scene.picReserveMax false = 2626824 - 264 ∧ scene.picReserveMax true = 5738584 - 1624 := by decide +kernel

/-- The worked example of the minimum latency in chapter 7: A, P and S_d, L_chain, Dc and D, and with G of one hop 98. -/
theorem test_minimum_latency :
    (scene.p, scene.chain (scene.g 0) scene.x, scene.dc, scene.d.ceil) = (8, 96, 96, 128) ∧
      scene.chain (scene.g 1) scene.x = 98 := by decide +kernel

/-- The predicted tile of the worked example in chapter 5: every row holds 512 + x. -/
def ramp : List Nat := (List.range 8).flatMap (fun _ => (List.range 32).map (512 + ·))
/-- The worked example of a predicted tile (R174 to R178): its header, its first bytes and its two granules. -/
theorem test_tile_written :
    (encodeTile 10 0x40 ramp).1 = 0x84000040 ∧ (encodeTile 10 0x40 ramp).2.take 4 = [0x80, 0x12, 0x49, 0x24] ∧
      (encodeTile 10 0x40 ramp).2.length = 64 := by decide +kernel
/-- The same tile reads back as the ramp. -/
theorem test_tile_read :
    tileSamples 10 0x42 0x84000040 (fun o n => ((encodeTile 10 0x40 ramp).2.drop (o - 32 * 0x40)).take n) = some ramp := by
  decide +kernel

/-- The test port (R650): EXTEST runs while RESET_N is held in BLANK, and no longer once RESET_N is released. -/
theorem test_port_gate :
    (State.selectTest .extest { State.reset with lodge := { State.reset.lodge with held := true } }).portRuns = .extest ∧
      { State.selectTest .extest { State.reset with lodge := { State.reset.lodge with held := true } } with
        lodge := { State.reset.lodge with held := false } }.portRuns = .bypass ∧
      (State.selectTest .extest { State.reset with lodge := { State.reset.lodge with held := false } }).portRuns = .bypass := by
  decide +kernel

/-! Commands at reset and in SERVICE -/

/-- The answer's code to a command. -/
def answered (c : Instr) (s : State) : Code := (((nx c s).ctl.sent).map (fun r => r.status)).getD .ok

/-- OPEN_SET gives the lowest-numbered free set (R47). -/
theorem test_open_set : (nx (.openSet hd) up).ctl.sent.map (fun r => r.body.take 1) = some [1] := by decide +kernel

/-- COMMIT of a set that is not open answers NOSET (R47, R131). -/
theorem test_commit_without_set : answered (.commit hd 3 ⟨0, 0, 0⟩) up = .noset := by decide +kernel

/-- A message counter that does not rise is discarded: no answer leaves (R100, R102). -/
theorem test_replayed_counter : (nx (.openSet { hd with counter := 0 }) up).ctl.sent = none := by decide +kernel

end Sys2Proof.Tests
end

