-- ==== Sys2Proof/Proofs/TransitionState.lean ====
section
/-! PROOFS. TransitionState.lean: OD 0x1001.06 and the mode requests that it refuses (R28). -/

namespace Sys2Proof.Machine

/-! What an accepted request leaves as it is -/

/-- Accepting a request changes the control path only, so that whatever does not look at it reads as before (R102–R105). -/
theorem Accepts.keeps {s : State} {h : ReqHdr} {v : Service} {x : Session} (H : Accepts s h v x) {β : Type} (f : State → β)
    (hf : ∀ c, f { s with ctl := c } = f s) : f (s.taken h v x) = f s := by
  rw [taken_eq H.session]
  unfold State.going
  split <;> exact hf _

/-- A service that answers and leaves the machine as it found it: the answer leaves, and the stage sets stand. -/
theorem Accepts.answers {s : State} {h : ReqHdr} {v : Service} {x : Session} (H : Accepts s h v x) {run : Nat → State → Answer}
    {c : Code} {b : List Byte} (hr : run h.session (s.taken h v x) = (some (c, b), s.taken h v x)) (hb : b.length ≤ 1000)
    (h2 : v.code ≠ 2) : (s.request h v run).sets = s.sets ∧ Replies (s.request h v run) h x v.code c b := by
  obtain ⟨m, i, l, r, e, hq⟩ := H.replySame rfl c b _ hr (H.small b hb) rfl (fun q => h2 q.1)
  refine ⟨?_, hq⟩
  rw [e]
  exact H.keeps State.sets (fun _ => rfl)

/-! OD 0x1001.06 -/

/-- A number of one byte in that byte (R90). -/
theorem leInt_one_of_lt {n : Nat} (h : n < 256) : leInt 1 (n : Int) = [BitVec.ofNat 8 n] := by
  have hn : ((n : Int) % ((256 ^ 1 : Nat) : Int)).toNat = n := by omega
  simp only [leInt, hn, leBytes]

/-- OD 0x1001.06 in the words of R28. -/
theorem transition_eq (s : State) :
    s.transition = if s.moving.isSome then 2
      else if ∃ k ∈ setNumbers, (s.set k).armed = true ∧ (s.set k).modeWrite.isSome = true then 1 else 0 := by
  simp [State.transition, State.armedSets, List.any_filter]

theorem transition_lt (s : State) : s.transition < 256 := by
  rw [transition_eq]
  split
  · decide
  · split <;> decide

/-- CAPTURE of OD 0x1001.06, which no period samples: the instant of its measurement where one is listed, or else that of the
read. -/
theorem capturedAt_transition (s : State) : s.capturedAt 0x1001 6 = (tget s.meas (okey 0x1001 6)).getD s.now := by
  have hp : samplePeriod 0x1001 6 = 0 := by decide
  unfold State.capturedAt
  cases tget s.meas (okey 0x1001 6) <;> simp [hp]

/-- The row of OD 0x1001.06: one unsigned byte that any session reads. -/
theorem odRow_transition : odRow 0x1001 6 = some ⟨0x1001, 6, 6, 2, 1, 0, 0, .num 0, 0, 255, 0, 0, 255⟩ := by decide +kernel

/-- No failure-analysis token opens the mode objects (R87). -/
theorem labOpen_mode (s : State) (w : Who) : s.labOpen w 0x1001 = false := by simp [State.labOpen]

/-- A read of OD 0x1001.06 by a session that may read it returns the transition's state and clears nothing (R44). -/
theorem readObject_transition {s : State} {w : Who} (room : Nat) (hm : s.may w false 0x1001 6 = .ok) :
    s.readObject w room 0x1001 6 false = (.ok, [BitVec.ofNat 8 s.transition], s) := by
  have hu : unseen 0x1001 6 = false := by decide
  have hfig : s.figure 0x1001 6 = some (.num s.transition) := rfl
  have hcl : ∀ n, s.cleared 0x1001 6 n = s := fun _ => rfl
  have helse : ∀ r, s.elsewhere 0x1001 6 r = false := by simp [State.elsewhere]
  have hpeek : ∀ r, s.peek 0x1001 6 r = (.num s.transition, s) := by
    have hb : baseIdx 0x1001 ≠ 0x1C10 := by decide
    simp [State.peek, hu, hfig, hb]
  have hle : leInt 1 (s.transition : Int) = [BitVec.ofNat 8 s.transition] := leInt_one_of_lt (transition_lt s)
  simp [State.readObject, State.look, labOpen_mode, odRow_transition, hm, helse, hpeek, OdRow.bytes, hle, hcl]

/-- An accepted READ of OD 0x1001.06 answers the transition's state, with the CAPTURE that R107 gives a listed measurement. -/
theorem exec_read_transition {s : State} {h : ReqHdr} {x : Session}
    (H : Accepts s h { code := 0x10, req := .read (bareHdr h) [⟨0x1001, 6⟩], objs := [⟨0x1001, 6⟩], open_ := true } x)
    (hm : s.may ⟨x.cls, x.cred, x.perms, none⟩ false 0x1001 6 = .ok) :
    ∃ t, exec (.read h [⟨0x1001, 6⟩]) s = .next t ∧
      Replies t h x 0x10 .ok (leBytes 1 1 ++ zeros 3 ++
        readEntry .ok ((tget s.meas (okey 0x1001 6)).getD s.now) [BitVec.ofNat 8 s.transition]) := by
  have hmay := (H.keeps (fun u => u.may ⟨x.cls, x.cred, x.perms, none⟩ false 0x1001 6) (fun _ => rfl)).trans hm
  have hcap := (H.keeps (fun u => u.capturedAt 0x1001 6) (fun _ => rfl)).trans (capturedAt_transition s)
  have htr := H.keeps State.transition (fun _ => rfl)
  refine ⟨_, rfl, (H.answers ?_ ?_ (by simp)).2⟩
  · simp [taken_who H.session, State.readEntries, readObject_transition _ hmay, hcap, htr]
  · simp [readEntry, padded, ceilDiv]

/-! Mode requests -/

/-- A mode request that the session's class allows is BUSY while OD 0x1001.06 reads other than 0 (R28, R34). -/
theorem stageValue_modeRequest_busy {s : State} {w : Who} (k len : Nat) {v : Val}
    (hcls : w.cls < 2 → v ≠ .num 0 ∧ s.mode ≠ .safe) (ht : s.transition ≠ 0) :
    s.stageValue w k 0x1001 2 len v = (.busy, s) := by
  have hd : ¬(w.cls < 2 ∧ (v = .num 0 ∨ s.mode = .safe)) := fun ⟨hc, hv⟩ => hv.elim (hcls hc).1 (hcls hc).2
  unfold State.stageValue
  rw [if_neg (by simpa using hd), if_pos (by simp [ht])]

/-- A mode request staged while OD 0x1001.06 reads other than 0 is BUSY and leaves the stage sets as they are (R28); the class
that R34 asks of a request for DORMANT, or out of SAFE, goes before. -/
theorem exec_stage_modeRequest_busy {s : State} {h : ReqHdr} {x : Session} {k len : Nat} {v : Val}
    (H : Accepts s h { code := 0x21, req := .stage (bareHdr h) k [⟨⟨0x1001, 2⟩, len, v⟩], objs := [⟨0x1001, 2⟩], writes := true } x)
    (hu : s.mayUse ⟨x.cls, x.cred, x.perms, none⟩ 1 0x1001 = true) (hset : s.stageSet h.session k = .ok)
    (hcode : s.entryCode ⟨x.cls, x.cred, x.perms, none⟩ 0x1001 2 len v true false = .ok)
    (hcls : x.cls < 2 → entryVal 0x1001 2 len v ≠ .num 0 ∧ s.mode ≠ .safe) (ht : s.transition ≠ 0) :
    ∃ t, exec (.stage h k [⟨⟨0x1001, 2⟩, len, v⟩]) s = .next t ∧ t.sets = s.sets ∧
      Replies t h x 0x21 .ok (statusWords [.busy]) := by
  have huse := (H.keeps (fun u => u.mayUse ⟨x.cls, x.cred, x.perms, none⟩ 1 0x1001) (fun _ => rfl)).trans hu
  have hopen := (H.keeps (fun u => u.stageSet h.session k) (fun _ => rfl)).trans hset
  have hentry :=
    (H.keeps (fun u => u.entryCode ⟨x.cls, x.cred, x.perms, none⟩ 0x1001 2 len v true false) (fun _ => rfl)).trans hcode
  have htr : (s.taken h _ x).transition ≠ 0 := fun h0 => ht ((H.keeps State.transition (fun _ => rfl)).symm.trans h0)
  have hmode : (s.taken h _ x).mode = s.mode := H.keeps State.mode (fun _ => rfl)
  have hbusy := stageValue_modeRequest_busy (w := ⟨x.cls, x.cred, x.perms, none⟩) k len (hmode ▸ hcls) htr
  refine ⟨_, rfl, H.answers ?_ (by decide) (by simp)⟩
  simp [taken_who H.session, huse, hopen, State.stageEntries, State.stageEntry, labOpen_mode, hentry, hbusy]

/-! The counterexample -/

/-- A session of Service class on the mailbox. -/
def transitionReader : Session := { path := 2, cls := 2, cred := 1 }

/-- A READ that it sends. -/
def transitionReadHeader : ReqHdr :=
  { path := 2, version := 1, node := 0, txid := 7, session := 1, counter := 1, length := 64, auth := true, tagOk := true,
    bodyOk := true }

/-- The device in SERVICE at PTP time 0, with that session open and OD 0x1001.06 listed as measured at 1 ns. -/
def transitionMeasured : State :=
  { State.reset with mode := .service, ctl := { sessions := [(1, transitionReader)] }, meas := [(okey 0x1001 6, 1)] }

theorem transitionMeasured_accepts :
    Accepts transitionMeasured transitionReadHeader
      { code := 0x10, req := .read (bareHdr transitionReadHeader) [⟨0x1001, 6⟩], objs := [⟨0x1001, 6⟩], open_ := true }
      transitionReader := by
  constructor <;> decide +kernel

/-- Refutes O56: its first clause gives the instant of the read as CAPTURE in every state, but where the table of measurements
lists OD 0x1001.06 the answer carries the instant listed there (R107), here 1 ns against 0. The clause fails in CAPTURE alone,
and in states that the model's commands do not bring about, since none of them measures this object: the value read is R28's
(`exec_read_transition`, `transition_eq`), and the second clause holds (`exec_stage_modeRequest_busy`). -/
theorem not_transitionStateAndModeRequests : ¬ Obligations.TransitionStateAndModeRequests := by
  rintro ⟨hread, -⟩
  have hm : transitionMeasured.may ⟨transitionReader.cls, transitionReader.cred, transitionReader.perms, none⟩ false 0x1001 6 =
      .ok := by decide +kernel
  obtain ⟨t, ht, hnow⟩ := hread _ _ _ transitionMeasured_accepts hm
  obtain ⟨u, hu, hmeas⟩ := exec_read_transition transitionMeasured_accepts hm
  obtain rfl : t = u := Host.Outcome.next.inj (ht.symm.trans hu)
  have hbody := congrArg Resp.body (Option.some.inj (hnow.symm.trans hmeas))
  exact absurd hbody (by decide +kernel)

end Sys2Proof.Machine
end

