-- ==== Sys2Proof/Proofs/HostAbort.lean ====
section
/-! PROOFS. HostAbort.lean: a host abort of an armed set, before the set's ready point and after it (R60). -/

namespace Sys2Proof.Machine

/-! The ABORT service -/

/-- What ABORT answers to a session, and the machine that it leaves (R60). -/
def abortAnswer (k id : Nat) (t : State) : Answer :=
  if !t.mayUse (t.who id) 1 0x1001 then refuseWith .denied t
  else if !t.holdsArmed id k then refuseWith .noset t
  else if (t.set k).readyPassed || (t.set k).report != 0 || decide ((t.set k).due ≤ t.now + 100000) then refuseWith .late t
  else (some (.ok, []), (t.endSet k 4 2).replySet k)

theorem exec_abort (h : ReqHdr) (k : Nat) (s : State) :
    exec (.abort h k) s = .next (s.request h { code := 0x24, req := .abort (bareHdr h) k } (abortAnswer k)) := rfl

/-- From the ready point on an abort is LATE, and changes nothing. -/
theorem abortAnswer_late {t : State} {k id : Nat} (hu : t.mayUse (t.who id) 1 0x1001 = true) (ha : t.holdsArmed id k = true)
    (hl : (t.set k).readyPassed = true ∨ (t.set k).due ≤ t.now + 100000) : abortAnswer k id t = (some (.late, []), t) := by
  have hlate : ((t.set k).readyPassed || (t.set k).report != 0 || decide ((t.set k).due ≤ t.now + 100000)) = true := by
    rcases hl with hl | hl <;> simp [hl]
  simp only [abortAnswer, hu, ha, hlate, Bool.not_true, Bool.false_eq_true, if_false, if_true, refuseWith]

/-- Before the ready point an abort ends the set, and a COMMIT that still waits is answered. -/
theorem abortAnswer_early {t : State} {k id : Nat} (hu : t.mayUse (t.who id) 1 0x1001 = true) (ha : t.holdsArmed id k = true)
    (hp : (t.set k).readyPassed = false) (hr : (t.set k).report = 0) (hd : t.now + 100000 < (t.set k).due) :
    abortAnswer k id t = (some (.ok, []), (t.endSet k 4 2).replySet k) := by
  have hlate : ((t.set k).readyPassed || (t.set k).report != 0 || decide ((t.set k).due ≤ t.now + 100000)) = false := by
    rw [hp, hr, decide_eq_false (Nat.not_le.2 hd)]
    rfl
  simp only [abortAnswer, hu, ha, hlate, Bool.not_true, Bool.false_eq_true, if_false]

/-- A session that holds an armed set owns it. -/
theorem owner_of_holdsArmed {s : State} {id k : Nat} (h : s.holdsArmed id k = true) : (s.set k).owner = id := by
  simp only [State.holdsArmed, Bool.and_eq_true, beq_iff_eq] at h
  obtain ⟨⟨⟨⟨-, howner⟩, -⟩, -⟩, -⟩ := h
  exact howner

/-! A set while answers leave -/

/-- Set `k` stands as `y`, and the session that owns it has no CLOSE among its unanswered requests, so that no answer ends
that session, which would free a finished set (R51, R104). -/
structure State.Stands (s : State) (k : Nat) (y : StageSet) : Prop where
  set : s.set k = y
  noClose : ∀ x, tget s.ctl.sessions y.owner = some x → ∀ w ∈ x.slots, w.ask.service ≠ 2

section
variable {s : State} {k : Nat} {y : StageSet}

/-- Whatever leaves the sets and the sessions alone leaves a set standing. -/
theorem State.Stands.congr {t : State} (H : s.Stands k y) (h : t.sets = s.sets ∧ t.ctl.sessions = s.ctl.sessions) :
    t.Stands k y :=
  ⟨by rw [← H.set]; simp only [State.set, h.1], by rw [h.2]; exact H.noClose⟩

/-- A change to a session that brings no CLOSE to the owner leaves the set standing. -/
theorem State.Stands.onSession (H : s.Stands k y) (id : Nat) (f : Session → Session)
    (hf : id = y.owner → ∀ x, tget s.ctl.sessions id = some x → ∀ w ∈ (f x).slots, w.ask.service ≠ 2) :
    (s.onSession id f).Stands k y := by
  refine ⟨?_, fun x hx => ?_⟩
  · obtain ⟨l, e⟩ := onSession_frame s id f
    rw [e]
    exact H.set
  · by_cases hid : id = y.owner
    · cases hs : tget s.ctl.sessions id with
      | none =>
        simp only [State.onSession, hs] at hx
        exact H.noClose x hx
      | some z =>
        rw [onSession_some f hs, ← hid] at hx
        obtain rfl := Option.some.inj ((tget_tset_same _ _ _).symm.trans hx)
        exact hf hid z hs
    · rw [onSession_other s f (Ne.symm hid)] at hx
      exact H.noClose x hx

/-- A response that leaves changes no set and no session. -/
theorem send_sets_sessions (s : State) (a : Ask) (n : Nat) (c : Code) (b : List Byte) (auth : Bool) :
    (s.send a n c b auth).sets = s.sets ∧ (s.send a n c b auth).ctl.sessions = s.ctl.sessions := by
  by_cases hp : a.path = 3
  · simp [State.send, hp]
  · obtain ⟨m, i, e⟩ := send_frame s a n c b auth hp
    rw [e]
    exact ⟨rfl, rfl⟩

/-- Steps that leave the stage sets and the control path alone, one after another. -/
theorem foldl_keeps_sets_ctl {α : Type} (l : List α) (g : State → α → State) (s : State)
    (h : ∀ t a, (g t a).sets = t.sets ∧ (g t a).ctl = t.ctl) : (l.foldl g s).sets = s.sets ∧ (l.foldl g s).ctl = s.ctl :=
  ⟨foldl_keeps State.sets l g s fun t a => (h t a).1, foldl_keeps State.ctl l g s fun t a => (h t a).2⟩

theorem ttRemove_sets_ctl (s : State) (p : TtEntry → Bool) : (s.ttRemove p).sets = s.sets ∧ (s.ttRemove p).ctl = s.ctl := by
  unfold State.ttRemove
  refine foldl_keeps_sets_ctl _ _ s fun t j => ?_
  split <;> exact ⟨rfl, rfl⟩

/-- The end of a session that does not own the set leaves it standing (R51, R80). -/
theorem State.Stands.endSession (H : s.Stands k y) {id : Nat} (hid : id ≠ y.owner) : (s.endSession id).Stands k y := by
  unfold State.endSession
  extract_lets s1 gone s2
  have h1 : s1.set k = y ∧ s1.ctl = s.ctl := by
    refine List.foldlRecOn (motive := fun t : State => t.set k = y ∧ t.ctl = s.ctl) setNumbers _ ⟨H.set, rfl⟩
      fun t ht j _ => ?_
    dsimp only
    split
    · exact ht
    · next hj =>
      have hjk : k ≠ j := by
        rintro rfl
        exact hj (.inr (.inl (by rw [ht.1]; exact Ne.symm hid)))
      split
      · exact ⟨by simpa [State.set, tgetD, tget_tset_ne _ _ hjk] using ht.1, ht.2⟩
      · exact ⟨by simpa [State.set, tgetD, tget_tdel_ne _ hjk] using ht.1, ht.2⟩
  have h2 := ttRemove_sets_ctl s1 (fun e => e.kind == 4 && gone.contains e.ref)
  refine ⟨?_, fun x hx => H.noClose x ?_⟩
  · rw [← h1.1]
    simp only [State.set, s2, h2.1]
  · simpa only [s2, h2.2, h1.2, tget_tdel_ne _ (Ne.symm hid)] using hx

/-- Answers that leave in their turn leave a set standing, where none of them answers a CLOSE of its owner (R104). -/
theorem State.Stands.drain (H : s.Stands k y) (id : Nat) (l : List Slot)
    (hl : id = y.owner → ∀ w ∈ l, w.ask.service ≠ 2) : (s.drain id l).Stands k y := by
  induction l generalizing s with
  | nil => exact H.onSession id _ (by simp)
  | cons w r ih =>
    rw [State.drain]
    split
    · exact H.onSession id _ (fun hid _ _ => hl hid)
    · next c b _ =>
      extract_lets n s1
      have H1 : s1.Stands k y := by
        refine State.Stands.congr ?_ (send_sets_sessions _ w.ask n c b true)
        exact H.onSession id _ fun hid x hx => H.noClose x (hid ▸ hx)
      split
      · next hc => exact H1.endSession (fun hid => hl hid w (List.mem_cons_self ..) hc.1)
      · exact ih H1 (fun hid v hv => hl hid v (List.mem_cons_of_mem _ hv))

/-- An answer to any request leaves a set standing whose owner closes nothing (R104–R106). -/
theorem State.Stands.answer (H : s.Stands k y) (a : Ask) (c : Code) (b : List Byte) : (s.answer a c b).Stands k y := by
  unfold State.answer
  split
  · exact H.congr (send_sets_sessions ..)
  · split
    · exact H
    · next x hx =>
      refine State.Stands.drain ?_ _ _ fun hid w hw => ?_
      · exact H.onSession _ _ fun hid z hz => H.noClose z (hid ▸ hz)
      · obtain ⟨v, hv, rfl⟩ := List.mem_map.1 hw
        have hne := H.noClose x (hid ▸ hx) v hv
        split <;> exact hne

/-- A COMMIT that still waits is answered, and its set waits for no answer any more (R111). -/
theorem State.Stands.replySet (H : s.Stands k y) : (s.replySet k).Stands k { y with reply := none } := by
  unfold State.replySet
  rw [H.set]
  dsimp only
  split
  · next hn => rw [← hn]; exact H
  · have H1 : (s.setSet k { y with reply := none }).Stands k { y with reply := none } :=
      ⟨by simp [State.set, tgetD], H.noClose⟩
    split <;> exact H1.answer _ _ _

/-! The end of a set -/

theorem disarmGroups_sets_ctl (s : State) (k : Nat) :
    (s.disarmGroups k).sets = s.sets ∧ (s.disarmGroups k).ctl = s.ctl := by
  unfold State.disarmGroups
  exact foldl_keeps_sets_ctl _ _ s fun _ _ => ⟨rfl, rfl⟩

theorem unbookSet_sets_ctl (s : State) (k : Nat) : (s.unbookSet k).sets = s.sets ∧ (s.unbookSet k).ctl = s.ctl := by
  unfold State.unbookSet
  exact ttRemove_sets_ctl s _

/-- A notice queued to a session leaves its requests as they are. -/
@[simp] theorem push_slots (x : Session) (subid kind time : Nat) (b : List Byte) :
    (x.push subid kind time b).slots = x.slots := by
  simp only [Session.push, apply_ite Session.slots, ite_self]

/-- A set's notice leaves the sets as they are; its owner's session gains a notice at most (R83). -/
theorem State.Stands.setNotice (H : s.Stands k y) (j what : Nat) : (s.setNotice j what).Stands k y := by
  unfold State.setNotice
  extract_lets x s1
  have H1 : s1.Stands k y := by
    unfold s1
    split
    · exact H
    · refine H.onSession _ _ fun hid z hz => ?_
      rw [push_slots]
      exact H.noClose z (hid ▸ hz)
  split
  · exact H
  · exact H1.congr ⟨rfl, rfl⟩

/-- A set that ends stands in its final state with the result ABORTED, and its owner still closes nothing (R60, R79). -/
theorem State.Stands.endSet (H : s.Stands k y) (what reason : Nat) :
    ∃ z, (s.endSet k what reason).Stands k z ∧ z.state = what + 2 ∧ z.result = .aborted := by
  unfold State.endSet State.endSetWith
  extract_lets s0 x s1
  have h0 : s0.sets = s.sets ∧ s0.ctl = s.ctl := by
    obtain ⟨t1, t2⟩ := unbookSet_sets_ctl ((s.unprime k).disarmGroups k) k
    obtain ⟨d1, d2⟩ := disarmGroups_sets_ctl (s.unprime k) k
    exact ⟨t1.trans d1, t2.trans d2⟩
  have h1 : s1.sets = s0.sets ∧ s1.ctl = s0.ctl := foldl_keeps_sets_ctl _ _ s0 fun _ _ => ⟨rfl, rfl⟩
  have hx : x = y := by rw [← H.set]; simp only [x, State.set, h0.1]
  refine ⟨_, State.Stands.setNotice ⟨by simp [State.set, tgetD]; rfl, ?_⟩ k what, rfl, rfl⟩
  rw [setSet_ctl, h1.2, h0.2, hx]
  exact H.noClose

end

/-! An abort at the Gatehouse -/

/-- A service that answers and leaves the machine as it found it: the answer leaves, and whatever does not look at the control
path and its interrupt reads as before. -/
theorem Accepts.answersOnly {s : State} {h : ReqHdr} {v : Service} {x : Session} (H : Accepts s h v x)
    {run : Nat → State → Answer} {c : Code} {b : List Byte} (hr : run h.session (s.taken h v x) = (some (c, b), s.taken h v x))
    (hb : b.length ≤ 1000) (h2 : v.code ≠ 2) :
    (∃ l i, s.request h v run = { s with ctl := l, msix := i }) ∧ Replies (s.request h v run) h x v.code c b := by
  obtain ⟨m, i, l, r, e, hq⟩ := H.replySame rfl c b _ hr (H.small b hb) rfl (fun q => h2 q.1)
  refine ⟨?_, hq⟩
  rw [e, taken_eq H.session]
  unfold State.going
  split <;> exact ⟨_, _, rfl⟩

/-- An accepted request finds a set of its session standing: no other request of the session is unanswered (R104). -/
theorem Accepts.stands {s : State} {h : ReqHdr} {v : Service} {x : Session} (H : Accepts s h v x) {k : Nat}
    (ho : (s.set k).owner = h.session) (h2 : v.code ≠ 2) : (s.taken h v x).Stands k (s.set k) := by
  refine ⟨H.keeps (fun u => u.set k) (fun _ => rfl), fun z hz w hw => ?_⟩
  rw [ho, taken_session H.session] at hz
  obtain rfl := Option.some.inj hz
  obtain rfl : w = { ask := askOf h v } := by simpa [Session.taken, H.idle] using hw
  exact h2

/-- An abort before the ready point succeeds: the set ends as ABORTED. -/
theorem exec_abort_early {s : State} {h : ReqHdr} {x : Session} {k : Nat}
    (H : Accepts s h { code := 0x24, req := .abort (bareHdr h) k } x)
    (hu : s.mayUse ⟨x.cls, x.cred, x.perms, none⟩ 1 0x1001 = true) (ha : s.holdsArmed h.session k = true)
    (hp : (s.set k).readyPassed = false) (hr : (s.set k).report = 0) (hd : s.now + 100000 < (s.set k).due) :
    ∃ t, exec (.abort h k) s = .next t ∧ (t.set k).state = 6 ∧ (t.set k).result = .aborted := by
  have huse := (H.keeps (fun u => u.mayUse ⟨x.cls, x.cred, x.perms, none⟩ 1 0x1001) (fun _ => rfl)).trans hu
  have harm := (H.keeps (fun u => u.holdsArmed h.session k) (fun _ => rfl)).trans ha
  have hset := H.keeps (fun u => u.set k) (fun _ => rfl)
  have hnow := H.keeps State.now (fun _ => rfl)
  have hrun := abortAnswer_early (by rwa [taken_who H.session]) harm (by rwa [hset]) (by rwa [hset]) (by rwa [hset, hnow])
  obtain ⟨z, hz, hstate, hresult⟩ := (H.stands (owner_of_holdsArmed ha) (by simp)).endSet 4 2
  have hend := hz.replySet.answer (askOf h { code := 0x24, req := .abort (bareHdr h) k }) .ok []
  refine ⟨_, exec_abort h k s, ?_⟩
  rw [H.run, hrun]
  dsimp only
  rw [if_neg (Nat.not_lt.2 (H.small [] (by simp))), hend.set]
  exact ⟨hstate, hresult⟩

/-- A later abort is LATE, and changes the control path and its interrupt only. -/
theorem exec_abort_late {s : State} {h : ReqHdr} {x : Session} {k : Nat}
    (H : Accepts s h { code := 0x24, req := .abort (bareHdr h) k } x)
    (hu : s.mayUse ⟨x.cls, x.cred, x.perms, none⟩ 1 0x1001 = true) (ha : s.holdsArmed h.session k = true)
    (hl : (s.set k).readyPassed = true ∨ (s.set k).due ≤ s.now + 100000) :
    ∃ l i, exec (.abort h k) s = .next { s with ctl := l, msix := i } ∧
      Replies { s with ctl := l, msix := i } h x 0x24 .late [] := by
  have huse := (H.keeps (fun u => u.mayUse ⟨x.cls, x.cred, x.perms, none⟩ 1 0x1001) (fun _ => rfl)).trans hu
  have harm := (H.keeps (fun u => u.holdsArmed h.session k) (fun _ => rfl)).trans ha
  have hset := H.keeps (fun u => u.set k) (fun _ => rfl)
  have hnow := H.keeps State.now (fun _ => rfl)
  have hrun := abortAnswer_late (by rwa [taken_who H.session]) harm (by rwa [hset, hnow])
  obtain ⟨⟨l, i, e⟩, hq⟩ := H.answersOnly hrun (by simp) (by simp)
  exact ⟨l, i, (exec_abort h k s).trans (congrArg _ e), e ▸ hq⟩

/-- Settles O57: before the ready point the set ends, and neither the answer to a COMMIT that still waits nor that to the ABORT
moves it; from there on, and once a boundary has decided the set early (log entry 38), ABORT answers LATE and leaves
everything but the control path and its interrupt as it found it. -/
theorem abortsBeforeTheReadyPoint : Obligations.AbortsBeforeTheReadyPoint := by
  refine ⟨fun s h x k H hu ha hp hr hd => exec_abort_early H hu ha hp hr hd, fun s h x k H hu ha hl => ?_⟩
  obtain ⟨l, i, e, hq⟩ := exec_abort_late H hu ha hl
  exact ⟨_, e, rfl, rfl, rfl, rfl, hq⟩

end Sys2Proof.Machine
end

