-- ==== Sys2Proof/Proofs/ClearStore.lean ====
section
/-! PROOFS. ClearStore.lean: CLEAR_STORE invalidates both slots, and a STARTING that finds no slot loads defaults (R97, R98). -/

namespace Sys2Proof.Machine

/-! The CLEAR_STORE service -/

/-- What CLEAR_STORE answers to a session, and the machine that it leaves (R98). -/
def clearStoreAnswer (id : Nat) (t : State) : Answer :=
  if !t.mayUse (t.who id) 2 0x1104 then refuseWith .denied t
  else if t.ctl.storing.isSome then refuseWith .busy t
  else (some (.ok, []), { t with ctl := { t.ctl with slotA := none, slotB := none } })

theorem exec_clearStore (h : ReqHdr) (s : State) :
    exec (.clearStore h) s = .next (s.request h { code := 0x61, req := .clearStore (bareHdr h) } clearStoreAnswer) := rfl

/-- Allowed, and with no STORE under way, it invalidates both slots. -/
theorem clearStoreAnswer_ok {t : State} {id : Nat} (hu : t.mayUse (t.who id) 2 0x1104 = true) (hs : t.ctl.storing = none) :
    clearStoreAnswer id t = (some (.ok, []), { t with ctl := { t.ctl with slotA := none, slotB := none } }) := by
  simp only [clearStoreAnswer, hu, hs, Bool.not_true, Option.isSome_none, Bool.false_eq_true, if_false]

/-- Accepting a request does not touch a STORE under way. -/
theorem taken_storing {s : State} {h : ReqHdr} {v : Service} {x : Session} (hx : tget s.ctl.sessions h.session = some x) :
    (s.taken h v x).ctl.storing = s.ctl.storing := by
  rw [taken_eq hx]
  unfold State.going
  split <;> rfl

/-- No slot holds a stored image. -/
structure State.NoSlots (s : State) : Prop where
  slotA : s.ctl.slotA = none
  slotB : s.ctl.slotB = none

/-- An accepted CLEAR_STORE leaves no slot, and the dictionary as it was. -/
theorem exec_clearStore_accepted {s : State} {h : ReqHdr} {x : Session}
    (H : Accepts s h { code := 0x61, req := .clearStore (bareHdr h) } x)
    (hu : s.mayUse ⟨x.cls, x.cred, x.perms, none⟩ 2 0x1104 = true) (hs : s.ctl.storing = none) :
    ∃ t, exec (.clearStore h) s = .next t ∧ t.NoSlots ∧ t.od = s.od := by
  have huse := (H.keeps (fun u => u.mayUse ⟨x.cls, x.cred, x.perms, none⟩ 2 0x1104) (fun _ => rfl)).trans hu
  have hrun := clearStoreAnswer_ok (by rwa [taken_who H.session]) ((taken_storing H.session).trans hs)
  obtain ⟨m, i, l, r, e, -⟩ := H.replySame rfl .ok [] _ hrun (H.small [] (by simp)) rfl (by simp)
  exact ⟨_, exec_clearStore h s, by rw [e]; exact ⟨rfl, rfl⟩, by rw [e]; exact H.keeps State.od (fun _ => rfl)⟩

/-! Stored objects at their defaults -/

/-- Every stored object reads as its default (R95, R97). -/
def StoredDefaults (od : Tab Val) : Prop :=
  ∀ i j, j < 256 → storedObject i j = true → odGet od i j = odDefault i j

/-- An object that is not stored may be set. -/
theorem StoredDefaults.odSet {od : Tab Val} (H : StoredDefaults od) {a b : Nat} (v : Int) (hb : b < 256)
    (hs : storedObject a b = false) : StoredDefaults (odSet od a b v) := by
  intro i j hj hij
  have hne : okey i j ≠ okey a b := by
    rw [Ne, okey_inj hj hb]
    rintro ⟨rfl, rfl⟩
    exact Bool.noConfusion (hs.symm.trans hij)
  exact (odGet_odPut_ne od (.num v) hne).trans (H i j hj hij)

/-- A counter may advance where neither it nor its wrap flag is stored. -/
theorem StoredDefaults.odBump {od : Tab Val} (H : StoredDefaults od) {i j fi fj : Nat} (hj : j < 256) (hfj : fj < 256)
    (hs : storedObject i j = false) (hf : storedObject fi fj = false) : StoredDefaults (odBump od i j fi fj) := by
  unfold Machine.odBump odCount
  dsimp only
  split
  · exact H.odSet _ hj hs
  · exact (H.odSet _ hj hs).odSet _ hfj hf

/-- What a filter refuses under a key is not found there. -/
theorem tget_filter_of_false {α : Type} {t : Tab α} {p : Nat × α → Bool} {k : Nat} (h : ∀ v, p (k, v) = false) :
    tget (t.filter p) k = none := by
  cases e : tget (t.filter p) k with
  | none => rfl
  | some v =>
    obtain ⟨kv, hmem, rfl, rfl⟩ := tget_find e
    exact Bool.noConfusion ((h kv.2).symm.trans (List.mem_filter.1 hmem).2)

/-- A dictionary that lists no stored object gives each its default. -/
theorem storedDefaults_filter (od : Tab Val) :
    StoredDefaults (od.filter fun kv => !storedObject (kv.1 / 256) (kv.1 % 256)) := by
  intro i j hj hij
  rw [odGet, tget_filter_of_false (fun v => by simp only [okey_div hj, okey_mod hj, hij, Bool.not_true])]
  rfl

/-! STARTING on defaults -/

/-- The machine is in STARTING with every stored object at its default. -/
structure State.StartsOnDefaults (t : State) : Prop where
  mode : t.mode = .starting
  stored : StoredDefaults t.od

section
variable {s : State}

theorem State.StartsOnDefaults.congr {t : State} (H : s.StartsOnDefaults) (hm : t.mode = s.mode) (hod : t.od = s.od) :
    t.StartsOnDefaults :=
  ⟨hm.trans H.mode, hod ▸ H.stored⟩

theorem State.StartsOnDefaults.put (H : s.StartsOnDefaults) {i j : Nat} (v : Int) (hj : j < 256)
    (hs : storedObject i j = false) : (s.put i j v).StartsOnDefaults :=
  ⟨H.mode, H.stored.odSet v hj hs⟩

theorem State.StartsOnDefaults.draw (H : s.StartsOnDefaults) : s.draw.2.StartsOnDefaults := H.congr rfl rfl
theorem State.StartsOnDefaults.act (H : s.StartsOnDefaults) (rank : Nat) : (s.act rank).StartsOnDefaults := H.congr rfl rfl
theorem State.StartsOnDefaults.setLodge (H : s.StartsOnDefaults) (l : Lodge) : (s.setLodge l).StartsOnDefaults := H.congr rfl rfl

/-- An entry for the black box changes its queue, and where that is full the count of discarded entries (R633). -/
theorem log_frame (s : State) (code unit chan : Nat) (v : List Nat) :
    ∃ b, s.log code unit chan v = { s with bb := b } ∨
      s.log code unit chan v = ({ s with bb := b } : State).bump 0x1E00 4 0x1E00 7 := by
  unfold State.log State.bbPush
  dsimp only
  split
  · exact ⟨_, .inl rfl⟩
  · exact ⟨_, .inr rfl⟩

@[simp] theorem log_mode (s : State) (code unit chan : Nat) (v : List Nat) : (s.log code unit chan v).mode = s.mode := by
  obtain ⟨b, e | e⟩ := log_frame s code unit chan v <;> simp only [e, bump_mode]
@[simp] theorem log_ctl (s : State) (code unit chan : Nat) (v : List Nat) : (s.log code unit chan v).ctl = s.ctl := by
  obtain ⟨b, e | e⟩ := log_frame s code unit chan v <;> simp only [e, bump_ctl]

theorem State.StartsOnDefaults.log (H : s.StartsOnDefaults) (code unit chan : Nat) (v : List Nat) :
    (s.log code unit chan v).StartsOnDefaults := by
  refine ⟨(log_mode ..).trans H.mode, ?_⟩
  obtain ⟨b, e | e⟩ := log_frame s code unit chan v
  · rw [e]
    exact H.stored
  · rw [e]
    exact H.stored.odBump (by decide) (by decide) (by decide +kernel) (by decide +kernel)

/-! The slots up to the load -/

theorem State.NoSlots.congr {t : State} (H : s.NoSlots) (h : t.ctl = s.ctl) : t.NoSlots :=
  ⟨h ▸ H.slotA, h ▸ H.slotB⟩

/-- Where there is no slot, no stored image is valid (R97). -/
theorem State.NoSlots.newestStored (H : s.NoSlots) : s.newestStored = none := by
  simp only [State.newestStored, H.slotA, H.slotB, Option.bind_none]

/-- A load that finds no slot gives every stored object its default (R97). -/
theorem State.NoSlots.loadStored (H : s.NoSlots) (hm : s.mode = .starting) : s.loadStored.StartsOnDefaults := by
  have hbare : ({ s with od := s.od.filter fun kv => !storedObject (kv.1 / 256) (kv.1 % 256) } : State).StartsOnDefaults :=
    ⟨hm, storedDefaults_filter s.od⟩
  unfold State.loadStored
  rw [H.newestStored]
  exact ((hbare.draw.draw.put 0 (by decide) (by decide +kernel)).put 0 (by decide) (by decide +kernel)).log ..

/-- Training leaves the mode, and writes objects only that are not stored (R412, R516). -/
theorem State.StartsOnDefaults.beginTraining (H : s.StartsOnDefaults) : s.beginTraining.StartsOnDefaults := by
  have hport : ∀ p ∈ [0, 1, 2, 3], storedObject (0x1950 + p) 1 = false := by decide +kernel
  have hdram : storedObject 0x1801 4 = false := by decide +kernel
  have hlanes : ((List.range laneCount).foldl State.trainLane s).StartsOnDefaults :=
    List.foldlRecOn _ _ H fun _ ht _ _ => ht.congr rfl rfl
  unfold State.beginTraining State.trainLanes
  refine List.foldlRecOn _ _ (List.foldlRecOn _ _ hlanes fun t ht p hp => ?_) fun t ht k _ => ?_
  · dsimp only
    split
    · exact ht.put 1 (by decide) (hport p hp)
    · exact ht
  · exact (ht.congr rfl rfl : ({ t with dram := tset t.dram k { state := 1 } } : State).StartsOnDefaults).put _ (by decide) hdram

/-- An event of the Lodge reaches the sessions or waits in the Lodge (R570), and touches no slot. -/
theorem State.NoSlots.lodgeEvent (H : s.NoSlots) (what source : Nat) (value : Int) :
    (s.lodgeEvent what source value).NoSlots := by
  unfold State.lodgeEvent
  split
  · exact H.congr (setLodge_ctl ..)
  · exact ⟨H.slotA, H.slotB⟩

theorem State.NoSlots.alertLevel (H : s.NoSlots) (rule : Nat) (value : Int) : (s.alertLevel rule value).NoSlots := by
  unfold State.alertLevel
  dsimp only
  split
  · exact H
  · exact (H.congr (setLodge_ctl ..)).lodgeEvent ..

theorem State.NoSlots.rulesInMode (H : s.NoSlots) : s.rulesInMode.NoSlots := by
  unfold State.rulesInMode
  dsimp only
  split
  · exact H
  · exact (H.congr (setLodge_ctl ..)).alertLevel ..

theorem restDram_ctl (s : State) : s.restDram.ctl = s.ctl := by
  unfold State.restDram
  refine foldl_keeps State.ctl _ _ s fun t k => ?_
  dsimp only
  split
  · exact setDch_ctl ..
  · split
    · exact setDch_ctl ..
    · rfl

/-- A transition touches no slot (R24, R34). -/
theorem State.NoSlots.toMode (H : s.NoSlots) (m : Mode) (trigger : Nat) : (s.toMode m trigger).NoSlots := by
  unfold State.toMode
  extract_lets perf s0 s1 s2
  have h0 : s0.ctl = s.ctl := by
    unfold s0
    split <;> rfl
  have h1 : s1.ctl = s0.ctl := log_ctl ..
  have h2 : s2.ctl = s1.ctl := rfl
  exact State.NoSlots.rulesInMode (H.congr ((restDram_ctl s2).trans (h2.trans (h1.trans h0))))

@[simp] theorem sampleStraps_mode (s : State) (x : Straps) : (s.sampleStraps x).mode = s.mode := by
  unfold State.sampleStraps
  dsimp only
  split <;> simp only [log_mode, put_mode]
@[simp] theorem sampleStraps_ctl (s : State) (x : Straps) : (s.sampleStraps x).ctl = s.ctl := by
  unfold State.sampleStraps
  dsimp only
  split <;> simp only [log_ctl, put_ctl]

@[simp] theorem readFuses_mode (s : State) : s.readFuses.mode = s.mode := by
  unfold State.readFuses
  dsimp only
  rw [foldl_keeps State.mode _ _ _ fun _ _ => log_mode .., foldl_keeps State.mode _ _ _ fun _ _ => log_mode ..]
  simp only [put_mode, putVal_mode]
@[simp] theorem readFuses_ctl (s : State) : s.readFuses.ctl = s.ctl := by
  unfold State.readFuses
  dsimp only
  rw [foldl_keeps State.ctl _ _ _ fun _ _ => log_ctl .., foldl_keeps State.ctl _ _ _ fun _ _ => log_ctl ..]
  simp only [put_ctl, putVal_ctl]

theorem State.NoSlots.lodgeCount (H : s.NoSlots) (j : Nat) : (s.lodgeCount j).NoSlots := ⟨H.slotA, H.slotB⟩

/-! The resets -/

/-- STARTING loads the stored image and trains last, and it finds a slot only where there was one (R565, R569). -/
theorem State.NoSlots.beginStarting (H : s.NoSlots) (kind trigger : Nat) (keep : Bool) (straps : Option Straps) :
    (s.beginStarting kind trigger keep straps).StartsOnDefaults := by
  unfold State.beginStarting
  extract_lets s0 l retired clk0 tb0 lanes erased ctl0 lodge0 reset s1 s2 s3 d d2 d2sec s4 e e2 e2sec s5
  have hs0 : s0.NoSlots := H.toMode ..
  have hctl0 : ctl0.slotA = none ∧ ctl0.slotB = none := by
    unfold ctl0
    split
    · exact ⟨rfl, rfl⟩
    · exact ⟨hs0.slotA, hs0.slotB⟩
  have h3 : s3.mode = .starting ∧ s3.ctl = ctl0 := by
    cases straps with
    | none => exact ⟨rfl, rfl⟩
    | some x => exact ⟨sampleStraps_mode s2 x, sampleStraps_ctl s2 x⟩
  have h4 : s4.mode = .starting ∧ s4.ctl = ctl0 :=
    ⟨(readFuses_mode s3).trans h3.1, (readFuses_ctl s3).trans h3.2⟩
  have h5 : s5.mode = .starting ∧ s5.ctl = ctl0 := by
    unfold s5
    split <;> exact h4
  have hs5 : s5.NoSlots := ⟨by rw [h5.2, hctl0.1], by rw [h5.2, hctl0.2]⟩
  exact (hs5.loadStored h5.1).beginTraining

theorem State.NoSlots.firstReset (H : s.NoSlots) (kind trigger : Nat) (straps : Option Straps) :
    (s.firstReset kind trigger straps).StartsOnDefaults := by
  unfold State.firstReset
  exact ((H.beginStarting kind trigger false straps).setLodge _).act 1

/-- A warm reset that none of higher rank drops starts on the defaults too (R565). -/
theorem State.NoSlots.warm (H : s.NoSlots) (hr : s.outranked 3 = false) : s.warm.StartsOnDefaults := by
  unfold State.warm
  rw [if_neg (by simp [hr])]
  exact ((H.lodgeCount 9).beginStarting 2 2 true none).act 3

/-- A pin reset of a device that is powered and not held starts on the defaults (R565). -/
theorem State.NoSlots.pinReset (H : s.NoSlots) (hp : s.lodge.powered = true) (hh : s.lodge.held = false) :
    ∃ t, exec .pinReset s = .next t ∧ t.StartsOnDefaults := by
  have hgo : ¬(s.lodge.powered = false ∨ s.lodge.held = true) := by simp [hp, hh]
  exact ⟨_, if_neg hgo, ((H.lodgeCount 6).firstReset 1 1 none).setLodge _⟩

/-- The resets that carry out STARTING themselves: each leaves the machine as it is, or starts it on the defaults. -/
theorem State.NoSlots.reset_cases (H : s.NoSlots) {c : Instr} {t : State}
    (hc : (∃ p, c = .vinPowerOn p) ∨ (∃ p, c = .lodgeReset p) ∨ ∃ n, c = .watchdogExpiry n) (he : exec c s = .next t) :
    t = s ∨ t.StartsOnDefaults := by
  obtain ⟨x, rfl⟩ | ⟨x, rfl⟩ | ⟨pc, rfl⟩ := hc
  · change execVinPowerOn x s = _ at he
    unfold execVinPowerOn at he
    split at he <;> obtain rfl := Host.Outcome.next.inj he
    · exact .inr (((H.lodgeCount 0x0B).beginStarting ..).act 1)
    · exact .inl rfl
  · change execLodgeReset x s = _ at he
    unfold execLodgeReset at he
    split at he <;> obtain rfl := Host.Outcome.next.inj he
    · exact .inr ((H.lodgeCount 7).firstReset ..)
    · exact .inl rfl
  · change execWatchdogExpiry pc s = _ at he
    unfold execWatchdogExpiry at he
    split at he <;> obtain rfl := Host.Outcome.next.inj he
    · exact .inl rfl
    · exact .inr ((((H.congr (log_ctl ..)).lodgeCount 8).beginStarting ..).act 3)

end

/-! The mode at a request -/

theorem onSession_mode (s : State) (id : Nat) (f : Session → Session) : (s.onSession id f).mode = s.mode := by
  obtain ⟨l, e⟩ := onSession_frame s id f
  rw [e]

theorem send_mode (s : State) (a : Ask) (n : Nat) (c : Code) (b : List Byte) (auth : Bool) :
    (s.send a n c b auth).mode = s.mode := by
  by_cases hp : a.path = 3
  · simp [State.send, hp]
  · obtain ⟨k, i, e⟩ := send_frame s a n c b auth hp
    rw [e, State.answered]

theorem endSession_mode (s : State) (id : Nat) : (s.endSession id).mode = s.mode := by
  unfold State.endSession State.ttRemove
  dsimp only
  rw [foldl_keeps State.mode, foldl_keeps State.mode]
  · intro t k
    split
    · rfl
    · split
      · exact setSet_mode ..
      · exact freeSet_mode ..
  · intro t k
    split
    · exact setTtl_mode ..
    · rfl

theorem drain_mode (s : State) (id : Nat) (l : List Slot) : (s.drain id l).mode = s.mode := by
  induction l generalizing s with
  | nil => exact onSession_mode ..
  | cons w r ih =>
    rw [State.drain]
    split
    · exact onSession_mode ..
    · dsimp only
      split
      · rw [endSession_mode, send_mode, onSession_mode]
      · rw [ih, send_mode, onSession_mode]

theorem answer_mode (s : State) (a : Ask) (c : Code) (b : List Byte) : (s.answer a c b).mode = s.mode := by
  unfold State.answer
  split
  · exact send_mode ..
  · split
    · rfl
    · rw [drain_mode, onSession_mode]

section
variable {run : Nat → State → Answer} (hrun : ∀ id t, (run id t).2.mode = t.mode)
include hrun

theorem serve_mode (s : State) (h : ReqHdr) (a : Ask) (v : Service) : (s.serve h a v run).2.mode = s.mode := by
  unfold State.serve
  dsimp only
  split
  · rfl
  · split
    · rfl
    · split
      · rfl
      · split
        · split
          · rfl
          · exact hrun ..
        · exact hrun ..

theorem accept_mode (s : State) (x : Session) (h : ReqHdr) (a : Ask) (v : Service) : (s.accept x h a v run).mode = s.mode := by
  unfold State.accept
  dsimp only
  split
  · split
    · rw [drain_mode, bump_mode, onSession_mode]
    · rw [onSession_mode, onSession_mode]
  · split
    · rw [drain_mode, onSession_mode]
    · split
      · rw [answer_mode, serve_mode hrun, onSession_mode, onSession_mode]
      · rw [serve_mode hrun, onSession_mode, onSession_mode]

theorem take_mode (s : State) (h : ReqHdr) (v : Service) : (s.take h v run).mode = s.mode := by
  unfold State.take
  dsimp only
  split
  · exact bump_mode ..
  · split
    · split
      · rw [send_mode, serve_mode hrun]
      · exact serve_mode hrun ..
    · split
      · exact bump_mode ..
      · split
        · exact bump_mode ..
        · split
          · exact bump_mode ..
          · exact accept_mode hrun ..

/-- A request whose service leaves the mode as it is leaves it so, taken or not (R33, R100–R106). -/
theorem request_mode (s : State) (h : ReqHdr) (v : Service) : (s.request h v run).mode = s.mode := by
  unfold State.request State.mailGo
  dsimp only
  split
  · rfl
  · split
    · split
      · rfl
      · exact take_mode hrun ..
    · exact take_mode hrun ..

end

theorem settingsWrite_mode (w : Who) (b : List Byte) (bad : List Nat) (s : State) :
    (settingsWrite w b bad s).2.mode = s.mode := by
  unfold settingsWrite
  dsimp only
  split
  · rfl
  · split
    · rfl
    · split <;> rfl

/-- A command object's WRITE leaves the mode as it is: what it commands waits for the tick (R45). -/
theorem writeEntry_mode_of_commandObject (s : State) (w : Who) (path : Nat) (e : WriteEnt) (bad : List Nat)
    (hc : commandObject e.obj.idx e.obj.sub = true) : (s.writeEntry w path e bad).st.mode = s.mode := by
  have hvalue (v : Val) : (s.writeValue w path e.obj.idx e.obj.sub v bad).st.mode = s.mode := by
    unfold State.writeValue
    rw [if_pos hc]
    dsimp only
    split
    · rfl
    · split
      · rfl
      · split
        · rfl
        · split
          · exact settingsWrite_mode ..
          · rfl
  unfold State.writeEntry
  dsimp only
  split
  · split <;> rfl
  · split
    · rfl
    · exact hvalue _

theorem commandObject_warmReset : commandObject 0x1703 1 = true := by decide +kernel

/-- The warm-reset command only asks: its reset comes with the tick (R45, R565). -/
theorem exec_warmReset_mode {s t : State} {h : ReqHdr} {v : Nat} (he : exec (.warmReset h v) s = .next t) : t.mode = s.mode := by
  obtain rfl : s.writeCommand h 0x1703 1 1 (.num v) [] = t := Host.Outcome.next.inj he
  exact request_mode (fun id u => writeEntry_mode_of_commandObject u (u.who id) h.path _ [] commandObject_warmReset) s h _

/-- Settles O58: CLEAR_STORE leaves no slot and the dictionary as it was; a STARTING without a slot lists no stored object, and
whatever it writes after the load is not stored. The command WARM_RESET does not enter STARTING itself; its tick does
(`State.NoSlots.warm`). -/
theorem clearStoreInvalidatesBothSlots : Obligations.ClearStoreInvalidatesBothSlots := by
  refine ⟨fun s h x H hu hs => ?_, fun s hp hh ha hb => ?_, fun s t c hc ha hb hm he ht => ?_⟩
  · obtain ⟨t, e, hn, hod⟩ := exec_clearStore_accepted H hu hs
    exact ⟨t, e, hn.slotA, hn.slotB, hod⟩
  · obtain ⟨t, e, hstart⟩ := State.NoSlots.pinReset ⟨ha, hb⟩ hp hh
    exact ⟨t, e, hstart.mode, hstart.stored⟩
  · have hreset (hc' : (∃ p, c = .vinPowerOn p) ∨ (∃ p, c = .lodgeReset p) ∨ ∃ n, c = .watchdogExpiry n) :
        StoredDefaults t.od := by
      obtain rfl | hstart := State.NoSlots.reset_cases ⟨ha, hb⟩ hc' he
      · exact absurd ht hm
      · exact hstart.stored
    obtain hvin | hlodge | hdog | ⟨h, v, rfl⟩ := hc
    · exact hreset (.inl hvin)
    · exact hreset (.inr (.inl hlodge))
    · exact hreset (.inr (.inr hdog))
    · exact absurd ((exec_warmReset_mode he).symm.trans ht) hm

end Sys2Proof.Machine
end

