-- ==== Sys2Proof/Proofs/DramRates.lean ====
section
/-! PROOFS. DramRates.lean: a channel's refresh rate state, and what a rise of it forbids (R510–R512). -/

namespace Sys2Proof.Machine

/-! Objects that a DRAM channel's commands leave alone -/

theorem num_bump_ne (s : State) {i j fi fj a b : Nat} (h : okey a b ≠ okey i j) (k : okey a b ≠ okey fi fj) :
    (s.bump i j fi fj).num a b = s.num a b := by
  unfold State.num
  simp only [bump_od, odBump, odCount]
  split
  · rw [odNum_odSet_ne _ _ h]
  · rw [odSetFlag, odNum_odSet_ne _ _ k, odNum_odSet_ne _ _ h]

/-- The controller's settings, OD 0x1800, are no other object. -/
theorem okey_dramSetting_ne {i j a : Nat} (hi : 0x1801 ≤ i) (ha : a < 256) : okey 0x1800 a ≠ okey i j := by
  unfold okey
  omega

/-- `t` is `s` but for channel `k`, as far as the rates are concerned: the board input, the controller's settings and the
other channels are those of `s`. -/
structure State.RatesBut (s t : State) (k : Nat) : Prop where
  board : t.board = s.board
  settings : ∀ a, a < 256 → t.num 0x1800 a = s.num 0x1800 a
  others : ∀ j, j ≠ k → t.dch j = s.dch j

theorem State.RatesBut.refl (s : State) (k : Nat) : s.RatesBut s k := ⟨rfl, fun _ _ => rfl, fun _ _ => rfl⟩

theorem State.RatesBut.trans {s t u : State} {k : Nat} (H : s.RatesBut t k) (G : t.RatesBut u k) : s.RatesBut u k :=
  ⟨G.board.trans H.board, fun a ha => (G.settings a ha).trans (H.settings a ha),
    fun j hj => (G.others j hj).trans (H.others j hj)⟩

theorem ratesBut_setDch (s : State) (k : Nat) (c : DramChan) : s.RatesBut (s.setDch k c) k :=
  ⟨rfl, fun _ ha => num_put_ne _ _ (okey_dramSetting_ne (by decide) ha), fun j hj => by rw [dch_setDch, if_neg hj]⟩

theorem ratesBut_put (s : State) (k : Nat) {i : Nat} (j : Nat) (v : Int) (hi : 0x1801 ≤ i) : s.RatesBut (s.put i j v) k :=
  ⟨rfl, fun _ ha => num_put_ne _ _ (okey_dramSetting_ne hi ha), fun _ _ => rfl⟩

theorem ratesBut_dramBump (s : State) (k j : Nat) : s.RatesBut (s.dramBump j) k :=
  ⟨rfl, fun _ ha => num_bump_ne _ (okey_dramSetting_ne (by decide) ha) (okey_dramSetting_ne (by decide) ha), fun _ _ => rfl⟩

theorem ratesBut_dramEvent (s : State) (k what source value : Nat) : s.RatesBut (s.dramEvent what source value) k :=
  ⟨rfl, fun _ _ => rfl, fun _ _ => rfl⟩

theorem ratesBut_measure (s : State) (k : Nat) {i : Nat} (j : Nat) (v : Int) (at_ : Nat) (hi : 0x1801 ≤ i) :
    s.RatesBut (s.measure i j v at_) k :=
  ⟨rfl, fun _ ha => num_put_ne _ _ (okey_dramSetting_ne hi ha), fun _ _ => rfl⟩

@[simp] theorem dramEvent_dch (s : State) (what source value k : Nat) :
    (s.dramEvent what source value).dch k = s.dch k := rfl
@[simp] theorem dramBump_dch (s : State) (j k : Nat) : (s.dramBump j).dch k = s.dch k := rfl
@[simp] theorem perfAdd_dch (s : State) (ev qual n k : Nat) : (s.perfAdd ev qual n).dch k = s.dch k := rfl

/-! One step of the rate state (R511, R512) -/

/-- The board input reads below the threshold less the hysteresis (R512). -/
def State.Cool (s : State) : Prop := s.board < s.num 0x1800 9 - s.num 0x1800 0x0A

theorem State.RatesBut.cool {s t : State} {k : Nat} (H : s.RatesBut t k) : t.Cool ↔ s.Cool := by
  unfold State.Cool
  rw [H.board, H.settings 9 (by decide), H.settings 0x0A (by decide)]

/-- A channel's rate state rises a step, which forbids postponement and pull-in. -/
structure DramChan.Rises (c d : DramChan) : Prop where
  m : d.m = 2 * c.m
  forbid : d.forbid = true
  mr4 : d.mr4 = c.mr4

/-- A channel's rate state falls a step: its two latest MR4 reads report a lower rate, and nothing else of it changes. -/
structure DramChan.Falls (c d : DramChan) : Prop where
  latest : c.mr4.1 < c.m
  before : c.mr4.2 < c.m
  chan : d = { c with m := c.m / 2, forbid := c.m / 2 != 1 }

/-- What a step of the rate state can do: nothing, a rise that keeps the machine's other readings, or a fall, where the
board is cool (R512). -/
theorem rateStep_cases (s : State) (k : Nat) :
    s.rateStep k = s ∨
      (s.RatesBut (s.rateStep k) k ∧
        ((s.dch k).Rises ((s.rateStep k).dch k) ∨ s.Cool ∧ (s.dch k).Falls ((s.rateStep k).dch k))) := by
  unfold State.rateStep
  extract_lets c want m owed c1 s1
  split
  · exact .inl rfl
  · split
    · have hs1 : s.RatesBut s1 k := (ratesBut_setDch s k c1).trans (ratesBut_dramEvent ..)
      have hrise : c.Rises (s1.dch k) := by
        have hd : s1.dch k = c1 := by simp [s1, dch_setDch]
        exact ⟨by rw [hd], by rw [hd], by rw [hd]⟩
      split
      · exact .inr ⟨hs1.trans (ratesBut_put s1 k 3 _ (by decide)), .inl hrise⟩
      · exact .inr ⟨hs1, .inl hrise⟩
    · split
      · next hfall =>
        obtain ⟨-, hcool, h1, h2⟩ := hfall
        exact .inr ⟨(ratesBut_setDch ..).trans (ratesBut_dramEvent ..),
          .inr ⟨hcool, h1, h2, by rw [dramEvent_dch, dch_setDch, if_pos rfl]⟩⟩
      · exact .inl rfl

theorem ratesBut_rateStep (s : State) (k : Nat) : s.RatesBut (s.rateStep k) k := by
  obtain h | ⟨h, -⟩ := rateStep_cases s k
  · rw [h]
    exact .refl s k
  · exact h

/-- What R512 says of a channel `c` that a command leaves as `d`: a rise forbids postponement and pull-in, which stay forbidden
while the rate state stands, and a fall asks for a cool board and two lower MR4 reads, and moves one step. -/
def DramChan.RateRule (c d : DramChan) (cool : Prop) : Prop :=
  (c.m < d.m → d.forbid = true) ∧
  (d.m = c.m → c.forbid = true → d.forbid = true) ∧
  (d.m < c.m → cool ∧ d.mr4.1 < c.m ∧ d.mr4.2 < c.m ∧ d.m = c.m / 2 ∧ d.debt = c.debt ∧ d.credit = c.credit ∧
    (d.m = 1 → d.forbid = false))

section
variable {c d : DramChan} {cool : Prop}

theorem DramChan.RateRule.of_same (hm : d.m = c.m) (hf : d.forbid = c.forbid) : c.RateRule d cool :=
  ⟨fun h => absurd h (by omega), fun _ h => hf.trans h, fun h => absurd h (by omega)⟩

theorem DramChan.RateRule.of_forbid (hm : c.m ≤ d.m) (hf : d.forbid = true) : c.RateRule d cool :=
  ⟨fun _ => hf, fun _ _ => hf, fun h => absurd h (by omega)⟩

/-- The rule looks at the rate state, the prohibition, the debt and the credit alone. -/
theorem DramChan.RateRule.congr {c' : DramChan} (hm : c'.m = c.m) (hf : c'.forbid = c.forbid) (hd : c'.debt = c.debt)
    (hc : c'.credit = c.credit) (H : c'.RateRule d cool) : c.RateRule d cool := by
  unfold DramChan.RateRule at *
  rwa [hm, hf, hd, hc] at H

theorem DramChan.RateRule.imp {cool' : Prop} (h : cool → cool') (H : c.RateRule d cool) : c.RateRule d cool' :=
  let ⟨hrise, hstand, hfall⟩ := H
  ⟨hrise, hstand, fun hlt => (hfall hlt).imp_left h⟩

theorem DramChan.Falls.rateRule (H : c.Falls d) (hc : cool) : c.RateRule d cool := by
  have hlow : c.m / 2 < c.m := by have := H.latest; omega
  rw [H.chan]
  refine ⟨fun h => absurd h ?_, fun h => absurd h ?_, fun _ => ⟨hc, H.latest, H.before, rfl, rfl, rfl, fun h => ?_⟩⟩
  · exact Nat.not_lt.2 (Nat.le_of_lt hlow)
  · exact Nat.ne_of_lt hlow
  · simpa using h

end

/-- A step of the rate state follows R512. -/
theorem rateStep_rateRule (s : State) (k : Nat) : (s.dch k).RateRule ((s.rateStep k).dch k) s.Cool := by
  obtain h | ⟨-, hrise | ⟨hcool, hfall⟩⟩ := rateStep_cases s k
  · rw [h]
    exact .of_same rfl rfl
  · exact .of_forbid (by have := hrise.m; omega) hrise.forbid
  · exact hfall.rateRule hcool

theorem rateStep_mr4 (s : State) (k : Nat) : ((s.rateStep k).dch k).mr4 = (s.dch k).mr4 := by
  obtain h | ⟨-, hrise | ⟨-, hfall⟩⟩ := rateStep_cases s k
  · rw [h]
  · exact hrise.mr4
  · rw [hfall.chan]

/-- While the latest MR4 read reports a higher rate, a step does not lower the rate state and keeps what is forbidden. -/
theorem rateStep_of_lt_mr4 {s : State} {k : Nat} (h : (s.dch k).m < (s.dch k).mr4.1) (hf : (s.dch k).forbid = true) :
    (s.dch k).m ≤ ((s.rateStep k).dch k).m ∧ ((s.rateStep k).dch k).forbid = true := by
  obtain hs | ⟨-, hrise | ⟨-, hfall⟩⟩ := rateStep_cases s k
  · rw [hs]
    exact ⟨Nat.le_refl _, hf⟩
  · exact ⟨by have := hrise.m; omega, hrise.forbid⟩
  · exact absurd hfall.latest (Nat.lt_asymm h)

/-! The commands that step it -/

/-- Every channel follows R512 from `s` to `t`, by the board input that `t` has read. -/
def State.RatesFollow (s t : State) : Prop :=
  ∀ k, (s.dch k).RateRule (t.dch k) (t.board < s.num 0x1800 9 - s.num 0x1800 0x0A)

theorem State.RatesFollow.refl (s : State) : s.RatesFollow s := fun _ => .of_same rfl rfl

/-- Where one channel alone moves, R512 is that channel's. -/
theorem State.RatesBut.follow {s t : State} {k : Nat} (H : s.RatesBut t k) (hk : (s.dch k).RateRule (t.dch k) s.Cool) :
    s.RatesFollow t := by
  intro j
  by_cases hj : j = k
  · subst hj
    rw [H.board]
    exact hk
  · rw [H.others j hj]
    exact .of_same rfl rfl

/-- A command that leaves a channel's rate state, debt and credit as they are, and then steps it, follows R512. -/
theorem State.RatesBut.step_rateRule {s u : State} {k : Nat} (H : s.RatesBut u k) (hm : (u.dch k).m = (s.dch k).m)
    (hf : (u.dch k).forbid = (s.dch k).forbid) (hd : (u.dch k).debt = (s.dch k).debt)
    (hc : (u.dch k).credit = (s.dch k).credit) : (s.dch k).RateRule ((u.rateStep k).dch k) s.Cool :=
  ((rateStep_rateRule u k).congr hm hf hd hc).imp H.cool.1

/-- MR4_READ may step the rate state twice: the second step follows a rise alone, and the rate just read keeps it from
falling. -/
theorem exec_mr4Read_follows {s t : State} {d v r : Nat} (he : exec (.mr4Read d v r) s = .next t) : s.RatesFollow t := by
  change execMr4Read d v r s = .next t at he
  unfold execMr4Read at he
  split at he
  · cases he
  · extract_lets c rate s1 s2 at he
    have hs1 : s.RatesBut s1 d := (ratesBut_measure s d 2 _ _ (by omega)).trans (ratesBut_setDch ..)
    have hc1 : s1.dch d = { c with mr4 := (rate, c.mr4.1) } := by rw [dch_setDch, if_pos rfl]
    have hs2 : s.RatesBut s2 d := hs1.trans (ratesBut_rateStep s1 d)
    have hrule : c.RateRule (s2.dch d) s.Cool :=
      hs1.step_rateRule (by rw [hc1]) (by rw [hc1]) (by rw [hc1]) (by rw [hc1])
    cases he
    split
    · next h =>
      obtain ⟨hrise, hmore⟩ := h
      obtain ⟨hforbid, -, -⟩ := hrule
      have hrate : (s2.dch d).mr4.1 = rate := by rw [rateStep_mr4, hc1]
      obtain ⟨hm, hf⟩ := rateStep_of_lt_mr4 (hrate.symm ▸ hmore) (hforbid hrise)
      exact (hs2.trans (ratesBut_rateStep s2 d)).follow (.of_forbid (Nat.le_trans (Nat.le_of_lt hrise) hm) hf)
    · exact hs2.follow hrule

/-- A round of steps leaves the channels that it does not visit, the board input and the settings. -/
theorem foldl_rateStep_frame {l : List Nat} (s : State) {k : Nat} (hk : k ∉ l) :
    (l.foldl State.rateStep s).dch k = s.dch k := by
  induction l generalizing s with
  | nil => rfl
  | cons a l ih =>
    obtain ⟨hka, hkl⟩ := List.ne_and_not_mem_of_not_mem_cons hk
    exact (ih (s.rateStep a) hkl).trans ((ratesBut_rateStep s a).others k hka)

/-- A round that steps each channel at most once follows R512. -/
theorem foldl_rateStep_rateRule {l : List Nat} (hl : l.Nodup) (s : State) (k : Nat) :
    (s.dch k).RateRule ((l.foldl State.rateStep s).dch k) s.Cool := by
  induction l generalizing s with
  | nil => exact .of_same rfl rfl
  | cons a l ih =>
    obtain ⟨hal, hl⟩ := List.nodup_cons.1 hl
    have ha := ratesBut_rateStep s a
    rw [List.foldl_cons]
    by_cases hka : k = a
    · subst hka
      rw [foldl_rateStep_frame _ hal]
      exact rateStep_rateRule s k
    · rw [← ha.others k hka]
      exact (ih hl (s.rateStep a)).imp ha.cool.1

theorem exec_boardTemperatureChange_follows {s t : State} {b : Int} (he : exec (.boardTemperatureChange b) s = .next t) :
    s.RatesFollow t := by
  obtain rfl : (List.range 16).foldl State.rateStep { s with board := b } = t := Host.Outcome.next.inj he
  intro k
  rw [foldl_keeps State.board _ _ _ fun u j => (ratesBut_rateStep u j).board]
  exact foldl_rateStep_rateRule List.nodup_range { s with board := b } k

theorem exec_debtPaymentComplete_follows {s t : State} {d : Nat} (he : exec (.debtPaymentComplete d) s = .next t) :
    s.RatesFollow t := by
  change execDebtPaymentComplete d s = .next t at he
  unfold execDebtPaymentComplete at he
  split at he
  · cases he
  · extract_lets c s1 at he
    split at he
    · have hs1 : s.RatesBut s1 d := ((ratesBut_setDch ..).trans (ratesBut_dramBump ..)).trans (ratesBut_dramEvent ..)
      have hc1 : s1.dch d = { c with state := 2, paying := 0 } := by
        rw [dramEvent_dch, dramBump_dch, dch_setDch, if_pos rfl]
      cases he
      exact (hs1.trans (ratesBut_rateStep s1 d)).follow
        (hs1.step_rateRule (by rw [hc1]) (by rw [hc1]) (by rw [hc1]) (by rw [hc1]))
    · cases he
      exact .refl s

/-! While postponement and pull-in are forbidden (R510, R512) -/

/-- A channel's rate state, prohibition and credit are those of another. -/
structure DramChan.SameRates (c d : DramChan) : Prop where
  m : d.m = c.m
  forbid : d.forbid = c.forbid
  credit : d.credit = c.credit

section
variable {c d : DramChan}

theorem DramChan.SameRates.trans {e : DramChan} (H : c.SameRates d) (G : d.SameRates e) : c.SameRates e :=
  ⟨G.m.trans H.m, G.forbid.trans H.forbid, G.credit.trans H.credit⟩

theorem arrive_sameRates (c : DramChan) (cfg : Nat × Nat × Bool × Nat) (r : MemReq) : c.SameRates (c.arrive cfg r) := by
  unfold DramChan.arrive
  dsimp only
  split <;> exact ⟨rfl, rfl, rfl⟩

theorem foldl_arrive_sameRates (c : DramChan) (cfg : Nat × Nat × Bool × Nat) (l : List MemReq) :
    c.SameRates (l.foldl (fun c r => c.arrive cfg r) c) :=
  List.foldlRecOn (motive := c.SameRates) l _ ⟨rfl, rfl, rfl⟩ fun b hb r _ => hb.trans (arrive_sameRates b cfg r)

/-- A command that changes nothing of the rates leaves them, whatever it was picked for. -/
theorem sameRates_of_map {α : Type} {o : Option α} {f : α → DramChan} (h : o.map f = some d) (hf : ∀ a, c.SameRates (f a)) :
    c.SameRates d := by
  obtain ⟨a, -, rfl⟩ := Option.map_eq_some_iff.1 h
  exact hf a

/-- The same for a command that issues under a condition. -/
theorem sameRates_of_guarded {α : Type} {p : Prop} [Decidable p] {o : Option α} {f : α → DramChan}
    (h : (if p then o.map f else none) = some d) (hf : ∀ a, c.SameRates (f a)) : c.SameRates d := by
  split at h
  · exact sameRates_of_map h hf
  · cases h

theorem rule1_sameRates {timed unit : Nat} (h : c.rule1 timed unit = some d) : c.SameRates d :=
  sameRates_of_guarded h fun _ => ⟨rfl, rfl, rfl⟩

theorem rule2_sameRates {timed unit : Nat} (h : c.rule2 timed unit = some d) : c.SameRates d :=
  sameRates_of_guarded h fun _ => ⟨rfl, rfl, rfl⟩

theorem rule3_sameRates {cfg : Nat × Nat × Bool × Nat} {timed : Nat} (h : c.rule3 cfg timed = some d) : c.SameRates d :=
  sameRates_of_map h fun _ => ⟨rfl, rfl, rfl⟩

theorem rule4_sameRates {cfg : Nat × Nat × Bool × Nat} {timed : Nat} (h : c.rule4 cfg timed = some d) : c.SameRates d :=
  sameRates_of_map h fun _ => ⟨rfl, rfl, rfl⟩

theorem rule5_sameRates {cfg : Nat × Nat × Bool × Nat} {policy timed : Nat} (h : c.rule5 cfg policy timed = some d) :
    c.SameRates d :=
  sameRates_of_map h fun _ => ⟨rfl, rfl, rfl⟩

theorem rule6_sameRates {s : State} {timed unit : Nat} (h : s.rule6 c timed unit = some d) : c.SameRates d :=
  sameRates_of_guarded h fun _ => ⟨rfl, rfl, rfl⟩

/-- Rule 7 issues a refresh management. -/
theorem rule7_sameRates {rfm : Bool} (h : (if rfm then some { c with cmd := some (7, 0) } else none) = some d) :
    c.SameRates d := by
  obtain ⟨-, ⟨⟩⟩ := Option.ite_none_right_eq_some.1 h
  exact ⟨rfl, rfl, rfl⟩

/-- Where pull-in is forbidden no refresh is pulled in. -/
theorem pullIn_of_forbid (hf : c.forbid = true) (timed unit ranks : Nat) : c.pullIn timed unit ranks = none := by
  unfold DramChan.pullIn
  exact if_neg (by simp [hf])

/-- Where postponement is forbidden no due refresh is postponed. -/
theorem postpones_of_forbid (s : State) (hf : c.forbid = true) (rank : Nat) : s.postpones c rank = false := by
  simp [State.postpones, hf]

/-- The first of some commands keeps the rates where each of them does. -/
theorem sameRates_of_findSome? {l : List (Option DramChan)} {e : DramChan} (hl : ∀ o ∈ l, ∀ d, o = some d → c.SameRates d)
    (he : c.SameRates e) : c.SameRates ((l.findSome? id).getD e) := by
  cases h : l.findSome? id with
  | none => exact he
  | some d =>
    obtain ⟨o, ho, hd⟩ := List.exists_of_findSome?_eq_some h
    exact hl o ho d hd

/-- A cycle of a channel that forbids pull-in leaves its rate state, the prohibition and its credit as they are. -/
theorem cycle_sameRates (s : State) (hf : c.forbid = true) (timed : Nat) (rfm : Bool) :
    c.SameRates (s.cycle c timed rfm) := by
  refine sameRates_of_findSome? ?_ ⟨rfl, rfl, rfl⟩
  simp only [List.forall_mem_cons, pullIn_of_forbid hf]
  exact ⟨fun _ => rule1_sameRates, fun _ => rule2_sameRates, fun _ => rule3_sameRates, fun _ => rule4_sameRates,
    fun _ => rule5_sameRates, fun _ => rule6_sameRates, fun _ => rule7_sameRates, nofun, nofun⟩

/-- A cycle of a channel in service that forbids postponement, and for which rules 3 to 5 yield no command, issues the refresh
owed that timing allows first: by rule 2 where the debt is past 8, and else by rule 6. -/
theorem cycle_issues_owed {s : State} {timed b : Nat} (rfm : Bool) (hs : c.state = 2) (hf : c.forbid = true)
    (h3 : c.column s.dramCfg timed = none) (h4 : c.activate timed (max 1 s.dramCfg.2.1) = none)
    (h5 : c.precharge s.dramCfg (s.nat 0x1800 7) timed = none) (hd : s.refreshUnit ≤ c.debt)
    (hb : c.nextRefresh timed s.refreshUnit (fun _ => true) = some b) :
    s.cycle c timed rfm =
      { c.pay s.refreshUnit b (if 128 < c.debt then 2 else 6) with debt := c.debt - s.refreshUnit } := by
  have h1 : c.rule1 timed s.refreshUnit = none := if_neg (by simp [hs])
  have hpost : (fun x => !s.postpones c (x / 16)) = fun _ => true := by
    funext x
    simp [postpones_of_forbid s hf]
  unfold State.cycle
  by_cases hdebt : 128 < c.debt
  · simp [h1, DramChan.rule2, hdebt, hb]
  · have h2 : c.rule2 timed s.refreshUnit = none := if_neg hdebt
    have h3 : c.rule3 s.dramCfg timed = none := Option.map_eq_none_iff.2 h3
    have h4 : c.rule4 s.dramCfg timed = none := Option.map_eq_none_iff.2 h4
    have h5 : c.rule5 s.dramCfg (s.nat 0x1800 7) timed = none := Option.map_eq_none_iff.2 h5
    simp [h1, h2, h3, h4, h5, State.rule6, hdebt, hd, hpost, hb]

end

/-! DRAM_COMMAND_CYCLE and REFRESH_DUE -/

/-- Channel `k` once the requests of a cycle have come to its bank queues (R504). -/
def State.arrived (s : State) (k : Nat) (l : List MemReq) : DramChan :=
  let mine := l.filter (fun r => decide (r.addr < 4 * regionBytes s.dramCfg) && (dramPlace s.dramCfg r.addr).dch == k)
  let c := ((s.dch k).fabric ++ mine).foldl (fun c r => c.arrive s.dramCfg r) { s.dch k with fabric := [] }
  if mine.any (fun r => r.cls == 3) then { c with woke := s.now } else c

theorem arrived_sameRates (s : State) (k : Nat) (l : List MemReq) : (s.dch k).SameRates (s.arrived k l) := by
  have hfold (l : List MemReq) := foldl_arrive_sameRates { s.dch k with fabric := [] } s.dramCfg l
  unfold State.arrived
  dsimp only
  split <;> exact ⟨(hfold _).m, (hfold _).forbid, (hfold _).credit⟩

/-- With nothing on the fabric and no arrivals the channel is as it was. -/
theorem arrived_nil {s : State} {k : Nat} (h : (s.dch k).fabric = []) : s.arrived k [] = s.dch k := by
  simp only [State.arrived, h, List.filter_nil, List.append_nil, List.foldl_nil, List.any_nil, Bool.false_eq_true, if_false]
  rw [← h]

/-- The channel cannot issue a command: it rests, trains or is in its retraining window (R505, R517). -/
def DramChan.Idles (c : DramChan) (now : Nat) : Prop := c.state ≠ 2 ∧ c.state ≠ 6 ∨ c.inWindow now = true

/-- What DRAM_COMMAND_CYCLE makes of its channel: an idle cycle, or the command of the cycle and the ranks' idle times. -/
theorem exec_dramCommandCycle_cases (s : State) (k : Nat) (l : List MemReq) (timed : Nat) (rfm : Bool) :
    exec (.dramCommandCycle k l timed rfm) s = .fault .noSuchUnit ∧ (16 ≤ k ∨ l.any (fun r => decide (4 ≤ r.cls)) = true) ∨
      ∃ t, exec (.dramCommandCycle k l timed rfm) s = .next t ∧
        ((s.arrived k l).Idles s.now ∧ t.dch k = { s.arrived k l with cmd := none } ∨
          ¬(s.arrived k l).Idles s.now ∧ ∃ idle, t.dch k = { s.cycle (s.arrived k l) timed rfm with idle := idle }) := by
  change execDramCommandCycle k l timed rfm s = _ ∧ _ ∨ ∃ t, execDramCommandCycle k l timed rfm s = _ ∧ _
  unfold execDramCommandCycle
  split
  · next h => exact .inl ⟨rfl, h⟩
  · extract_lets mine d c0 c1 c2 ranks idle event s1
    refine .inr ?_
    split
    · next h => exact ⟨_, rfl, .inl ⟨h, by rw [dch_setDch, if_pos rfl]; rfl⟩⟩
    · next h =>
      refine ⟨_, rfl, .inr ⟨h, idle, ?_⟩⟩
      have hs1 : s1.dch k = { c2 with idle := idle } := by rw [perfAdd_dch, dch_setDch, if_pos rfl]
      split
      · rw [dramBump_dch, hs1]; rfl
      · rw [hs1]; rfl

/-- A cycle takes no credit and none of what is forbidden from a channel that forbids postponement and pull-in. -/
theorem exec_dramCommandCycle_sameRates {s t : State} {k : Nat} {l : List MemReq} {timed : Nat} {rfm : Bool}
    (hf : (s.dch k).forbid = true) (he : exec (.dramCommandCycle k l timed rfm) s = .next t) :
    (s.dch k).SameRates (t.dch k) := by
  have ha := arrived_sameRates s k l
  obtain ⟨hfault, -⟩ | ⟨u, hu, hcase⟩ := exec_dramCommandCycle_cases s k l timed rfm
  · rw [hfault] at he
    cases he
  · obtain rfl : u = t := Host.Outcome.next.inj (hu.symm.trans he)
    obtain ⟨-, hidle⟩ | ⟨-, idle, hcycle⟩ := hcase
    · rw [hidle]
      exact ⟨ha.m, ha.forbid, ha.credit⟩
    · have hc := ha.trans (cycle_sameRates s (ha.forbid.trans hf) timed rfm)
      rw [hcycle]
      exact ⟨hc.m, hc.forbid, hc.credit⟩

/-- A refresh that falls due leaves the rate state and what is forbidden, and can only use up credit. -/
theorem exec_refreshDue_rates {s t : State} {k r b : Nat} (he : exec (.refreshDue k r b) s = .next t) :
    (t.dch k).forbid = (s.dch k).forbid ∧ (t.dch k).m = (s.dch k).m ∧ (t.dch k).credit ≤ (s.dch k).credit := by
  change execRefreshDue k r b s = .next t at he
  unfold execRefreshDue at he
  dsimp only at he
  split at he
  · cases he
  · split at he
    · cases he
      exact ⟨rfl, rfl, Nat.le_refl _⟩
    · split at he
      · cases he
        rw [dch_setDch, if_pos rfl]
        exact ⟨rfl, rfl, Nat.sub_le ..⟩
      · cases he
        rw [dch_setDch, if_pos rfl]
        exact ⟨rfl, rfl, Nat.le_refl _⟩

/-- A cycle without arrivals of a channel in service is the cycle of the channel as it stands. -/
theorem exec_dramCommandCycle_served {s : State} {k : Nat} (timed : Nat) (rfm : Bool) (hk : k < 16) (hs : (s.dch k).state = 2)
    (hfab : (s.dch k).fabric = []) (hw : (s.dch k).inWindow s.now = false) :
    ∃ t idle, exec (.dramCommandCycle k [] timed rfm) s = .next t ∧
      t.dch k = { s.cycle (s.dch k) timed rfm with idle := idle } := by
  have hrun : ¬(s.dch k).Idles s.now := by simp [DramChan.Idles, hs, hw]
  obtain ⟨-, hk' | hcls⟩ | ⟨t, ht, hcase⟩ := exec_dramCommandCycle_cases s k [] timed rfm
  · exact absurd hk (Nat.not_lt.2 hk')
  · cases hcls
  · rw [arrived_nil hfab] at hcase
    obtain ⟨hidle, -⟩ | ⟨-, idle, hcycle⟩ := hcase
    · exact absurd hidle hrun
    · exact ⟨t, idle, ht, hcycle⟩

/-- Settles O59: the rate commands move a channel by steps that follow R512 (`rateStep_rateRule`); a channel that forbids
postponement and pull-in only uses up its credit, and its cycles issue what is owed (`cycle_issues_owed`). -/
theorem ratesFallUnderBothConditions : Obligations.RatesFallUnderBothConditions := by
  refine ⟨fun s t k c hc he => ?_, fun s t k c hc hf he => ?_, fun s k timed b rfm hk hs hf hfab hw h3 h4 h5 hd hb => ?_⟩
  · have hfollow : s.RatesFollow t := by
      obtain ⟨d, v, r, rfl⟩ | ⟨b, rfl⟩ | ⟨d, rfl⟩ := hc
      · exact exec_mr4Read_follows he
      · exact exec_boardTemperatureChange_follows he
      · exact exec_debtPaymentComplete_follows he
    exact hfollow k
  · obtain ⟨r, b, rfl⟩ | ⟨l, m, f, rfl⟩ := hc
    · obtain ⟨hforbid, hrates⟩ := exec_refreshDue_rates he
      exact ⟨hforbid.trans hf, hrates⟩
    · have hsame := exec_dramCommandCycle_sameRates hf he
      exact ⟨hsame.forbid.trans hf, hsame.m, Nat.le_of_eq hsame.credit⟩
  · obtain ⟨t, idle, ht, hcycle⟩ := exec_dramCommandCycle_served timed rfm hk hs hfab hw
    rw [cycle_issues_owed rfm hs hf h3 h4 h5 hd hb] at hcycle
    exact ⟨t, ht, by rw [hcycle]; rfl, by rw [hcycle]⟩

end Sys2Proof.Machine
end

