-- ==== Sys2Proof/Proofs/References.lean ====
section
/-! PROOFS. References.lean: how a returned reference qualifies in HOLDOVER (R537). -/

namespace Sys2Proof.Machine

/-! What the root clock's counters and events leave as it is -/

@[simp] theorem clkBump_clk (s : State) (j : Nat) : (s.clkBump j).clk = s.clk := rfl
@[simp] theorem clkEvent_clk (s : State) (what cause : Nat) (value : Int) : (s.clkEvent what cause value).clk = s.clk := rfl
@[simp] theorem clkEvent_nat (s : State) (what cause : Nat) (value : Int) (i j : Nat) :
    (s.clkEvent what cause value).nat i j = s.nat i j := rfl
@[simp] theorem clkEvent_now (s : State) (what cause : Nat) (value : Int) : (s.clkEvent what cause value).now = s.now := rfl
@[simp] theorem setClk_nat (s : State) (c : Clock) (i j : Nat) : (s.setClk c).nat i j = s.nat i j := rfl
@[simp] theorem setClk_now (s : State) (c : Clock) : (s.setClk c).now = s.now := rfl
@[simp] theorem measure_clk (s : State) (i j : Nat) (v : Int) (at_ : Nat) : (s.measure i j v at_).clk = s.clk := rfl
@[simp] theorem requalify_clk (s : State) : s.requalify.clk = { s.clk with qualFrom := some s.now } := rfl

/-- PTP time reads OD 0x1500.04 and no counter of the root clock (R321, R545). -/
@[simp] theorem clkBump_now (s : State) (j : Nat) : (s.clkBump j).now = s.now := by
  have hadj : (s.clkBump j).num 0x1500 4 = s.num 0x1500 4 :=
    num_bump_ne s (by unfold okey; omega) (by decide)
  unfold State.now State.timeAt State.inc
  rw [hadj]
  rfl

/-- A counter of OD 0x1601 advances by one and wraps at 2^32; 0x0B holds the wrap flags (R545). -/
theorem nat_clkBump_same (s : State) {j : Nat} (hj : j < 256) (hw : j ≠ 0x0B) :
    (s.clkBump j).nat 0x1601 j = (s.nat 0x1601 j + 1) % 4294967296 :=
  nat_bump_same s hj (by unfold okey; omega)

/-! The commands of the reference in HOLDOVER -/

/-- A reference that returned at `t0` has run for the qualification time of OD 0x1600.03. -/
theorem qualified_iff {s : State} {t0 : Nat} (hq : s.clk.qualFrom = some t0) :
    s.qualified = true ↔ t0 + s.nat 0x1600 3 * 1000000 ≤ s.now := by
  simp [State.qualified, hq]

theorem exec_referenceQualified_early {s : State} (offset phase : Int) (hq : s.qualified = false) :
    exec (.referenceQualified offset phase) s = .next s := by
  change execReferenceQualified offset phase s = _
  simp [execReferenceQualified, hq]

section Holdover

variable {s : State} (hs : s.clk.state = 3)
include hs

theorem exec_referenceQualified_outOfRange {offset : Int} (phase : Int) (hq : s.qualified = true)
    (ho : 100000 < offset.natAbs) : exec (.referenceQualified offset phase) s =
      .next (((s.setClk { s.clk with ref := 3, qualFrom := some s.now }).clkBump 0x0A).clkEvent 3 0 offset) := by
  change execReferenceQualified offset phase s = _
  simp [execReferenceQualified, hq, hs, ho]

theorem exec_referenceQualified_inRange {offset : Int} (phase : Int) (hq : s.qualified = true)
    (ho : ¬100000 < offset.natAbs) : exec (.referenceQualified offset phase) s =
      .next ((((s.setClk { s.clk with state := 4, ref := 2, qualFrom := none }).measure 0x1601 5 phase s.now).clkBump 8).clkEvent
        2 0 phase) := by
  change execReferenceQualified offset phase s = _
  simp [execReferenceQualified, hq, hs, ho]

/-- A glitch is counted and at most reported once a second (R544), and the qualification time starts again. -/
theorem exec_referenceGlitch_holdover :
    ∃ t, exec .referenceGlitch s = .next t ∧ t.clk.state = 3 ∧ t.clk.qualFrom = some s.now := by
  change ∃ t, execReferenceGlitch s = .next t ∧ _
  by_cases hreport : s.clk.glitches.1 = 0 ∧ s.clk.glitches.2 = 0 ∨ s.clk.glitches.2 + 1000000000 ≤ s.now
  · simp only [execReferenceGlitch, clkBump_clk, clkBump_now, if_pos hreport, clkEvent_clk, setClk_clk, hs]
    exact ⟨_, rfl, rfl, by simp⟩
  · simp only [execReferenceGlitch, clkBump_clk, clkBump_now, if_neg hreport, setClk_clk, hs]
    exact ⟨_, rfl, rfl, by simp⟩

/-- A stop or a rate change starts the qualification time again. -/
theorem exec_referenceStop_holdover (kind : Nat) :
    ∃ t, exec (.referenceStop kind) s = .next t ∧ t.clk.state = 3 ∧ t.clk.qualFrom = some s.now := by
  change ∃ t, execReferenceStop kind s = .next t ∧ _
  simp [execReferenceStop, hs]

end Holdover

/-- Settles O60: the clock of R537 runs from `qualFrom` (`qualified_iff`), a glitch or a stop sets it to the present, and the
offset decides between REACQUIRING and out of range. -/
theorem referencesQualify : Obligations.ReferencesQualify := by
  refine ⟨fun s t0 offset phase hs hq ht hlo hhi => ?_, fun s t0 offset phase _ hq ht => ?_,
    fun s hs => exec_referenceGlitch_holdover hs, fun s hs => exec_referenceStop_holdover hs 1,
    fun s t0 offset phase hs hq ht ho => ?_⟩
  · have hin : ¬100000 < offset.natAbs := by omega
    exact ⟨_, exec_referenceQualified_inRange hs phase ((qualified_iff hq).2 ht) hin, by simp, by simp⟩
  · have hearly : ¬s.qualified = true := fun h => absurd ((qualified_iff hq).1 h) (Nat.not_le.2 ht)
    exact exec_referenceQualified_early offset phase (Bool.eq_false_iff.2 hearly)
  · have hout : 100000 < offset.natAbs := by omega
    refine ⟨_, exec_referenceQualified_outOfRange hs phase ((qualified_iff hq).2 ht) hout, by simp, by simp [hs], ?_, by simp⟩
    rw [clkEvent_nat, nat_clkBump_same _ (by decide) (by decide), setClk_nat]

end Sys2Proof.Machine
end
